-- ==== Sys2Proof/Word.lean ====
section
/-! DEFINITION. The words the manual treats as bits: bytes, 12-bit samples, the 32-bit timebase, and the two sides. -/

namespace Sys2Proof

/-- A byte of the host link, of a context image or of monitor pass-through traffic. -/
abbrev Byte := BitVec 8

/-- A value of the 32-bit microsecond timebase (R159), or a moment on it. -/
abbrev Time := BitVec 32

/-- A raw 12-bit sensor sample (R21). -/
abbrev Sample := BitVec 12

/-- The two sides. LEFT comes before RIGHT wherever the manual orders them. -/
inductive Side where
  | left
  | right
  deriving DecidableEq, Repr

/-- One copy of a thing for each side ("per side" in the manual). -/
structure Sides (α : Type) where
  left : α
  right : α
  deriving DecidableEq, Repr

/-- The copy of one side. -/
def Sides.get {α : Type} (p : Sides α) : Side → α
  | .left => p.left
  | .right => p.right

/-- Replace the copy of one side; the other side shares no state with it. -/
def Sides.set {α : Type} (p : Sides α) (sd : Side) (a : α) : Sides α :=
  match sd with
  | .left => { p with left := a }
  | .right => { p with right := a }

/-- The same value on both sides. -/
def Sides.both {α : Type} (a : α) : Sides α := ⟨a, a⟩

end Sys2Proof
end

