-- ==== Sys2Proof/Config.lean ====
section
/-! DEFINITION. The free values: what the manual leaves open and the part goes on with. None has a body, so nothing can be proved
of the value it takes. -/

namespace Sys2Proof

/-- Which of several events due at one idle moment is taken first: both orders are correct outcomes in the manual ("either may be
taken first"). DESIGN CHOICE, log entry 2. Safe. -/
opaque Config.takenFirst : Nat → Nat

/-- The values shown in STATUS by name only, for which Record Layouts gives no code. -/
inductive Config.StatusItem where
  | sensorLink
  | wakeSource
  | pipelineActivity
  | toneCurve
  | nightSource
  | compositorActivity
  | slotState
  | contentKind
  | monitorLink
  | lastOutcome
  deriving DecidableEq, Repr

/-- The byte that STATUS carries for the n-th value of such a list, in the order its rule lists the values. The manual gives these
lists no codes. DESIGN CHOICE, log entry 19. Safe. -/
opaque Config.statusCode : Config.StatusItem → Nat → Byte

/-- The display signature that STATUS shows for a FILLING slot, whose record is "not yet complete" (R88), at a given timebase value.
DESIGN CHOICE, log entry 20. Safe. -/
opaque Config.unformedSignature : Time → BitVec 32

end Sys2Proof
end

