-- ==== Sys2Proof/Syntax.lean ====
section
/-! DEFINITION. The commands: one constructor for each row of spec/opcode_table.json, with the operands its rule names. -/

namespace Sys2Proof

/-- The two fields of the vehicle input record (R160, R168). -/
inductive VehicleField where
  | angle
  | lux
  deriving DecidableEq, Repr

/-- What every request frame carries beside its kind and payload (R164, Record Layouts 12.1): its tag byte and the CRC-16 it was
received with, right or wrong. -/
structure ReqHead where
  tag : Byte
  crc : BitVec 16
  deriving DecidableEq, Repr

/-- A command: an event of the opcode table, taken whole and one at a time. A request's constructor is the arrival of that request's
last byte (log entry 17); a deadline's constructor is the timebase reaching that deadline (log entry 3). -/
inductive Instr where
  /-- IDENTITY_RECORD (R3): a 64-bit sensor identity and an 8-bit revision. -/
  | identityRecord (sd : Side) (identity : BitVec 64) (revision : Byte)
  /-- TRAINING_DEADLINE (R4). -/
  | trainingDeadline (sd : Side)
  /-- RETRAIN_TIME (R5). -/
  | retrainTime (sd : Side)
  /-- LOSS_DEADLINE (R6). -/
  | lossDeadline (sd : Side)
  /-- SENSOR_HEADER (R8): frame counter, applied exposure index, applied ratio code, sensor-health flag. -/
  | sensorHeader (sd : Side) (counter : BitVec 16) (exposure ratio : Byte) (healthy : Bool)
  /-- SENSOR_LINE (R9): 1,920 samples and the CRC the line carries. -/
  | sensorLine (sd : Side) (samples : Array Sample) (crc : BitVec 16)
  /-- STATISTICS_COMPLETION (R27). -/
  | statisticsCompletion (sd : Side)
  /-- DEVELOPMENT_COMPLETION (R32). -/
  | developmentCompletion (sd : Side)
  /-- COMPOSITION_COMPLETION (R87). -/
  | compositionCompletion (sd : Side)
  /-- NIGHT_EVALUATION (R49). -/
  | nightEvaluation
  /-- WAKE_DEADLINE (R99). -/
  | wakeDeadline (sd : Side)
  /-- WAKE_RETRY_TIME (R99). -/
  | wakeRetryTime (sd : Side)
  /-- READY (R100): a 32-bit monitor identity. -/
  | ready (sd : Side) (identity : BitVec 32)
  /-- CALL (R100). -/
  | call (sd : Side)
  /-- SCAN_START (R105). -/
  | scanStart (sd : Side)
  /-- HOLD_EXPIRY (R104), log entry 7. -/
  | holdExpiry (sd : Side)
  /-- ECHO_SILENCE (R107), log entry 8. -/
  | echoSilence (sd : Side)
  /-- ECHO (R106): the CRC-32 the monitor computed. -/
  | echo (sd : Side) (signature : BitVec 32)
  /-- MONITOR_STATUS (R109): fault flag and temperature in two's complement. -/
  | monitorStatus (sd : Side) (fault : Bool) (temperature : Byte)
  /-- MONITOR_REPLY (R110): 0 … 32 bytes. -/
  | monitorReply (sd : Side) (bytes : List Byte)
  /-- VEHICLE_EXPIRY (R121). -/
  | vehicleExpiry (field : VehicleField)
  /-- SAVE_DEADLINE (R145). -/
  | saveDeadline (sd : Side)
  /-- WAKE_LINE_EDGE (R155): the level the line moves to. -/
  | wakeLineEdge (high : Bool)
  /-- SUPPLY_ON (R158). -/
  | supplyOn
  /-- SUPPLY_LOSS (R158). -/
  | supplyLoss
  /-- NRST_ASSERTED (R158). -/
  | nrstAsserted
  /-- RESET_END (R153): whether the AUTOSTART strap selects STARTING, and the WAKE line level, as sampled at step 4. -/
  | resetEnd (autostart wakeHigh : Bool)
  /-- PARTIAL_DEADLINE (R162). -/
  | partialDeadline
  /-- CHIP_SELECT_RELEASE (R162): whether the release falls in the middle of a byte. -/
  | chipSelectRelease (midByte : Bool)
  /-- LINK_RESET (R163): the 64th consecutive 0xFF byte. -/
  | linkReset
  /-- OVERLONG_REQUEST (R161): the low length byte arrives and the length is above 1,024. -/
  | overlongRequest (kind tag : Byte) (length : BitVec 16)
  /-- UNKNOWN_KIND_REQUEST (R164 step 3). -/
  | unknownKindRequest (head : ReqHead) (kind : Byte) (payload : List Byte)
  /-- READ_TRANSACTION (R165): the byte 0xC3. -/
  | readTransaction
  /-- REPLY_READ (R165): the reply being shifted out is clocked to its last CRC byte. -/
  | replyRead
  /-- IDENT (R166). -/
  | ident (head : ReqHead)
  /-- GET (R166). -/
  | get (head : ReqHead) (group scope : Byte)
  /-- STATUS (R166). -/
  | status (head : ReqHead)
  /-- SET (R167): group, scope, presence mask and the values of the present fields. -/
  | set (head : ReqHead) (group scope : Byte) (mask : BitVec 32) (values : List Byte)
  /-- VEHICLE (R168): presence byte, angle in two's complement, lux. -/
  | vehicle (head : ReqHead) (presence : Byte) (angle : BitVec 16) (lux : BitVec 32)
  /-- OVERLAY_SET (R84): operation 0. -/
  | overlaySet (head : ReqHead) (display id : Byte) (row x0 x1 : BitVec 16) (thickness palette : Byte)
  /-- OVERLAY_DELETE (R84): operation 1; the item bytes are sent and not read (R170). -/
  | overlayDelete (head : ReqHead) (display id : Byte) (row x0 x1 : BitVec 16) (thickness palette : Byte)
  /-- FAULTCTL (R126): mask presence, mask values, clear set. -/
  | faultctl (head : ReqHead) (presence values : BitVec 16) (clear : BitVec 64)
  /-- LOCK (R127). -/
  | lock (head : ReqHead)
  /-- COLLECT (R135). -/
  | collect (head : ReqHead) (n : Byte)
  /-- CTX_SAVE_IMMEDIATE (R144): mode 0. -/
  | ctxSaveImmediate (head : ReqHead) (side resetAfter : Byte)
  /-- CTX_SAVE_SETTLED (R145): mode 1. -/
  | ctxSaveSettled (head : ReqHead) (side resetAfter : Byte)
  /-- CTX_LOAD (R147): side and image bytes. -/
  | ctxLoad (head : ReqHead) (side : Byte) (image : List Byte)
  /-- MONITOR (R110). -/
  | monitor (head : ReqHead) (display : Byte) (bytes : List Byte)
  /-- DISPLAY_ENABLE (R97): argument on. -/
  | displayEnable (head : ReqHead) (display : Byte)
  /-- DISPLAY_DISABLE (R97): argument off. -/
  | displayDisable (head : ReqHead) (display : Byte)
  /-- POWER_PARK (R157): argument 0. -/
  | powerPark (head : ReqHead)
  /-- POWER_WAKE (R155): argument 1. -/
  | powerWake (head : ReqHead)
  /-- POWER_RESET (R158): argument 2. -/
  | powerReset (head : ReqHead)
  /-- REQUEST_BYTE (R161): any byte clocked in while chip select is asserted. -/
  | requestByte (byte : Byte)
  deriving DecidableEq, Repr

end Sys2Proof
end

