-- ==== Sys2Proof/WellFormed.lean ====
section
/-! DEFINITION. Which commands a link can carry: the bounds that the manual puts on the operands whose Lean type is wider. -/

namespace Sys2Proof

/-- A line holds 1920 raw samples (01, 1.2 Frames). -/
def wellFormedLine (samples : Array Sample) : Bool := samples.size == 1920

/-- A monitor reply holds 0 … 32 bytes (06, R110). -/
def wellFormedReply (bytes : List Byte) : Bool := bytes.length ≤ 32

/-- An OVERLONG_REQUEST has a length above 1,024 (R161). -/
def wellFormedOverlong (length : BitVec 16) : Bool := 1024 < length.toNat

/-- The fourteen request kinds have the codes 1 … 14 (Record Layouts). -/
def knownKind (kind : Byte) : Bool := 1 ≤ kind.toNat && kind.toNat ≤ 14

/-- A payload holds at most 1,024 bytes (11, introduction). -/
def payloadFits (n : Nat) : Bool := n ≤ 1024

/-- Whether a link can carry the command at all. -/
def Instr.wellFormed : Instr → Bool
  | .sensorLine _ samples _ => wellFormedLine samples
  | .monitorReply _ bytes => wellFormedReply bytes
  | .overlongRequest _ _ length => wellFormedOverlong length
  | .unknownKindRequest _ kind payload => !knownKind kind && payloadFits payload.length
  | .set _ _ _ _ values => payloadFits (6 + values.length)
  | .ctxLoad _ _ image => payloadFits (1 + image.length)
  | .monitor _ _ bytes => payloadFits (1 + bytes.length)
  | .identityRecord _ _ _ => true
  | .trainingDeadline _ => true
  | .retrainTime _ => true
  | .lossDeadline _ => true
  | .sensorHeader _ _ _ _ _ => true
  | .statisticsCompletion _ => true
  | .developmentCompletion _ => true
  | .compositionCompletion _ => true
  | .nightEvaluation => true
  | .wakeDeadline _ => true
  | .wakeRetryTime _ => true
  | .ready _ _ => true
  | .call _ => true
  | .scanStart _ => true
  | .holdExpiry _ => true
  | .echoSilence _ => true
  | .echo _ _ => true
  | .monitorStatus _ _ _ => true
  | .vehicleExpiry _ => true
  | .saveDeadline _ => true
  | .wakeLineEdge _ => true
  | .supplyOn => true
  | .supplyLoss => true
  | .nrstAsserted => true
  | .resetEnd _ _ => true
  | .partialDeadline => true
  | .chipSelectRelease _ => true
  | .linkReset => true
  | .readTransaction => true
  | .replyRead => true
  | .ident _ => true
  | .get _ _ _ => true
  | .status _ => true
  | .vehicle _ _ _ _ => true
  | .overlaySet _ _ _ _ _ _ _ _ => true
  | .overlayDelete _ _ _ _ _ _ _ _ => true
  | .faultctl _ _ _ _ => true
  | .lock _ => true
  | .collect _ _ => true
  | .ctxSaveImmediate _ _ _ => true
  | .ctxSaveSettled _ _ _ => true
  | .displayEnable _ _ => true
  | .displayDisable _ _ => true
  | .powerPark _ => true
  | .powerWake _ => true
  | .powerReset _ => true
  | .requestByte _ => true

end Sys2Proof
end

