-- ==== Sys2Proof/Machine/State.lean ====
section
/-! DEFINITION. The state of the part, block by block, as plain data, and its value right after reset. -/

namespace Sys2Proof.Machine

open Sys2Proof

/-! ### Why a command can stop -/

/-- The model's own stop. The manual gives the part none. -/
inductive Fault where
  /-- Raised by a command whose operands no link can carry (`Instr.wellFormed` is false). Safe: the hardware has no such event.
  Log entry 27. -/
  | malformed
  deriving DecidableEq, Repr

/-- No meaning of this model refuses. -/
inductive Refusal where
  /-- Raised by an arm of `exec` that has no meaning yet. Safe: it stops. No arm uses it. -/
  | notModelled (mnemonic : String)
  deriving DecidableEq, Repr

/-! ### Power controller (R152) -/

/-- Power state, codes 0 … 3 in this order (Record Layouts). -/
inductive PowerState where
  | off
  | parked
  | starting
  | running
  deriving DecidableEq, Repr

/-- Last wake source (R152). -/
inductive WakeSource where
  | autostart
  | request
  | line
  deriving DecidableEq, Repr

/-- Restart cause, codes 0 … 2 in this order (Record Layouts). -/
inductive RestartCause where
  | powerOn
  | resetPin
  | resetRequest
  deriving DecidableEq, Repr

/-- Which reset holds the part in OFF, if any (R158). -/
inductive Hold where
  /-- Out of reset. -/
  | released
  /-- No supply. -/
  | noSupply
  /-- A power-on is being held. -/
  | powerOn
  /-- A part reset is being held; whether nRST was asserted at any time during it. -/
  | partReset (pin : Bool)
  deriving DecidableEq, Repr

structure Power where
  state : PowerState
  lastWake : Option WakeSource
  /-- The WAKE reference level; true is high. -/
  wakeLevel : Bool
  /-- The AUTOSTART strap as sampled; true selects STARTING. -/
  autostart : Bool
  hold : Hold
  deriving DecidableEq, Repr

/-! ### Sensor port (R1, R16, R17) -/

inductive PortLink where
  | down
  | training
  | streaming
  | lost
  deriving DecidableEq, Repr

/-- A trained identity record. -/
structure SensorId where
  identity : BitVec 64
  revision : Byte
  deriving DecidableEq, Repr

/-- The four values of a sensor header. -/
structure Header where
  counter : BitVec 16
  exposure : Byte
  ratio : Byte
  healthy : Bool
  deriving DecidableEq, Repr

/-- A line as received, good or bad by its CRC (R9). -/
structure Line where
  samples : Array Sample
  good : Bool
  deriving DecidableEq, Repr

/-- The frame in progress: lines in arrival order, long 0, short 0, long 1, … (1.2 Frames). -/
structure FrameInProgress where
  header : Header
  capture : Time
  lines : Array Line
  deriving DecidableEq, Repr

/-- An exposure command as recorded (R12). -/
structure Commanded where
  e : Nat
  ratio : Nat
  deriving DecidableEq, Repr

/-- The port counters in the order of R16. -/
structure PortCounters where
  framesValid : Nat
  discardHeader : Nat
  discardLines : Nat
  discardRepeat : Nat
  discardIncomplete : Nat
  crcFailures : Nat
  linesRepaired : Nat
  trainings : Nat
  trainingFailures : Nat
  losses : Nat
  resends : Nat
  deriving DecidableEq, Repr

structure Port where
  link : PortLink
  trained : Option SensorId
  lastCounter : Option (BitVec 16)
  inProgress : Option FrameInProgress
  lastExpose : Option Commanded
  outstanding : Bool
  resendDone : Bool
  unsettledRun : Nat
  trainingDeadline : Option Time
  retrainTime : Option Time
  lossDeadline : Option Time
  lastHeader : Option Header
  /-- Capture time of the most recent valid frame (R17). -/
  lastCapture : Option Time
  counters : PortCounters
  deriving DecidableEq, Repr

/-! ### Settings groups: active values, and pending copies with each field absent or a value -/

/-- Zones are numbered in grid order: zone (c, r) is 16 × r + c. A map over the zones is a list of 128 in that order. -/
abbrev ZoneMap (α : Type) := List α

structure ExposureGroup where
  blackLevel : Nat
  ratioCode : Nat
  eMin : Nat
  eMax : Nat
  tTarget : Nat
  aeGain : Nat
  maxStep : Nat
  metering : ZoneMap Nat
  deriving DecidableEq, Repr

structure ExposurePending where
  blackLevel : Option Nat
  ratioCode : Option Nat
  eMin : Option Nat
  eMax : Option Nat
  tTarget : Option Nat
  aeGain : Option Nat
  maxStep : Option Nat
  metering : Option (ZoneMap Nat)
  deriving DecidableEq, Repr

/-- A tone curve: 21 knots (R29). -/
abbrev Curve := List Nat

structure ToneGroup where
  day : Curve
  night : Curve
  deriving DecidableEq, Repr

structure TonePending where
  day : Option Curve
  night : Option Curve
  deriving DecidableEq, Repr

structure GlareGroup where
  enable : Bool
  knee : Nat
  strength : Nat
  aMax : Nat
  spreadDrop : Nat
  attack : Nat
  release : Nat
  brightThreshold : Nat
  countThreshold : Nat
  deriving DecidableEq, Repr

structure GlarePending where
  enable : Option Bool
  knee : Option Nat
  strength : Option Nat
  aMax : Option Nat
  spreadDrop : Option Nat
  attack : Option Nat
  release : Option Nat
  brightThreshold : Option Nat
  countThreshold : Option Nat
  deriving DecidableEq, Repr

/-- A window in sensor pixels. -/
structure Window where
  x : Nat
  y : Nat
  w : Nat
  h : Nat
  deriving DecidableEq, Repr

/-- A colour of 10 bits per channel. -/
structure Colour where
  r : Nat
  g : Nat
  b : Nat
  deriving DecidableEq, Repr

structure ViewGroup where
  mainWindow : Window
  wideWindow : Window
  mirror : Bool
  /-- pan_direction: true is PLUS_X, false is MINUS_X (their codes are 1 and 0). -/
  plusX : Bool
  panGain : Nat
  panMax : Nat
  panRate : Nat
  palette : List Colour
  deriving DecidableEq, Repr

structure ViewPending where
  mainWindow : Option Window
  wideWindow : Option Window
  mirror : Option Bool
  plusX : Option Bool
  panGain : Option Nat
  panMax : Option Nat
  panRate : Option Nat
  palette : Option (List Colour)
  deriving DecidableEq, Repr

structure NightGroup where
  eDusk : Nat
  eNight : Nat
  hysteresis : Nat
  luxDusk : Nat
  luxNight : Nat
  dwell : Nat
  deriving DecidableEq, Repr

structure NightPending where
  eDusk : Option Nat
  eNight : Option Nat
  hysteresis : Option Nat
  luxDusk : Option Nat
  luxNight : Option Nat
  dwell : Option Nat
  deriving DecidableEq, Repr

structure BacklightGroup where
  day : Nat
  dusk : Nat
  night : Nat
  trimLeft : Int
  trimRight : Int
  deriving DecidableEq, Repr

structure BacklightPending where
  day : Option Nat
  dusk : Option Nat
  night : Option Nat
  trimLeft : Option Int
  trimRight : Option Int
  deriving DecidableEq, Repr

/-- The FAULT group, which has no pending copy (R122). vehicle_input_timeout is in milliseconds. -/
structure FaultGroup where
  frozenLimit : Nat
  holdLimit : Nat
  latencyBudget : Nat
  vehicleTimeout : Nat
  attentionThreshold : Nat
  deriving DecidableEq, Repr

/-! ### Development pipeline (R18, R37) -/

/-- A valid frame as the port hands it on (R11): its lines after repair and its values. -/
structure Frame where
  number : BitVec 16
  capture : Time
  exposure : Byte
  ratio : Byte
  settled : Bool
  repaired : Nat
  long : Array (Array Sample)
  short : Array (Array Sample)
  deriving DecidableEq, Repr

/-- What a frame start latches (R20). -/
structure Latched where
  blackLevel : Nat
  gainR : Nat
  gainB : Nat
  brightThreshold : Nat
  knee : Nat
  grid : ZoneMap Nat
  /-- Zone tags; true is VALID. -/
  tags : ZoneMap Bool
  nightCurve : Bool
  curve : Curve
  deriving DecidableEq, Repr

/-- A developed frame: its pixels are a function of the frame's lines and what its frame start latched (log entry 10). -/
structure Developed where
  frame : Frame
  latched : Latched
  deriving DecidableEq, Repr

inductive BufName where
  | a
  | b
  deriving DecidableEq, Repr

/-- A development buffer (2.6). -/
inductive Buffer where
  | free
  | writing
  | waiting (d : Developed)
  | reading (d : Developed)
  deriving DecidableEq, Repr

/-- The frame in development, the buffer it writes, and statistics done. -/
structure InDevelopment where
  source : Developed
  buffer : BufName
  statsDone : Bool
  deriving DecidableEq, Repr

structure Pipeline where
  /-- The activity is DEVELOPING while a frame is in development and IDLE otherwise. -/
  dev : Option InDevelopment
  intake : Option Frame
  bufA : Buffer
  bufB : Buffer
  expAct : ExposureGroup
  expPend : ExposurePending
  toneAct : ToneGroup
  tonePend : TonePending
  lastSignature : Option (BitVec 32)
  framesDeveloped : Nat
  bufferDrops : Nat
  intakeDrops : Nat
  deriving DecidableEq, Repr

/-! ### Exposure controller (R38) -/

structure Exposure where
  e : Nat
  gainR : Nat
  gainB : Nat
  lastMean : Option Nat
  lastWeight : Nat
  lastError : Option Int
  wbZones : Nat
  wbTargetR : Option Nat
  wbTargetB : Option Nat
  settledCommits : Nat
  unsettledCommits : Nat
  exposureChanges : Nat
  deriving DecidableEq, Repr

/-! ### Glare unit (R59) -/

structure Glare where
  grid : ZoneMap Nat
  tags : ZoneMap Bool
  act : GlareGroup
  pend : GlarePending
  lastAtMax : Nat
  lastAttenuated : Nat
  deriving DecidableEq, Repr

/-! ### Night state controller (R48) -/

/-- Night state, codes 0 … 2 in this order. -/
inductive NightState where
  | day
  | dusk
  | night
  deriving DecidableEq, Repr

inductive NightSource where
  | none
  | lux
  | exposure
  deriving DecidableEq, Repr

structure Night where
  state : NightState
  dwellCount : Nat
  dwellTarget : Option NightState
  lastSource : NightSource
  sourceSeen : Bool
  nextEval : Option Time
  target : Sides Nat
  nightAct : NightGroup
  nightPend : NightPending
  backAct : BacklightGroup
  backPend : BacklightPending
  deriving DecidableEq, Repr

/-! ### View compositor (R77) -/

inductive Content where
  | normal
  | faultPattern
  deriving DecidableEq, Repr

/-- An overlay item (R84). -/
structure Overlay where
  id : Nat
  row : Nat
  x0 : Nat
  x1 : Nat
  thickness : Nat
  palette : Nat
  deriving DecidableEq, Repr

/-- What a compositor frame start latches for one raster (R79). `pannedX` is R83's. -/
structure LatchedView where
  mainWindow : Window
  pannedX : Nat
  wideWindow : Window
  mirror : Bool
  palette : List Colour
  overlays : List Overlay
  deriving DecidableEq, Repr

/-- The content of a composed raster; its pixels are a function of it (log entry 10). -/
inductive Raster where
  /-- The two fields cut from a developed frame, with overlays (R81, R85). -/
  | view (source : Developed) (latched : LatchedView)
  /-- The fault pattern, whose cross has palette entry 0 (R86). -/
  | fault (cross : Colour)
  /-- The display port's start pattern (6.3). -/
  | start
  deriving DecidableEq, Repr

/-- The composition in flight: its kind, the developed frame it took with the buffer that frame stands in, and the latched view.
Its slot is the display's FILLING slot. -/
structure Composition where
  kind : Content
  source : Option (BufName × Developed)
  latched : LatchedView
  deriving DecidableEq, Repr

structure Compositor where
  /-- The activity is COMPOSING while a composition is in flight and IDLE otherwise. -/
  inFlight : Option Composition
  blankRequest : Bool
  panOffset : Nat
  panTarget : Nat
  angleFresh : Bool
  overlays : List Overlay
  act : ViewGroup
  pend : ViewPending
  deriving DecidableEq, Repr

/-! ### Frame store (R88, R95) -/

structure SlotRecord where
  number : Option (BitVec 16)
  capture : Option Time
  kind : Content
  signature : BitVec 32
  raster : Raster
  deriving DecidableEq, Repr

inductive Slot where
  | free
  | filling
  | ready (r : SlotRecord)
  | shown (r : SlotRecord)
  deriving DecidableEq, Repr

structure FrameStore where
  slot0 : Slot
  slot1 : Slot
  slot2 : Slot
  normalComposed : Nat
  faultComposed : Nat
  slotDrops : Nat
  scanRepeats : Nat
  emptyScans : Nat
  deriving DecidableEq, Repr

/-! ### Display port (R96, R111) -/

inductive MonitorLink where
  | off
  | hibernate
  | waking
  | synced
  deriving DecidableEq, Repr

/-- Display state, codes 0 … 4 in this order. -/
inductive DisplayState where
  | dark
  | priming
  | live
  | hold
  | blanked
  deriving DecidableEq, Repr

/-- A monitor status (R109); the temperature is two's complement. -/
structure MonitorStatus where
  fault : Bool
  temperature : Byte
  arrival : Time
  deriving DecidableEq, Repr

/-- The display port counters in the order of R111. -/
structure DisplayCounters where
  framesSent : Nat
  startPatternsSent : Nat
  wakeBursts : Nat
  wakeFailures : Nat
  callsIgnored : Nat
  echoesMatched : Nat
  echoMismatches : Nat
  echoSilences : Nat
  pathResyncs : Nat
  monitorReplies : Nat
  deriving DecidableEq, Repr

structure Display where
  enabled : Bool
  link : MonitorLink
  wakeAttempt : Nat
  wakeDeadline : Option Time
  wakeRetry : Option Time
  nextScan : Option Time
  identity : Option (BitVec 32)
  state : DisplayState
  holdCount : Nat
  /-- Signatures sent and not confirmed, oldest first. -/
  echoList : List (BitVec 32)
  silence : Nat
  lastStatus : Option MonitorStatus
  /-- The age last compared by VIEW_STALE's evaluation (R111). -/
  lastAge : Option Time
  /-- The outbound monitor queue, oldest first. -/
  outQueue : List (List Byte)
  backlight : Nat
  counters : DisplayCounters
  deriving DecidableEq, Repr

/-! ### Fault supervisor (R112, R113) -/

/-- The 24 fault identities (R112), in the order of their codes. -/
inductive FaultId where
  | sensorLost (sd : Side)
  | frozen (sd : Side)
  | viewStale (sd : Side)
  | displayLink (sd : Side)
  | displayPath (sd : Side)
  | monitorFault (sd : Side)
  | obscured (sd : Side)
  | sensorControl (sd : Side)
  | exposureLimit (sd : Side)
  | glareSaturated (sd : Side)
  | vehicleInputStale
  | contextRejected (sd : Side)
  | hostLinkError
  deriving DecidableEq, Repr

/-- A set of fault identities, as Record Layouts holds it: identity code c at bit c of 64. -/
abbrev FaultSet := BitVec 64

/-- A set of classes, as Record Layouts holds it: class c at bit c − 1 of 16. -/
abbrev ClassSet := BitVec 16

/-- The per-condition runs of one side (R113). -/
structure Runs where
  recovery : Nat
  frozenSame : Nat
  frozenChange : Nat
  frozenPrevious : Option (BitVec 32)
  limitRun : Nat
  limitClear : Nat
  saturation : Nat
  satRelease : Nat
  obscuredRaise : Nat
  obscuredClear : Nat
  pathMatch : Nat
  staleClear : Nat
  deriving DecidableEq, Repr

structure Faults where
  current : FaultSet
  accrued : FaultSet
  /-- The masked classes. -/
  masks : ClassSet
  locked : Bool
  group : FaultGroup
  expiryAngle : Option Time
  expiryLux : Option Time
  runs : Sides Runs
  /-- Flat zones of the last commit (R129). -/
  flatZones : Sides Nat
  deriving DecidableEq, Repr

/-! ### Report queue (R130, R131) -/

/-- A report by its kind; the kind fixes urgency, subject form and detail (R131). -/
inductive Report where
  | faultRaised (f : FaultId) (posted : Bool)
  | faultCleared (f : FaultId)
  | displayChanged (sd : Side) (old new : DisplayState)
  | powerChanged (old new : PowerState)
  /-- CONTEXT_RESULT, outcome applied. -/
  | contextApplied (sd : Side)
  /-- CONTEXT_RESULT, outcome rejected, reason IDENTITY. -/
  | contextRejected (sd : Side)
  | monitorReply (sd : Side) (bytes : List Byte)
  | restarted (cause : RestartCause)
  | overrun (lost : Nat)
  deriving DecidableEq, Repr

structure Entry where
  report : Report
  time : Time
  deriving DecidableEq, Repr

structure ReportQueue where
  /-- Oldest first. -/
  entries : List Entry
  attn : Bool
  lost : Nat
  deriving DecidableEq, Repr

/-! ### Context store (R140, R151) -/

/-- A context image (R143) that has passed R147, less its version, side and CRC. -/
structure Image where
  settled : Bool
  resetAfter : Bool
  night : NightState
  e : Nat
  identity : BitVec 64
  gainR : Nat
  gainB : Nat
  backlight : Nat
  framesAdapted : Nat
  grid : ZoneMap Nat
  tags : ZoneMap Bool
  deriving DecidableEq, Repr

/-- A save in flight; its mode is SETTLED (R145). -/
structure Save where
  resetAfter : Bool
  deadline : Time
  deriving DecidableEq, Repr

inductive RestoreOutcome where
  | none
  | applied
  | rejectedIdentity
  | discardedRetained
  deriving DecidableEq, Repr

structure Context where
  framesAdapted : Nat
  committedNight : NightState
  identityCopy : Option (BitVec 64)
  pendingRestore : Option Image
  save : Option Save
  lastOutcome : RestoreOutcome
  saves : Nat
  loadsAccepted : Nat
  loadsRefused : Nat
  restoresApplied : Nat
  restoresRejected : Nat
  retainedDiscards : Nat
  deriving DecidableEq, Repr

/-! ### Host link interface (R160) -/

/-- A reply frame (12.1): the fault summary is its three bytes. -/
structure Reply where
  kind : Byte
  tag : Byte
  result : Byte
  summary : List Byte
  payload : List Byte
  deriving DecidableEq, Repr

/-- The reply being shifted out, the next byte position, and whether that reply is the one the holder still holds (R165). -/
structure Reading where
  bytes : List Byte
  pos : Nat
  held : Bool
  deriving DecidableEq, Repr

/-- The link counters in the order of R160. -/
structure LinkCounters where
  requestsTaken : Nat
  crcFailures : Nat
  framingErrors : Nat
  requestsRefused : Nat
  busyDrops : Nat
  linkResets : Nat
  emptyReads : Nat
  deriving DecidableEq, Repr

structure HostLink where
  /-- The partial request's bytes, 0xA5 first. -/
  partialReq : Option (List Byte)
  partialDeadline : Option Time
  ffRun : Nat
  reading : Option Reading
  holder : Option Reply
  /-- Busy, with the tag of the request in progress. -/
  busy : Option Byte
  busyDrop : Bool
  /-- The angle in tenths of a degree with its arrival time. -/
  angle : Option (Int × Time)
  lux : Option (Nat × Time)
  counters : LinkCounters
  deriving DecidableEq, Repr

/-! ### What the part sends -/

/-- A message the part puts on a link. -/
inductive Sent where
  | train (sd : Side)
  | stream (sd : Side)
  | expose (sd : Side) (e ratio : Nat)
  | halt (sd : Side)
  | wakeBurst (sd : Side)
  | sleepNotice (sd : Side)
  /-- A frame to a monitor: the backlight level in its header, then a raster. -/
  | frame (sd : Side) (backlight : Nat) (raster : Raster)
  | passThrough (sd : Side) (bytes : List Byte)
  /-- Reply bytes shifted out to the host. -/
  | hostBytes (bytes : List Byte)
  deriving DecidableEq, Repr

/-! ### The whole -/

structure State where
  timebase : Time
  power : Power
  restartCause : RestartCause
  ports : Sides Port
  pipes : Sides Pipeline
  exposures : Sides Exposure
  glares : Sides Glare
  night : Night
  comps : Sides Compositor
  stores : Sides FrameStore
  displays : Sides Display
  faults : Faults
  queue : ReportQueue
  contexts : Sides Context
  link : HostLink
  /-- The model's own: messages sent so far, oldest first (log entry 9). -/
  sent : List Sent
  /-- The model's own: free choices made so far among events due at one idle moment (log entry 2). -/
  raceCount : Nat
  /-- The model's own: the commands waiting, first in first out (log entry 5). -/
  pending : List Instr
  deriving DecidableEq, Repr

/-! ### Values after a power-on -/

/-- R1, column After power-on. -/
def Port.reset : Port where
  link := .down
  trained := none
  lastCounter := none
  inProgress := none
  lastExpose := none
  outstanding := false
  resendDone := false
  unsettledRun := 0
  trainingDeadline := none
  retrainTime := none
  lossDeadline := none
  lastHeader := none
  lastCapture := none
  counters := ⟨0, 0, 0, 0, 0, 0, 0, 0, 0, 0, 0⟩

/-- The defaults of R20 and R40. -/
def ExposureGroup.default : ExposureGroup where
  blackLevel := 64
  ratioCode := 6
  eMin := 16
  eMax := 240
  tTarget := 16384
  aeGain := 8
  maxStep := 8
  metering := List.replicate 16 0 ++ List.replicate 112 1

def ExposurePending.empty : ExposurePending := ⟨none, none, none, none, none, none, none, none⟩

/-- The defaults of R29. -/
def ToneGroup.default : ToneGroup where
  day := (List.range 21).map fun k => min 1023 (64 * (k - 4))
  night := (List.range 21).map fun k => min 1023 (56 * (k - 3))

def TonePending.empty : TonePending := ⟨none, none⟩

/-- The defaults of R60. -/
def GlareGroup.default : GlareGroup where
  enable := true
  knee := 65536
  strength := 16
  aMax := 64
  spreadDrop := 8
  attack := 16
  release := 2
  brightThreshold := 262144
  countThreshold := 40

def GlarePending.empty : GlarePending := ⟨none, none, none, none, none, none, none, none, none⟩

/-- The defaults of R78. -/
def ViewGroup.default : ViewGroup where
  mainWindow := ⟨1020, 0, 900, 1080⟩
  wideWindow := ⟨0, 312, 1920, 768⟩
  mirror := true
  plusX := false
  panGain := 8
  panMax := 400
  panRate := 8
  palette := [⟨1023, 0, 0⟩, ⟨1023, 1023, 0⟩, ⟨0, 1023, 0⟩, ⟨1023, 1023, 1023⟩]

def ViewPending.empty : ViewPending := ⟨none, none, none, none, none, none, none, none⟩

/-- The defaults of R51. -/
def NightGroup.default : NightGroup := ⟨176, 208, 12, 400, 20, 10⟩

def NightPending.empty : NightPending := ⟨none, none, none, none, none, none⟩

/-- The defaults of R54. -/
def BacklightGroup.default : BacklightGroup := ⟨1023, 600, 180, 0, 0⟩

def BacklightPending.empty : BacklightPending := ⟨none, none, none, none, none⟩

/-- The defaults of R122. -/
def FaultGroup.default : FaultGroup := ⟨4, 30, 40000, 500, 1⟩

/-- R18, column After power-on. -/
def Pipeline.reset : Pipeline where
  dev := none
  intake := none
  bufA := .free
  bufB := .free
  expAct := .default
  expPend := .empty
  toneAct := .default
  tonePend := .empty
  lastSignature := none
  framesDeveloped := 0
  bufferDrops := 0
  intakeDrops := 0

/-- R38, column After power-on. -/
def Exposure.reset : Exposure where
  e := 128
  gainR := 256
  gainB := 256
  lastMean := none
  lastWeight := 0
  lastError := none
  wbZones := 0
  wbTargetR := none
  wbTargetB := none
  settledCommits := 0
  unsettledCommits := 0
  exposureChanges := 0

/-- R59, column After power-on. -/
def Glare.reset : Glare where
  grid := List.replicate 128 0
  tags := List.replicate 128 false
  act := .default
  pend := .empty
  lastAtMax := 0
  lastAttenuated := 0

/-- R48, column After power-on. -/
def Night.reset : Night where
  state := .day
  dwellCount := 0
  dwellTarget := none
  lastSource := .none
  sourceSeen := false
  nextEval := none
  target := .both 1023
  nightAct := .default
  nightPend := .empty
  backAct := .default
  backPend := .empty

/-- R77, column After power-on. -/
def Compositor.reset : Compositor where
  inFlight := none
  blankRequest := false
  panOffset := 0
  panTarget := 0
  angleFresh := false
  overlays := []
  act := .default
  pend := .empty

/-- R88 and R95 after power-on. -/
def FrameStore.reset : FrameStore := ⟨.free, .free, .free, 0, 0, 0, 0, 0⟩

/-- R96, column After power-on. -/
def Display.reset : Display where
  enabled := true
  link := .hibernate
  wakeAttempt := 0
  wakeDeadline := none
  wakeRetry := none
  nextScan := none
  identity := none
  state := .dark
  holdCount := 0
  echoList := []
  silence := 0
  lastStatus := none
  lastAge := none
  outQueue := []
  backlight := 1023
  counters := ⟨0, 0, 0, 0, 0, 0, 0, 0, 0, 0⟩

/-- All runs 0 and the FROZEN previous signature absent (R113). -/
def Runs.zero : Runs := ⟨0, 0, 0, none, 0, 0, 0, 0, 0, 0, 0, 0⟩

/-- R113, column After power-on. -/
def Faults.reset : Faults where
  current := 0
  accrued := 0
  masks := 0
  locked := false
  group := .default
  expiryAngle := none
  expiryLux := none
  runs := .both .zero
  flatZones := .both 0

/-- R140, column After power-on. -/
def Context.reset : Context where
  framesAdapted := 0
  committedNight := .day
  identityCopy := none
  pendingRestore := none
  save := none
  lastOutcome := .none
  saves := 0
  loadsAccepted := 0
  loadsRefused := 0
  restoresApplied := 0
  restoresRejected := 0
  retainedDiscards := 0

/-- R160, column After power-on and part reset. -/
def HostLink.reset : HostLink where
  partialReq := none
  partialDeadline := none
  ffRun := 0
  reading := none
  holder := none
  busy := none
  busyDrop := false
  angle := none
  lux := none
  counters := ⟨0, 0, 0, 0, 0, 0, 0⟩

/-- The machine right after reset: the end of a power-on (R153) whose AUTOSTART strap selects PARKED and whose WAKE line is low
(DESIGN CHOICE, log entry 4). The queue holds RESTARTED and the STATE_CHANGED of step 5, and ATTN is asserted (R138, R137). -/
def State.reset : State where
  timebase := 0
  power := ⟨.parked, none, false, false, .released⟩
  restartCause := .powerOn
  ports := .both .reset
  pipes := .both .reset
  exposures := .both .reset
  glares := .both .reset
  night := .reset
  comps := .both .reset
  stores := .both .reset
  displays := .both .reset
  faults := .reset
  queue := ⟨[⟨.restarted .powerOn, 0⟩, ⟨.powerChanged .off .parked, 0⟩], true, 0⟩
  contexts := .both .reset
  link := .reset
  sent := []
  raceCount := 0
  pending := []

/-! ### One side's copy of each block, and its replacement -/

def State.port (s : State) (sd : Side) : Port := s.ports.get sd
def State.pipe (s : State) (sd : Side) : Pipeline := s.pipes.get sd
def State.exposure (s : State) (sd : Side) : Exposure := s.exposures.get sd
def State.glare (s : State) (sd : Side) : Glare := s.glares.get sd
def State.comp (s : State) (sd : Side) : Compositor := s.comps.get sd
def State.store (s : State) (sd : Side) : FrameStore := s.stores.get sd
def State.display (s : State) (sd : Side) : Display := s.displays.get sd
def State.context (s : State) (sd : Side) : Context := s.contexts.get sd
def State.runs (s : State) (sd : Side) : Runs := s.faults.runs.get sd

def State.setPort (s : State) (sd : Side) (v : Port) : State := { s with ports := s.ports.set sd v }
def State.setPipe (s : State) (sd : Side) (v : Pipeline) : State := { s with pipes := s.pipes.set sd v }
def State.setExposure (s : State) (sd : Side) (v : Exposure) : State := { s with exposures := s.exposures.set sd v }
def State.setGlare (s : State) (sd : Side) (v : Glare) : State := { s with glares := s.glares.set sd v }
def State.setComp (s : State) (sd : Side) (v : Compositor) : State := { s with comps := s.comps.set sd v }
def State.setStore (s : State) (sd : Side) (v : FrameStore) : State := { s with stores := s.stores.set sd v }
def State.setDisplay (s : State) (sd : Side) (v : Display) : State := { s with displays := s.displays.set sd v }
def State.setContext (s : State) (sd : Side) (v : Context) : State := { s with contexts := s.contexts.set sd v }
def State.setRuns (s : State) (sd : Side) (v : Runs) : State :=
  { s with faults := { s.faults with runs := s.faults.runs.set sd v } }
def State.setTimebase (s : State) (v : Time) : State := { s with timebase := v }
def State.setPower (s : State) (v : Power) : State := { s with power := v }
def State.setNight (s : State) (v : Night) : State := { s with night := v }
def State.setFaults (s : State) (v : Faults) : State := { s with faults := v }
def State.setQueue (s : State) (v : ReportQueue) : State := { s with queue := v }
def State.setLink (s : State) (v : HostLink) : State := { s with link := v }

/-- RDY is asserted while the holder holds a reply (R165). -/
def State.rdy (s : State) : Bool := s.link.holder.isSome

end Sys2Proof.Machine
end

