-- ==== Sys2Proof/Machine/Flags.lean ====
section
/-! DEFINITION. Fault identities and their codes, sets of identities and of classes, masks, report urgencies, and the saturating
counters. -/

namespace Sys2Proof.Machine

open Sys2Proof

/-! ### Saturating counters: 32 bits wide, stopping at 2^32 − 1 (R16, R37, R95, R111, R151, R160) -/

def counterMax : Nat := 4294967295

/-- One more, saturating. -/
def satInc (n : Nat) : Nat := min (n + 1) counterMax

/-- k more, saturating. -/
def satAdd (n k : Nat) : Nat := min (n + k) counterMax

/-- x limited to lo … hi, written clamp(x, lo, hi) in the manual. -/
def clampNat (x lo hi : Nat) : Nat := max lo (min x hi)

/-- clamp on integers. -/
def clampInt (x lo hi : Int) : Int := max lo (min x hi)

/-- x moved toward target by at most step: x + clamp(target − x, −step, step). -/
def approach (x target step : Nat) : Nat :=
  if x < target then min target (x + step) else max target (x - step)

/-! ### Identities (R112) -/

/-- The class of an identity, which is also its priority. -/
def FaultId.cls : FaultId → Nat
  | .sensorLost _ => 1
  | .frozen _ => 2
  | .viewStale _ => 3
  | .displayLink _ => 4
  | .displayPath _ => 5
  | .monitorFault _ => 6
  | .obscured _ => 7
  | .sensorControl _ => 8
  | .exposureLimit _ => 9
  | .glareSaturated _ => 10
  | .vehicleInputStale => 11
  | .contextRejected _ => 12
  | .hostLinkError => 13

/-- The code of a side or display: LEFT 0, RIGHT 1. -/
def sideCode : Side → Nat
  | .left => 0
  | .right => 1

/-- The scope of an identity: LEFT 0, RIGHT 1, COMMON 2. -/
def FaultId.scope : FaultId → Nat
  | .sensorLost sd => sideCode sd
  | .frozen sd => sideCode sd
  | .viewStale sd => sideCode sd
  | .displayLink sd => sideCode sd
  | .displayPath sd => sideCode sd
  | .monitorFault sd => sideCode sd
  | .obscured sd => sideCode sd
  | .sensorControl sd => sideCode sd
  | .exposureLimit sd => sideCode sd
  | .glareSaturated sd => sideCode sd
  | .vehicleInputStale => 2
  | .contextRejected sd => sideCode sd
  | .hostLinkError => 2

/-- The identity code, class × 4 + scope. -/
def FaultId.code (f : FaultId) : Nat := f.cls * 4 + f.scope

/-- The event identities, which are never current. -/
def FaultId.isEvent : FaultId → Bool
  | .contextRejected _ => true
  | .hostLinkError => true
  | _ => false

/-- The side of a view-loss identity: SENSOR_LOST, FROZEN or VIEW_STALE. -/
def FaultId.viewLossSide : FaultId → Option Side
  | .sensorLost sd => some sd
  | .frozen sd => some sd
  | .viewStale sd => some sd
  | _ => none

/-- The report urgency of an identity's class, 16 − priority. -/
def FaultId.urgency (f : FaultId) : Nat := 16 - f.cls

/-- The 24 identities in the order of their codes. -/
def FaultId.all : List FaultId :=
  [.sensorLost .left, .sensorLost .right, .frozen .left, .frozen .right, .viewStale .left, .viewStale .right,
   .displayLink .left, .displayLink .right, .displayPath .left, .displayPath .right, .monitorFault .left, .monitorFault .right,
   .obscured .left, .obscured .right, .sensorControl .left, .sensorControl .right, .exposureLimit .left, .exposureLimit .right,
   .glareSaturated .left, .glareSaturated .right, .vehicleInputStale, .contextRejected .left, .contextRejected .right,
   .hostLinkError]

/-! ### Sets of identities and of classes -/

/-- Whether an identity is in a set. -/
def FaultSet.has (x : FaultSet) (f : FaultId) : Bool := x.getLsbD f.code

/-- A set with one identity more. -/
def FaultSet.insert (x : FaultSet) (f : FaultId) : FaultSet := x ||| (1#64 <<< f.code)

/-- A set with one identity less. -/
def FaultSet.erase (x : FaultSet) (f : FaultId) : FaultSet := x &&& ~~~(1#64 <<< f.code)

/-- All 24 identities as a set; an identity set with a bit outside it names a code that is not an identity (R170). -/
def FaultSet.every : FaultSet := FaultId.all.foldl FaultSet.insert 0

/-- The code of the highest-priority identity of a set, 0 when it is empty (R128). -/
def FaultSet.top (x : FaultSet) : Nat := ((FaultId.all.find? fun f => FaultSet.has x f).map FaultId.code).getD 0

/-- Whether class c is in a class set. -/
def ClassSet.has (x : ClassSet) (c : Nat) : Bool := x.getLsbD (c - 1)

/-- The maskable classes 6 … 13 (R123). -/
def ClassSet.maskable : ClassSet := 0x1FE0#16

/-- The classes 1 … 5, which are never masked (R123). -/
def ClassSet.unmaskable : ClassSet := 0x001F#16

/-- The class of an identity is unmasked. -/
def Faults.unmasked (x : Faults) (f : FaultId) : Bool := !ClassSet.has x.masks f.cls

/-- A view-loss fault of the side is current (6.3). -/
def Faults.viewLoss (x : Faults) (sd : Side) : Bool :=
  FaultSet.has x.current (.sensorLost sd) || FaultSet.has x.current (.frozen sd) || FaultSet.has x.current (.viewStale sd)

/-! ### Urgency of a report (R131) -/

def Report.urgency : Report → Nat
  | .faultRaised f _ => f.urgency
  | .faultCleared f => f.urgency
  | .displayChanged _ _ _ => 2
  | .powerChanged _ _ => 2
  | .contextApplied _ => 2
  | .contextRejected _ => 2
  | .monitorReply _ _ => 1
  | .restarted _ => 15
  | .overrun _ => 15

def Report.isOverrun : Report → Bool
  | .overrun _ => true
  | _ => false

/-- The level of ATTN for these entries and this attention_threshold (R137). -/
def attnLevel (threshold : Nat) (entries : List Entry) : Bool :=
  entries.any fun e => e.report.isOverrun || threshold ≤ e.report.urgency

end Sys2Proof.Machine
end

