-- ==== Sys2Proof/Machine/Pixel.lean ====
section
/-! DEFINITION. The arithmetic of the image: CRCs, the piecewise logarithm and the attenuation multiplier, the ten development stages
(R21 to R30), glare compression (R69 to R71), zone statistics (R26), and the composed raster (R81, R85, R86, R87). -/

namespace Sys2Proof.Machine

open Sys2Proof

/-! ### CRCs (R169) -/

/-- One byte into a CRC-16 with polynomial 0x1021, most significant bit first. -/
def crc16Byte (c : BitVec 16) (b : Byte) : BitVec 16 :=
  (List.range 8).foldl (fun c _ => if c.msb then (c <<< 1) ^^^ 0x1021#16 else c <<< 1) (c ^^^ (b.setWidth 16 <<< 8))

/-- CRC-16: initial value 0xFFFF, no reflection, no final inversion. -/
def crc16 (bytes : List Byte) : BitVec 16 := bytes.foldl crc16Byte 0xFFFF#16

/-- The bytes of a sample: two, high byte first. -/
def sampleBytes (x : Sample) : List Byte := [(x >>> 8).setWidth 8, x.setWidth 8]

/-- The CRC-16 of a sensor line over its samples (R9). -/
def lineCrc (samples : Array Sample) : BitVec 16 := crc16 (samples.toList.flatMap sampleBytes)

/-- One byte into a reflected CRC-32 with polynomial 0x04C11DB7, least significant bit first. -/
def crc32Byte (c : BitVec 32) (b : Byte) : BitVec 32 :=
  (List.range 8).foldl (fun c _ => if c.getLsbD 0 then (c >>> 1) ^^^ 0xEDB88320#32 else c >>> 1) (c ^^^ b.setWidth 32)

/-- CRC-32: initial value 0xFFFFFFFF, inverted at the end. -/
def crc32 (bytes : List Byte) : BitVec 32 := ~~~(bytes.foldl crc32Byte 0xFFFFFFFF#32)

/-! ### The two functions of the glare unit -/

/-- The piecewise logarithm L (R57). -/
def logL (x : Nat) : Nat :=
  if x = 0 then 0
  else
    let p := x.log2
    16 * p + (if 4 ≤ p then x / 2 ^ (p - 4) % 16 else x * 2 ^ (4 - p) % 16)

/-- The attenuation multiplier M in units of 1/65,536 (R58). -/
def attenM (a : Nat) : Nat := (65536 - 2048 * (a % 16)) / 2 ^ (a / 16)

/-! ### Zones -/

def zoneCount : Nat := 128

/-- Zone numbers in grid order. -/
def zones : List Nat := List.range zoneCount

def zoneCol (n : Nat) : Nat := n % 16
def zoneRow (n : Nat) : Nat := n / 16
def zoneAt (c r : Nat) : Nat := 16 * r + c

/-! ### Stages 1 to 3: one photosite -/

/-- Stage 1: black level, saturating at 0 (R21). -/
def blackSub (black raw : Nat) : Nat := raw - black

/-- Stage 2: the merge of a long and a short sample under a ratio code (R22). -/
def merge (code lg sh : Nat) : Nat :=
  let w := min (lg - 3328) 256
  (lg * (256 - w) + sh * 2 ^ code * w) / 256

/-- Luma and merged values stop here: the 20-bit range. -/
def lumaMax : Nat := 1048575

/-- Stage 3 at an R or B photosite (R23). -/
def balance (gain merged : Nat) : Nat := min (merged * gain / 256) lumaMax

/-- The colour filter of a photosite (02, introduction). -/
inductive Filter where
  | r
  | g
  | b
  deriving DecidableEq, Repr

def filterAt (x y : Nat) : Filter :=
  if y % 2 = 0 then (if x % 2 = 0 then .r else .g) else (if x % 2 = 0 then .g else .b)

/-- A raw sample of an exposure of the frame. -/
def sampleAt (lines : Array (Array Sample)) (x y : Nat) : Nat := ((lines.getD y #[]).getD x 0).toNat

/-- The merged value of photosite (x, y), after stages 1 and 2. -/
def Developed.merged (d : Developed) (x y : Nat) : Nat :=
  merge d.frame.ratio.toNat (blackSub d.latched.blackLevel (sampleAt d.frame.long x y))
    (blackSub d.latched.blackLevel (sampleAt d.frame.short x y))

/-- The balanced value of photosite (x, y), after stage 3. -/
def Developed.balanced (d : Developed) (x y : Nat) : Nat :=
  match filterAt x y with
  | .r => balance d.latched.gainR (d.merged x y)
  | .g => d.merged x y
  | .b => balance d.latched.gainB (d.merged x y)

/-! ### Stages 4 and 5: demosaic and luma -/

def frameWidth : Nat := 1920
def frameHeight : Nat := 1080

/-- The coordinate before i, mirrored about the edge photosite (R24). -/
def before (i : Nat) : Nat := if i = 0 then 1 else i - 1

/-- The coordinate after i in a line of n, mirrored about the edge photosite (R24). -/
def after (n i : Nat) : Nat := if i + 1 = n then n - 2 else i + 1

/-- Mean of the left and right sites. -/
def meanSides (v : Nat → Nat → Nat) (x y : Nat) : Nat := (v (before x) y + v (after frameWidth x) y) / 2

/-- Mean of the sites above and below. -/
def meanAboveBelow (v : Nat → Nat → Nat) (x y : Nat) : Nat := (v x (before y) + v x (after frameHeight y)) / 2

/-- Mean of the four edge neighbours. -/
def meanCross (v : Nat → Nat → Nat) (x y : Nat) : Nat :=
  (v (before x) y + v (after frameWidth x) y + v x (before y) + v x (after frameHeight y)) / 4

/-- Mean of the four diagonal neighbours. -/
def meanDiagonal (v : Nat → Nat → Nat) (x y : Nat) : Nat :=
  (v (before x) (before y) + v (after frameWidth x) (before y) + v (before x) (after frameHeight y)
    + v (after frameWidth x) (after frameHeight y)) / 4

/-- Stage 4: full colour of a pixel from the balanced values (R24). -/
def demosaic (v : Nat → Nat → Nat) (x y : Nat) : Colour :=
  match filterAt x y with
  | .r => ⟨v x y, meanCross v x y, meanDiagonal v x y⟩
  | .b => ⟨meanDiagonal v x y, meanCross v x y, v x y⟩
  | .g =>
    if y % 2 = 0 then ⟨meanSides v x y, v x y, meanAboveBelow v x y⟩
    else ⟨meanAboveBelow v x y, v x y, meanSides v x y⟩

/-- Stage 5: luma (R25). -/
def luma (c : Colour) : Nat := (77 * c.r + 150 * c.g + 29 * c.b) / 256

def Developed.colour (d : Developed) (x y : Nat) : Colour := demosaic d.balanced x y

def Developed.lumaAt (d : Developed) (x y : Nat) : Nat := luma (d.colour x y)

/-! ### Stage 6: zone statistics (R26) -/

structure ZoneRecord where
  meanY : Nat
  maxY : Nat
  minY : Nat
  bright : Nat
  meanR : Nat
  meanG : Nat
  meanB : Nat
  flat : Bool
  deriving DecidableEq, Repr

/-- The pixel coordinates of zone n, row by row. -/
def zonePixels (n : Nat) : List (Nat × Nat) :=
  (List.range 135).flatMap fun j => (List.range 120).map fun i => (120 * zoneCol n + i, 135 * zoneRow n + j)

/-- floor of the mean of a list. -/
def meanOf (l : List Nat) : Nat := l.sum / l.length

/-- The mean of the merged values at the zone's photosites of one colour. -/
def filterMean (merged : Nat → Nat → Nat) (f : Filter) (pixels : List (Nat × Nat)) : Nat :=
  meanOf ((pixels.filter fun p => filterAt p.1 p.2 = f).map fun p => merged p.1 p.2)

/-- The record of one zone from its lumas and its merged values. -/
def zoneRecord (lumas : Nat → Nat → Nat) (merged : Nat → Nat → Nat) (brightThreshold n : Nat) : ZoneRecord :=
  let pixels := zonePixels n
  let ys := pixels.map fun p => lumas p.1 p.2
  let hi := ys.foldl max 0
  let lo := ys.foldl min lumaMax
  { meanY := meanOf ys
    maxY := hi
    minY := lo
    bright := ys.countP (brightThreshold ≤ ·)
    meanR := filterMean merged .r pixels
    meanG := filterMean merged .g pixels
    meanB := filterMean merged .b pixels
    flat := hi - lo < 2048 }

/-- The 128 records of a frame in grid order. -/
def Developed.records (d : Developed) : List ZoneRecord :=
  zones.map (zoneRecord d.lumaAt d.merged d.latched.brightThreshold)

/-- n as k big-endian bytes. -/
def beBytes (k n : Nat) : List Byte := (List.range k).map fun i => BitVec.ofNat 8 (n / 256 ^ (k - 1 - i))

/-- The 21 bytes of a record in the content signature (R27). -/
def ZoneRecord.bytes (z : ZoneRecord) : List Byte :=
  beBytes 3 z.meanY ++ beBytes 3 z.maxY ++ beBytes 3 z.minY ++ beBytes 2 z.bright ++ beBytes 3 z.meanR ++ beBytes 3 z.meanG
    ++ beBytes 3 z.meanB ++ beBytes 1 (if z.flat then 1 else 0)

/-- Stage 10: the content signature (R27). -/
def contentSignature (records : List ZoneRecord) : BitVec 32 := crc32 (records.flatMap ZoneRecord.bytes)

/-! ### Stage 7: glare compression -/

/-- The gain a corner zone contributes: 0 while its latched tag is EMPTY (R70). -/
def cornerGain (grid : ZoneMap Nat) (tags : ZoneMap Bool) (c r : Nat) : Nat :=
  if tags.getD (zoneAt c r) false then grid.getD (zoneAt c r) 0 else 0

/-- The rounded bilinear mix of four gains (R70). -/
def bilinear (g00 g10 g01 g11 dx dy : Nat) : Nat :=
  (g00 * (120 - dx) * (135 - dy) + g10 * dx * (135 - dy) + g01 * (120 - dx) * dy + g11 * dx * dy + 8100) / 16200

/-- The gain of pixel (x, y) (R69, R70). -/
def pixelGain (grid : ZoneMap Nat) (tags : ZoneMap Bool) (x y : Nat) : Nat :=
  let xq := clampNat x 60 1860
  let yq := clampNat y 67 1012
  let cl := (xq - 60) / 120
  let cr := min (cl + 1) 15
  let rt := (yq - 67) / 135
  let rb := min (rt + 1) 7
  bilinear (cornerGain grid tags cl rt) (cornerGain grid tags cr rt) (cornerGain grid tags cl rb) (cornerGain grid tags cr rb)
    (xq - (120 * cl + 60)) (yq - (135 * rt + 67))

/-- The compressed luma (R71). -/
def compress (knee a y : Nat) : Nat := if y ≤ knee then y else knee + (y - knee) * attenM a / 65536

/-! ### Stages 8 and 9: tone and colour output -/

/-- The tone value of a luma through a curve (R29). -/
def tone (curve : Curve) (y : Nat) : Nat :=
  let u := logL y
  let k := u / 16
  let lo := curve.getD k 0
  lo + (curve.getD (k + 1) 0 - lo) * (u % 16) / 16

/-- One output channel (R30). -/
def outChannel (c t y : Nat) : Nat := if y = 0 then 0 else min 1023 (c * t / y)

/-- The output colour of pixel (x, y) of a developed frame (R28 to R30). -/
def Developed.pixel (d : Developed) (x y : Nat) : Colour :=
  let c := d.colour x y
  let l := luma c
  let t := tone d.latched.curve (compress d.latched.knee (pixelGain d.latched.grid d.latched.tags x y) l)
  ⟨outChannel c.r t l, outChannel c.g t l, outChannel c.b t l⟩

/-! ### The composed raster -/

/-- The sensor coordinate for a target pixel of a field th rows tall and 800 columns wide (R81). -/
def fieldSource (w : Window) (mirror : Bool) (th tx ty : Nat) : Nat × Nat :=
  let mx := if mirror then 799 - tx else tx
  (w.x + mx * w.w / 800, w.y + ty * w.h / th)

/-- An overlay item covers a raster pixel (R85). -/
def Overlay.covers (o : Overlay) (row col : Nat) : Bool :=
  o.row ≤ row && row < o.row + o.thickness && o.x0 ≤ col && col ≤ o.x1

/-- The pixel lies on the cross of a field th rows tall (R86). -/
def onCross (th tx ty : Nat) : Bool :=
  let d (a b : Nat) : Nat := (a - b) + (b - a)
  d ty (tx * th / 800) ≤ 2 || d ty ((799 - tx) * th / 800) ≤ 2

/-- The colour of a raster pixel, row 0 … 1,279 and column 0 … 799. -/
def Raster.pixel (x : Raster) (row col : Nat) : Colour :=
  match x with
  | .start => ⟨64, 64, 64⟩
  | .fault cross =>
    let on := if row < 960 then onCross 960 col row else onCross 320 col (row - 960)
    if on then cross else ⟨256, 256, 256⟩
  | .view src v =>
    match v.overlays.reverse.find? fun o => o.covers row col with
    | some o => v.palette.getD o.palette ⟨0, 0, 0⟩
    | none =>
      let p := if row < 960 then fieldSource { v.mainWindow with x := v.pannedX } v.mirror 960 col row
        else fieldSource v.wideWindow v.mirror 320 col (row - 960)
      src.pixel p.1 p.2

/-- The six bytes of a raster pixel in the display signature (R87). -/
def Colour.bytes (c : Colour) : List Byte := beBytes 2 c.r ++ beBytes 2 c.g ++ beBytes 2 c.b

/-- The display signature of a raster: CRC-32 over its pixel stream, row by row (R87). -/
def displaySignature (x : Raster) : BitVec 32 :=
  ~~~((List.range 1280).foldl (fun c row =>
    (List.range 800).foldl (fun c col => (x.pixel row col).bytes.foldl crc32Byte c) c) 0xFFFFFFFF#32)

/-- The start signature (R105). -/
def startSignature : BitVec 32 := displaySignature .start

end Sys2Proof.Machine
end

