-- ==== Sys2Proof/Machine/Operands.lean ====
section
/-! DEFINITION. The byte forms of Record Layouts: codes, fields and their widths, the values of a SET and how each is judged (R167), the
fields of a GET, reply frames, report entries and context images. -/

namespace Sys2Proof.Machine

open Sys2Proof

/-! ### Values as bytes, big-endian -/

/-- The value of big-endian bytes. -/
def beNat (l : List Byte) : Nat := l.foldl (fun n b => 256 * n + b.toNat) 0

/-- A signed value in two bytes, two's complement. -/
def i16Bytes (z : Int) : List Byte := beBytes 2 (BitVec.ofInt 16 z).toNat

/-- The signed value of two bytes. -/
def i16Of (l : List Byte) : Int := (BitVec.ofNat 16 (beNat l)).toInt

def boolByte (b : Bool) : List Byte := [if b then 1 else 0]

/-- An optional value: a presence byte, then the value's bytes, 0 when absent (R170). -/
def optBytes {α : Type} (width : Nat) (enc : α → List Byte) : Option α → List Byte
  | some a => 1#8 :: enc a
  | none => 0#8 :: List.replicate width 0#8

def be16 (w : BitVec 16) : List Byte := beBytes 2 w.toNat
def be32 (w : BitVec 32) : List Byte := beBytes 4 w.toNat
def be64 (w : BitVec 64) : List Byte := beBytes 8 w.toNat

/-! ### Codes -/

/-- A byte that names LEFT or RIGHT. -/
def sideOf (b : Byte) : Option Side := if b = 0 then some .left else if b = 1 then some .right else none

/-- The request kinds, codes 1 … 14. -/
inductive Kind where
  | ident
  | set
  | get
  | status
  | vehicle
  | overlay
  | faultctl
  | collect
  | ctxSave
  | ctxLoad
  | monitor
  | display
  | power
  | lock
  deriving DecidableEq, Repr

def Kind.code : Kind → Byte
  | .ident => 1
  | .set => 2
  | .get => 3
  | .status => 4
  | .vehicle => 5
  | .overlay => 6
  | .faultctl => 7
  | .collect => 8
  | .ctxSave => 9
  | .ctxLoad => 10
  | .monitor => 11
  | .display => 12
  | .power => 13
  | .lock => 14

/-- The kind a code names. -/
def kindOf (b : Byte) : Option Kind :=
  [Kind.ident, .set, .get, .status, .vehicle, .overlay, .faultctl, .collect, .ctxSave, .ctxLoad, .monitor, .display, .power,
    .lock].find? fun k => k.code = b

/-- The result codes (R164). -/
inductive Result where
  | ok
  | okAdjusted
  | refusedState
  | refusedLocked
  | refusedFull
  | badKind
  | badLength
  | badArgument
  | badCrc
  | noReply
  deriving DecidableEq, Repr

def Result.code : Result → Byte
  | .ok => 0
  | .okAdjusted => 1
  | .refusedState => 2
  | .refusedLocked => 3
  | .refusedFull => 4
  | .badKind => 5
  | .badLength => 6
  | .badArgument => 7
  | .badCrc => 8
  | .noReply => 9

def PowerState.code : PowerState → Byte
  | .off => 0
  | .parked => 1
  | .starting => 2
  | .running => 3

def DisplayState.code : DisplayState → Byte
  | .dark => 0
  | .priming => 1
  | .live => 2
  | .hold => 3
  | .blanked => 4

def NightState.code : NightState → Byte
  | .day => 0
  | .dusk => 1
  | .night => 2

def nightOf (n : Nat) : Option NightState :=
  if n = 0 then some .day else if n = 1 then some .dusk else if n = 2 then some .night else none

def RestartCause.code : RestartCause → Byte
  | .powerOn => 0
  | .resetPin => 1
  | .resetRequest => 2

/-- The reasons of a context refusal (Record Layouts). -/
inductive Reason where
  | side
  | crc
  | version
  | format
  | identity
  deriving DecidableEq, Repr

def Reason.code : Reason → Byte
  | .side => 1
  | .crc => 2
  | .version => 3
  | .format => 4
  | .identity => 5

/-- The settings groups, codes 0 … 6. -/
inductive Group where
  | exposure
  | glare
  | tone
  | view
  | night
  | backlight
  | fault
  deriving DecidableEq, Repr

def groupOf (b : Byte) : Option Group :=
  if b = 0 then some .exposure else if b = 1 then some .glare else if b = 2 then some .tone else if b = 3 then some .view
  else if b = 4 then some .night else if b = 5 then some .backlight else if b = 6 then some .fault else none

/-- The groups that exist once per side; the others are common (R167). -/
def Group.isSideGroup : Group → Bool
  | .exposure => true
  | .glare => true
  | .tone => true
  | .view => true
  | .night => false
  | .backlight => false
  | .fault => false

/-- The field widths of a group in presence order (12.3). -/
def Group.widths : Group → List Nat
  | .exposure => [2, 1, 1, 1, 4, 1, 1, 32]
  | .glare => [1, 4, 1, 1, 1, 1, 1, 4, 2]
  | .tone => [42, 42]
  | .view => [8, 8, 1, 1, 1, 2, 1, 24]
  | .night => [1, 1, 1, 2, 2, 1]
  | .backlight => [2, 2, 2, 2, 2]
  | .fault => [1, 1, 4, 2, 1]

/-! ### The values of a SET -/

/-- The bytes of each field of a group: absent where its presence bit is clear. -/
def splitFields : List Nat → Nat → BitVec 32 → List Byte → List (Option (List Byte))
  | [], _, _, _ => []
  | w :: ws, i, mask, bytes =>
    if mask.getLsbD i then some (bytes.take w) :: splitFields ws (i + 1) mask (bytes.drop w)
    else none :: splitFields ws (i + 1) mask bytes

/-- The sum of the widths of the present fields (R170). -/
def presentWidth : List Nat → Nat → BitVec 32 → Nat
  | [], _, _ => 0
  | w :: ws, i, mask => (if mask.getLsbD i then w else 0) + presentWidth ws (i + 1) mask

/-- The present fields of a SET, by index. -/
structure Fields where
  bytes : List (Option (List Byte))
  deriving DecidableEq, Repr

def Fields.raw (f : Fields) (i : Nat) : Option (List Byte) := f.bytes.getD i none
def Fields.num (f : Fields) (i : Nat) : Option Nat := (f.raw i).map beNat
def Fields.signed (f : Fields) (i : Nat) : Option Int := (f.raw i).map i16Of

/-- Presence, clamped and ignored masks: field i at bit i. -/
def maskOf (l : List Bool) : BitVec 32 := (l.reverse).foldl (fun m b => (m <<< 1) ||| (if b then 1#32 else 0#32)) 0#32

/-- What a SET leaves in a copy, with its clamped and ignored masks (R167). -/
structure Written (α : Type) where
  value : α
  clamped : BitVec 32
  ignored : BitVec 32

/-- A numeric field: written clamped to its range; the old value where absent. -/
def clampField (lo hi : Nat) (v old : Option Nat) : Option Nat :=
  match v with
  | some x => some (clampNat x lo hi)
  | none => old

/-- A numeric field was out of range. -/
def outOf (lo hi : Nat) (v : Option Nat) : Bool :=
  match v with
  | some x => decide (x < lo) || decide (hi < x)
  | none => false

def clampSigned (lo hi : Int) (v old : Option Int) : Option Int :=
  match v with
  | some x => some (clampInt x lo hi)
  | none => old

def outOfSigned (lo hi : Int) (v : Option Int) : Bool :=
  match v with
  | some x => decide (x < lo) || decide (hi < x)
  | none => false

/-- A choice field: 0 or 1 is written, anything else ignored and kept. -/
def choiceField (v : Option Nat) (old : Option Bool) : Option Bool :=
  match v with
  | some 0 => some false
  | some 1 => some true
  | _ => old

def choiceIgnored (v : Option Nat) : Bool := outOf 0 1 v

/-- A structural field: written where its check passes, ignored and kept otherwise. -/
def structField {α : Type} (ok : α → Bool) (v old : Option α) : Option α :=
  match v with
  | some x => if ok x then some x else old
  | none => old

def structIgnored {α : Type} (ok : α → Bool) (v : Option α) : Bool :=
  match v with
  | some x => !ok x
  | none => false

/-- A limit of a structural pair: written where the pair's check passes. -/
def pairField (ok : Bool) (v old : Option Nat) : Option Nat := if ok then (v <|> old) else old

/-- The 128 weights of a metering map's 32 bytes (12.3). -/
def meteringOf (bytes : List Byte) : ZoneMap Nat :=
  zones.map fun n => (bytes.getD (n / 4) 0).toNat / 2 ^ (6 - 2 * (n % 4)) % 4

def meteringBytes (m : ZoneMap Nat) : List Byte :=
  (List.range 32).map fun i =>
    BitVec.ofNat 8 (64 * m.getD (4 * i) 0 + 16 * m.getD (4 * i + 1) 0 + 4 * m.getD (4 * i + 2) 0 + m.getD (4 * i + 3) 0)

/-- n values of two bytes each. -/
def words16 (n : Nat) (bytes : List Byte) : List Nat := (List.range n).map fun i => beNat ((bytes.drop (2 * i)).take 2)

def windowOf (bytes : List Byte) : Window :=
  let v := words16 4 bytes
  ⟨v.getD 0 0, v.getD 1 0, v.getD 2 0, v.getD 3 0⟩

def windowBytes (w : Window) : List Byte := beBytes 2 w.x ++ beBytes 2 w.y ++ beBytes 2 w.w ++ beBytes 2 w.h

/-- A window is accepted for a field th rows tall and 800 columns wide (R78). -/
def windowOk (th : Nat) (w : Window) : Bool :=
  w.x + w.w ≤ 1920 && w.y + w.h ≤ 1080 && 800 ≤ 2 * w.w && th ≤ 2 * w.h

/-- A curve is accepted: within 0 … 1023 and non-decreasing (R29). -/
def curveOk : Curve → Bool
  | [] => true
  | [k] => k ≤ 1023
  | k :: l :: rest => k ≤ l && curveOk (l :: rest)

def colourOf (v : List Nat) (i : Nat) : Colour := ⟨v.getD (3 * i) 0, v.getD (3 * i + 1) 0, v.getD (3 * i + 2) 0⟩

def paletteOf (bytes : List Byte) : List Colour := (List.range 4).map (colourOf (words16 12 bytes))

def clampColour (c : Colour) : Colour := ⟨min c.r 1023, min c.g 1023, min c.b 1023⟩

/-- A SET to EXPOSURE (R20, R40). E_min and E_max are judged as a pair at the values the next application would give them. -/
def writeExposure (f : Fields) (act : ExposureGroup) (p : ExposurePending) : Written ExposurePending :=
  let lo := ((f.num 2 <|> p.eMin)).getD act.eMin
  let hi := ((f.num 3 <|> p.eMax)).getD act.eMax
  let ok := decide (lo ≤ hi)
  { value :=
      { blackLevel := clampField 0 512 (f.num 0) p.blackLevel
        ratioCode := clampField 4 8 (f.num 1) p.ratioCode
        eMin := pairField ok (f.num 2) p.eMin
        eMax := pairField ok (f.num 3) p.eMax
        tTarget := clampField 1024 262143 (f.num 4) p.tTarget
        aeGain := clampField 1 16 (f.num 5) p.aeGain
        maxStep := clampField 1 32 (f.num 6) p.maxStep
        metering := (f.raw 7).map meteringOf <|> p.metering }
    clamped := maskOf [outOf 0 512 (f.num 0), outOf 4 8 (f.num 1), false, false, outOf 1024 262143 (f.num 4),
      outOf 1 16 (f.num 5), outOf 1 32 (f.num 6)]
    ignored := maskOf [false, false, (f.num 2).isSome && !ok, (f.num 3).isSome && !ok] }

/-- A SET to GLARE (R60). -/
def writeGlare (f : Fields) (p : GlarePending) : Written GlarePending :=
  { value :=
      { enable := choiceField (f.num 0) p.enable
        knee := clampField 4096 524288 (f.num 1) p.knee
        strength := clampField 0 32 (f.num 2) p.strength
        aMax := clampField 0 96 (f.num 3) p.aMax
        spreadDrop := clampField 0 32 (f.num 4) p.spreadDrop
        attack := clampField 1 96 (f.num 5) p.attack
        release := clampField 1 16 (f.num 6) p.release
        brightThreshold := clampField 65536 1048575 (f.num 7) p.brightThreshold
        countThreshold := clampField 1 16200 (f.num 8) p.countThreshold }
    clamped := maskOf [false, outOf 4096 524288 (f.num 1), outOf 0 32 (f.num 2), outOf 0 96 (f.num 3), outOf 0 32 (f.num 4),
      outOf 1 96 (f.num 5), outOf 1 16 (f.num 6), outOf 65536 1048575 (f.num 7), outOf 1 16200 (f.num 8)]
    ignored := maskOf [choiceIgnored (f.num 0)] }

/-- A SET to TONE (R29). -/
def writeTone (f : Fields) (p : TonePending) : Written TonePending :=
  let day := (f.raw 0).map (words16 21)
  let night := (f.raw 1).map (words16 21)
  { value := ⟨structField curveOk day p.day, structField curveOk night p.night⟩
    clamped := 0
    ignored := maskOf [structIgnored curveOk day, structIgnored curveOk night] }

/-- A SET to VIEW (R78). -/
def writeView (f : Fields) (p : ViewPending) : Written ViewPending :=
  let main := (f.raw 0).map windowOf
  let wide := (f.raw 1).map windowOf
  let pal := (f.raw 7).map paletteOf
  { value :=
      { mainWindow := structField (windowOk 960) main p.mainWindow
        wideWindow := structField (windowOk 320) wide p.wideWindow
        mirror := choiceField (f.num 2) p.mirror
        plusX := choiceField (f.num 3) p.plusX
        panGain := clampField 0 32 (f.num 4) p.panGain
        panMax := clampField 0 600 (f.num 5) p.panMax
        panRate := clampField 1 32 (f.num 6) p.panRate
        palette := pal.map (fun l => l.map clampColour) <|> p.palette }
    clamped := maskOf [false, false, false, false, outOf 0 32 (f.num 4), outOf 0 600 (f.num 5), outOf 1 32 (f.num 6),
      match pal with
      | some l => decide (l.map clampColour ≠ l)
      | none => false]
    ignored := maskOf [structIgnored (windowOk 960) main, structIgnored (windowOk 320) wide, choiceIgnored (f.num 2),
      choiceIgnored (f.num 3)] }

/-- A SET to NIGHT (R51): two structural pairs. -/
def writeNight (f : Fields) (act : NightGroup) (p : NightPending) : Written NightPending :=
  let okE := decide (((f.num 0 <|> p.eDusk)).getD act.eDusk < ((f.num 1 <|> p.eNight)).getD act.eNight)
  let okLux := decide (((f.num 4 <|> p.luxNight)).getD act.luxNight < ((f.num 3 <|> p.luxDusk)).getD act.luxDusk)
  { value :=
      { eDusk := pairField okE (f.num 0) p.eDusk
        eNight := pairField okE (f.num 1) p.eNight
        hysteresis := clampField 0 64 (f.num 2) p.hysteresis
        luxDusk := pairField okLux (f.num 3) p.luxDusk
        luxNight := pairField okLux (f.num 4) p.luxNight
        dwell := clampField 1 50 (f.num 5) p.dwell }
    clamped := maskOf [false, false, outOf 0 64 (f.num 2), false, false, outOf 1 50 (f.num 5)]
    ignored := maskOf [(f.num 0).isSome && !okE, (f.num 1).isSome && !okE, false, (f.num 3).isSome && !okLux,
      (f.num 4).isSome && !okLux] }

/-- A SET to BACKLIGHT (R54). -/
def writeBacklight (f : Fields) (p : BacklightPending) : Written BacklightPending :=
  { value :=
      { day := clampField 0 1023 (f.num 0) p.day
        dusk := clampField 0 1023 (f.num 1) p.dusk
        night := clampField 0 1023 (f.num 2) p.night
        trimLeft := clampSigned (-128) 127 (f.signed 3) p.trimLeft
        trimRight := clampSigned (-128) 127 (f.signed 4) p.trimRight }
    clamped := maskOf [outOf 0 1023 (f.num 0), outOf 0 1023 (f.num 1), outOf 0 1023 (f.num 2),
      outOfSigned (-128) 127 (f.signed 3), outOfSigned (-128) 127 (f.signed 4)]
    ignored := 0 }

/-- A SET to FAULT, straight into the active copy (R122). -/
def writeFault (f : Fields) (g : FaultGroup) : Written FaultGroup :=
  { value :=
      { frozenLimit := (clampField 2 16 (f.num 0) none).getD g.frozenLimit
        holdLimit := (clampField 0 240 (f.num 1) none).getD g.holdLimit
        latencyBudget := (clampField 20000 100000 (f.num 2) none).getD g.latencyBudget
        vehicleTimeout := (clampField 100 2000 (f.num 3) none).getD g.vehicleTimeout
        attentionThreshold := (clampField 0 15 (f.num 4) none).getD g.attentionThreshold }
    clamped := maskOf [outOf 2 16 (f.num 0), outOf 0 240 (f.num 1), outOf 20000 100000 (f.num 2), outOf 100 2000 (f.num 3),
      outOf 0 15 (f.num 4)]
    ignored := 0 }

/-! ### Application of pending copies: each present field replaces the active one -/

def ExposurePending.apply (p : ExposurePending) (g : ExposureGroup) : ExposureGroup where
  blackLevel := p.blackLevel.getD g.blackLevel
  ratioCode := p.ratioCode.getD g.ratioCode
  eMin := p.eMin.getD g.eMin
  eMax := p.eMax.getD g.eMax
  tTarget := p.tTarget.getD g.tTarget
  aeGain := p.aeGain.getD g.aeGain
  maxStep := p.maxStep.getD g.maxStep
  metering := p.metering.getD g.metering

def TonePending.apply (p : TonePending) (g : ToneGroup) : ToneGroup := ⟨p.day.getD g.day, p.night.getD g.night⟩

def GlarePending.apply (p : GlarePending) (g : GlareGroup) : GlareGroup where
  enable := p.enable.getD g.enable
  knee := p.knee.getD g.knee
  strength := p.strength.getD g.strength
  aMax := p.aMax.getD g.aMax
  spreadDrop := p.spreadDrop.getD g.spreadDrop
  attack := p.attack.getD g.attack
  release := p.release.getD g.release
  brightThreshold := p.brightThreshold.getD g.brightThreshold
  countThreshold := p.countThreshold.getD g.countThreshold

def ViewPending.apply (p : ViewPending) (g : ViewGroup) : ViewGroup where
  mainWindow := p.mainWindow.getD g.mainWindow
  wideWindow := p.wideWindow.getD g.wideWindow
  mirror := p.mirror.getD g.mirror
  plusX := p.plusX.getD g.plusX
  panGain := p.panGain.getD g.panGain
  panMax := p.panMax.getD g.panMax
  panRate := p.panRate.getD g.panRate
  palette := p.palette.getD g.palette

def NightPending.apply (p : NightPending) (g : NightGroup) : NightGroup where
  eDusk := p.eDusk.getD g.eDusk
  eNight := p.eNight.getD g.eNight
  hysteresis := p.hysteresis.getD g.hysteresis
  luxDusk := p.luxDusk.getD g.luxDusk
  luxNight := p.luxNight.getD g.luxNight
  dwell := p.dwell.getD g.dwell

def BacklightPending.apply (p : BacklightPending) (g : BacklightGroup) : BacklightGroup where
  day := p.day.getD g.day
  dusk := p.dusk.getD g.dusk
  night := p.night.getD g.night
  trimLeft := p.trimLeft.getD g.trimLeft
  trimRight := p.trimRight.getD g.trimRight

/-! ### The fields of a GET, in the order of 12.3 -/

def ExposureGroup.bytes (g : ExposureGroup) : List Byte :=
  beBytes 2 g.blackLevel ++ beBytes 1 g.ratioCode ++ beBytes 1 g.eMin ++ beBytes 1 g.eMax ++ beBytes 4 g.tTarget
    ++ beBytes 1 g.aeGain ++ beBytes 1 g.maxStep ++ meteringBytes g.metering

def GlareGroup.bytes (g : GlareGroup) : List Byte :=
  boolByte g.enable ++ beBytes 4 g.knee ++ beBytes 1 g.strength ++ beBytes 1 g.aMax ++ beBytes 1 g.spreadDrop
    ++ beBytes 1 g.attack ++ beBytes 1 g.release ++ beBytes 4 g.brightThreshold ++ beBytes 2 g.countThreshold

def ToneGroup.bytes (g : ToneGroup) : List Byte := g.day.flatMap (beBytes 2) ++ g.night.flatMap (beBytes 2)

def ViewGroup.bytes (g : ViewGroup) : List Byte :=
  windowBytes g.mainWindow ++ windowBytes g.wideWindow ++ boolByte g.mirror ++ boolByte g.plusX ++ beBytes 1 g.panGain
    ++ beBytes 2 g.panMax ++ beBytes 1 g.panRate ++ g.palette.flatMap Colour.bytes

def NightGroup.bytes (g : NightGroup) : List Byte :=
  beBytes 1 g.eDusk ++ beBytes 1 g.eNight ++ beBytes 1 g.hysteresis ++ beBytes 2 g.luxDusk ++ beBytes 2 g.luxNight
    ++ beBytes 1 g.dwell

def BacklightGroup.bytes (g : BacklightGroup) : List Byte :=
  beBytes 2 g.day ++ beBytes 2 g.dusk ++ beBytes 2 g.night ++ i16Bytes g.trimLeft ++ i16Bytes g.trimRight

def FaultGroup.bytes (g : FaultGroup) : List Byte :=
  beBytes 1 g.frozenLimit ++ beBytes 1 g.holdLimit ++ beBytes 4 g.latencyBudget ++ beBytes 2 g.vehicleTimeout
    ++ beBytes 1 g.attentionThreshold

/-! ### Frames (12.1) -/

/-- The CRC-16 of a request over its bytes from kind to the end of the payload. -/
def requestCrc (kind tag : Byte) (payload : List Byte) : BitVec 16 :=
  crc16 (kind :: tag :: beBytes 2 payload.length ++ payload)

/-- The bytes of a reply frame. -/
def Reply.bytes (r : Reply) : List Byte :=
  let body := r.kind :: r.tag :: r.result :: r.summary ++ beBytes 2 r.payload.length ++ r.payload
  0x5A#8 :: body ++ be16 (crc16 body)

/-! ### Report entries (12.4) -/

/-- The kind code of an entry. -/
def Report.kindCode : Report → Byte
  | .faultRaised _ _ => 1
  | .faultCleared _ => 2
  | .displayChanged _ _ _ => 3
  | .powerChanged _ _ => 3
  | .contextApplied _ => 4
  | .contextRejected _ => 4
  | .monitorReply _ _ => 5
  | .restarted _ => 6
  | .overrun _ => 7

/-- Subject form and subject value. -/
def Report.subject : Report → List Byte
  | .faultRaised f _ => 1#8 :: beBytes 1 f.code
  | .faultCleared f => 1#8 :: beBytes 1 f.code
  | .displayChanged sd _ _ => 3#8 :: beBytes 1 (sideCode sd)
  | .powerChanged _ _ => [0, 0]
  | .contextApplied sd => 2#8 :: beBytes 1 (sideCode sd)
  | .contextRejected sd => 2#8 :: beBytes 1 (sideCode sd)
  | .monitorReply sd _ => 3#8 :: beBytes 1 (sideCode sd)
  | .restarted _ => [0, 0]
  | .overrun _ => [0, 0]

/-- The detail of an entry, 0 … 32 bytes. -/
def Report.detail : Report → List Byte
  | .faultRaised _ posted => boolByte posted
  | .faultCleared _ => []
  | .displayChanged _ old new => [old.code, new.code]
  | .powerChanged old new => [old.code, new.code]
  | .contextApplied _ => [0, 0]
  | .contextRejected _ => [1, Reason.identity.code]
  | .monitorReply _ bytes => bytes
  | .restarted cause => [cause.code]
  | .overrun lost => beBytes 1 lost

def Entry.bytes (e : Entry) : List Byte :=
  e.report.kindCode :: beBytes 1 e.report.urgency ++ e.report.subject ++ be32 e.time ++ beBytes 1 e.report.detail.length
    ++ e.report.detail

/-! ### Context images (R143, 12.5) -/

/-- The 16 bytes of a tag map. -/
def tagBytes (tags : ZoneMap Bool) : List Byte :=
  (List.range 16).map fun i => BitVec.ofNat 8 (((List.range 8).map fun j => if tags.getD (8 * i + j) false then 2 ^ (7 - j) else 0).sum)

def tagsOf (bytes : List Byte) : ZoneMap Bool := zones.map fun n => (bytes.getD (n / 8) 0).getLsbD (7 - n % 8)

/-- The bytes 0 … 166 of an image of a side. -/
def Image.body (i : Image) (sd : Side) : List Byte :=
  [1, BitVec.ofNat 8 (sideCode sd), BitVec.ofNat 8 ((if i.settled then 1 else 0) + (if i.resetAfter then 2 else 0)), i.night.code]
    ++ beBytes 1 i.e ++ be64 i.identity ++ beBytes 2 i.gainR ++ beBytes 2 i.gainB ++ beBytes 2 i.backlight
    ++ beBytes 4 i.framesAdapted ++ zones.map (fun n => BitVec.ofNat 8 (i.grid.getD n 0)) ++ tagBytes i.tags

/-- The 171 bytes of an image. -/
def Image.bytes (i : Image) (sd : Side) : List Byte := i.body sd ++ be32 (crc32 (i.body sd))

/-- k bytes of an image at an offset, as a number. -/
def imageNat (image : List Byte) (offset k : Nat) : Nat := beNat ((image.drop offset).take k)

/-- Steps 3 to 6 of R147 over a 171-byte image for the named side: the image, or the reason of its rejection. -/
def parseImage (sd : Side) (image : List Byte) : Except Reason Image :=
  if (crc32 (image.take 167)).toNat ≠ imageNat image 167 4 then .error .crc
  else if imageNat image 0 1 ≠ 1 then .error .version
  else if imageNat image 1 1 ≠ sideCode sd then .error .side
  else
    match nightOf (imageNat image 3 1) with
    | none => .error .format
    | some ns =>
      let grid := ((image.drop 23).take 128).map BitVec.toNat
      if grid.any (96 < ·) then .error .format
      else .ok
        { settled := (image.getD 2 0).getLsbD 0
          resetAfter := (image.getD 2 0).getLsbD 1
          night := ns
          e := imageNat image 4 1
          identity := BitVec.ofNat 64 (imageNat image 5 8)
          gainR := imageNat image 13 2
          gainB := imageNat image 15 2
          backlight := imageNat image 17 2
          framesAdapted := imageNat image 19 4
          grid := grid
          tags := tagsOf ((image.drop 151).take 16) }

end Sys2Proof.Machine
end

