-- ==== Sys2Proof/Machine/Ops.lean ====
section
/-! DEFINITION. The operations that several commands share: reports, outgoing messages, exposure commands, the buffers and slots, the
compositor's frame start, display moves, raising and clearing faults, the monitor link's wake and sleep, training, and vehicle
freshness. Each takes the state to a state; the rules let every one of them complete. -/

namespace Sys2Proof.Machine

open Sys2Proof

/-! ### Intervals, in microseconds -/

/-- The timebase value n microseconds on (R159: modulo 2^32). -/
def State.later (s : State) (n : Nat) : Time := s.timebase + BitVec.ofNat 32 n

def trainingTimeout : Nat := 50000
def lossTimeout : Nat := 50000
def retrainDelay : Nat := 200000
def evaluationPeriod : Nat := 100000
def wakeTimeout : Nat := 20000
def wakeRetryDelay : Nat := 1000000
def scanPeriod : Nat := 16667
def saveTimeout : Nat := 100000
def partialTimeout : Nat := 50000

/-! ### Messages and reports -/

/-- Put a message on a link. -/
def State.emit (s : State) (m : Sent) : State := { s with sent := s.sent ++ [m] }

/-- The newest entry's lost count, one more and at most 255, where it is an OVERRUN entry (R133, R134). -/
def bumpNewest (entries : List Entry) : List Entry :=
  match entries.getLast? with
  | some ⟨.overrun n, t⟩ => entries.dropLast ++ [⟨.overrun (min (n + 1) 255), t⟩]
  | _ => entries

/-- A report handed to the queue (R133), with ATTN judged at each appended entry (R137). -/
def ReportQueue.arrive (q : ReportQueue) (threshold : Nat) (e : Entry) : ReportQueue :=
  if q.entries.length ≤ 30 then
    { q with entries := q.entries ++ [e], attn := attnLevel threshold (q.entries ++ [e]) }
  else if q.entries.length = 31 then
    { entries := q.entries ++ [⟨.overrun 1, e.time⟩]
      attn := attnLevel threshold (q.entries ++ [⟨.overrun 1, e.time⟩])
      lost := satInc q.lost }
  else { q with entries := bumpNewest q.entries, lost := satInc q.lost }

/-- Queue a report with the timebase value of the event (R132). -/
def State.report (s : State) (r : Report) : State :=
  s.setQueue (s.queue.arrive s.faults.group.attentionThreshold ⟨r, s.timebase⟩)

/-- ATTN judged anew (R137). -/
def State.judgeAttn (s : State) : State :=
  s.setQueue { s.queue with attn := attnLevel s.faults.group.attentionThreshold s.queue.entries }

/-! ### Exposure commands (R12) -/

/-- Send EXPOSE with the side's E and its active ratio code, and record it. -/
def sendExpose (sd : Side) (s : State) : State :=
  let e := (s.exposure sd).e
  let ratio := (s.pipe sd).expAct.ratioCode
  (s.emit (.expose sd e ratio)).setPort sd
    { s.port sd with lastExpose := some ⟨e, ratio⟩, outstanding := true, resendDone := false, unsettledRun := 0 }

/-- A changed E delivered to the port: sent and recorded if the port is STREAMING, otherwise nothing (R12). -/
def deliverE (sd : Side) (s : State) : State :=
  match (s.port sd).link with
  | .streaming => sendExpose sd s
  | _ => s

/-- E brought into the active limits of the side (R39). -/
def inLimits (g : ExposureGroup) (e : Nat) : Nat := clampNat e g.eMin g.eMax

/-! ### Development buffers (R31 to R33) -/

def Pipeline.buf (p : Pipeline) : BufName → Buffer
  | .a => p.bufA
  | .b => p.bufB

def Pipeline.setBuf (p : Pipeline) (n : BufName) (x : Buffer) : Pipeline :=
  match n with
  | .a => { p with bufA := x }
  | .b => { p with bufB := x }

/-- The other buffer. -/
def BufName.other : BufName → BufName
  | .a => .b
  | .b => .a

/-- The WAITING buffer and its frame, if any. -/
def Pipeline.waiting (p : Pipeline) : Option (BufName × Developed) :=
  match p.bufA, p.bufB with
  | .waiting d, _ => some (.a, d)
  | _, .waiting d => some (.b, d)
  | _, _ => none

/-- The release of a buffer from READING (R33). -/
def Pipeline.release (p : Pipeline) (n : BufName) : Pipeline :=
  match p.buf n with
  | .reading _ => p.setBuf n .free
  | _ => p

/-! ### Frame slots (R88) -/

/-- Every slot through f. -/
def FrameStore.mapSlots (x : FrameStore) (f : Slot → Slot) : FrameStore :=
  { x with slot0 := f x.slot0, slot1 := f x.slot1, slot2 := f x.slot2 }

/-- The FREE slot with the lowest number becomes FILLING; none where no slot is FREE. -/
def FrameStore.claim (x : FrameStore) : Option FrameStore :=
  if x.slot0 = .free then some { x with slot0 := .filling }
  else if x.slot1 = .free then some { x with slot1 := .filling }
  else if x.slot2 = .free then some { x with slot2 := .filling }
  else none

def Slot.freeReady : Slot → Slot
  | .ready _ => .free
  | x => x

def Slot.freeShown : Slot → Slot
  | .shown _ => .free
  | x => x

def Slot.show : Slot → Slot
  | .ready r => .shown r
  | x => x

def Slot.complete (r : SlotRecord) : Slot → Slot
  | .filling => .ready r
  | x => x

def Slot.readyRecord : Slot → Option SlotRecord
  | .ready r => some r
  | _ => none

def Slot.shownRecord : Slot → Option SlotRecord
  | .shown r => some r
  | _ => none

/-- The record of the READY slot, if any. -/
def FrameStore.ready (x : FrameStore) : Option SlotRecord :=
  x.slot0.readyRecord <|> x.slot1.readyRecord <|> x.slot2.readyRecord

/-- The record of the SHOWN slot, if any. -/
def FrameStore.shown (x : FrameStore) : Option SlotRecord :=
  x.slot0.shownRecord <|> x.slot1.shownRecord <|> x.slot2.shownRecord

/-! ### Vehicle values (R121, R159) -/

/-- The angle, while it is fresh: received and with its expiry moment present. -/
def State.freshAngle (s : State) : Option Int :=
  match s.link.angle, s.faults.expiryAngle with
  | some (v, _), some _ => some v
  | _, _ => none

/-- The lux value, while it is fresh. -/
def State.freshLux (s : State) : Option Nat :=
  match s.link.lux, s.faults.expiryLux with
  | some (v, _), some _ => some v
  | _, _ => none

/-- The power state is STARTING or RUNNING. -/
def State.awake (s : State) : Bool :=
  match s.power.state with
  | .starting => true
  | .running => true
  | _ => false

/-! ### The compositor's frame start (R79 to R83) -/

/-- The room of a main window (R83). -/
def panRoom (g : ViewGroup) : Nat := if g.plusX then 1920 - g.mainWindow.x - g.mainWindow.w else g.mainWindow.x

/-- The pan target before its limit to the room (R82). -/
def rawPanTarget (sd : Side) (g : ViewGroup) : Option Int → Nat
  | none => 0
  | some a =>
    let p := min g.panMax (a.natAbs * g.panGain / 10)
    match sd with
    | .left => if 0 < a then p else 0
    | .right => if a < 0 then p else 0

/-- The panned x of the main window (R83). -/
def pannedX (g : ViewGroup) (offset : Nat) : Nat :=
  if g.plusX then g.mainWindow.x + offset else g.mainWindow.x - offset

/-- Steps 1 and 6 of R79: the pending VIEW copy applied, then one pan step. -/
def Compositor.startFrame (sd : Side) (angle : Option Int) (c : Compositor) : Compositor :=
  let g := c.pend.apply c.act
  let target := min (rawPanTarget sd g angle) (panRoom g)
  { c with
    act := g
    pend := .empty
    panTarget := target
    panOffset := approach (min c.panOffset (panRoom g)) target g.panRate
    angleFresh := angle.isSome }

/-- What step 4 to 6 latch for the raster. -/
def Compositor.latch (c : Compositor) : LatchedView :=
  ⟨c.act.mainWindow, pannedX c.act c.panOffset, c.act.wideWindow, c.act.mirror, c.act.palette, c.overlays⟩

/-- The content kind that a display state calls for (R80). -/
def DisplayState.content : DisplayState → Content
  | .blanked => .faultPattern
  | _ => .normal

/-- The frame start itself, once its slot is claimed: `source` is the waiting frame taken, if any. -/
def beginComposition (sd : Side) (source : Option (BufName × Developed)) (store : FrameStore) (s : State) : State :=
  let c := (s.comp sd).startFrame sd s.freshAngle
  let kind := (s.display sd).state.content
  let pipe :=
    match source with
    | some (n, d) => (s.pipe sd).setBuf n (.reading d)
    | none => s.pipe sd
  ((s.setPipe sd pipe).setStore sd store).setComp sd
    { c with
      inFlight := some ⟨kind, source, c.latch⟩
      blankRequest := match kind with
        | .faultPattern => false
        | .normal => c.blankRequest }

/-- The compositor takes a frame start when it is IDLE and a developed frame is waiting or its blank request is set (R79). A NORMAL
composition with no source cannot begin (R80). With no FREE slot nothing begins; R88's law rules that out (log entry 13). -/
def tryFrameStart (sd : Side) (s : State) : State :=
  match (s.comp sd).inFlight, (s.pipe sd).waiting, (s.store sd).claim with
  | none, some w, some store => beginComposition sd (some w) store s
  | none, none, some store =>
    if (s.comp sd).blankRequest ∧ (s.display sd).state = .blanked then beginComposition sd none store s else s
  | _, _, _ => s

/-! ### Display moves (R102 to R104) -/

/-- The hold count after an entry to a display state: kept on entry to PRIMING and BLANKED, 0 otherwise (R102 to R104). -/
def DisplayState.holdCountOn (new : DisplayState) (count : Nat) : Nat :=
  match new with
  | .blanked => count
  | .priming => count
  | _ => 0

/-- The blank request after a move: set on entry to BLANKED, cleared on departure from it (R80). -/
def blankAfter (old new : DisplayState) (request : Bool) : Bool :=
  match new, old with
  | .blanked, _ => true
  | _, .blanked => false
  | _, _ => request

/-- One change of display state: its STATE_CHANGED report, the hold count, the blank request with the frame start it may bring
(R79, R80, log entry 11), and on entry to DARK the VIEW_STALE clear run (R111). -/
def changeDisplay (sd : Side) (new : DisplayState) (s : State) : State :=
  let old := (s.display sd).state
  let s := s.report (.displayChanged sd old new)
  let s := s.setDisplay sd { s.display sd with state := new, holdCount := new.holdCountOn (s.display sd).holdCount }
  let s := s.setComp sd { s.comp sd with blankRequest := blankAfter old new (s.comp sd).blankRequest }
  match new with
  | .dark => s.setRuns sd { s.runs sd with staleClear := 0 }
  | .blanked => tryFrameStart sd s
  | _ => s

/-- The raise of a view-loss fault handed to the display port: a LIVE display moves (R103, R117). -/
def viewLossRaised (sd : Side) (s : State) : State :=
  match (s.display sd).state with
  | .live => if 0 < s.faults.group.holdLimit then changeDisplay sd .hold s else changeDisplay sd .blanked s
  | _ => s

/-- A display in HOLD with a view-loss fault current and its hold count at hold_limit moves to BLANKED (R104). That a SET which writes the
value hold_limit already has makes this move too, where R122 says that an equal write finds nothing to change, is the model's choice
(DEDUCED, log entry 41). -/
def expireHold (sd : Side) (s : State) : State :=
  match (s.display sd).state with
  | .hold =>
    if s.faults.viewLoss sd ∧ s.faults.group.holdLimit ≤ (s.display sd).holdCount then changeDisplay sd .blanked s else s
  | _ => s

/-! ### Raising and clearing (R114 to R117) -/

/-- A report queued only where the identity's class is unmasked. -/
def reportFault (f : FaultId) (r : Report) (s : State) : State := if s.faults.unmasked f then s.report r else s

/-- The raise of an event identity: accrued, and reported if unmasked (R116). -/
def raiseEvent (f : FaultId) (s : State) : State :=
  reportFault f (.faultRaised f false) (s.setFaults { s.faults with accrued := FaultSet.insert s.faults.accrued f })

/-- The raise of a condition identity: nothing while it is current; otherwise current and accrued, reported if unmasked, and a
view-loss identity handed to its display port within the event (R114, R117). -/
def raise (f : FaultId) (s : State) : State :=
  if FaultSet.has s.faults.current f then s
  else
    let s := s.setFaults
      { s.faults with current := FaultSet.insert s.faults.current f, accrued := FaultSet.insert s.faults.accrued f }
    let s := reportFault f (.faultRaised f false) s
    match f.viewLossSide with
    | some sd => viewLossRaised sd s
    | none => s

/-- The clear of a condition identity: nothing unless it is current; otherwise it leaves the current set, reported if unmasked
(R115). -/
def clearFault (f : FaultId) (s : State) : State :=
  if FaultSet.has s.faults.current f then
    reportFault f (.faultCleared f) (s.setFaults { s.faults with current := FaultSet.erase s.faults.current f })
  else s

/-! ### Vehicle freshness (R121) -/

/-- At least one received field is not fresh. -/
def State.vehicleStale (s : State) : Bool :=
  (s.link.angle.isSome && s.faults.expiryAngle.isNone) || (s.link.lux.isSome && s.faults.expiryLux.isNone)

/-- VEHICLE_INPUT_STALE judged; not while PARKED. -/
def judgeVehicle (s : State) : State :=
  if s.awake then (if s.vehicleStale then raise .vehicleInputStale s else clearFault .vehicleInputStale s) else s

/-- The expiry moment of a field that arrived at `arrival`: the first value at which its age exceeds the timeout. -/
def expiryMoment (timeoutMs : Nat) (arrival : Time) : Time := arrival + BitVec.ofNat 32 (timeoutMs * 1000 + 1)

/-! ### Monitor link (R97, R98, R101, R108) -/

/-- The display is wanted (6.2). -/
def State.wanted (s : State) (sd : Side) : Bool := s.awake && (s.display sd).enabled

/-- One wake burst sent and counted, with the given attempt and a deadline 20,000 µs on. -/
def sendBurst (sd : Side) (attempt : Nat) (s : State) : State :=
  let d := s.display sd
  (s.emit (.wakeBurst sd)).setDisplay sd
    { d with
      link := .waking
      wakeAttempt := attempt
      wakeDeadline := some (s.later wakeTimeout)
      counters := { d.counters with wakeBursts := satInc d.counters.wakeBursts } }

/-- A wake sequence from HIBERNATE (R98); a port in any other link state starts none. -/
def startWake (sd : Side) (s : State) : State :=
  match (s.display sd).link with
  | .hibernate => sendBurst sd 1 (s.setDisplay sd { s.display sd with wakeRetry := none })
  | _ => s

/-- The display moves to DARK if it is not DARK already, as the link leaves SYNCED (R102). -/
def moveDark (sd : Side) (s : State) : State :=
  match (s.display sd).state with
  | .dark => s
  | _ => changeDisplay sd .dark s

/-- A sleep notice and HIBERNATE, from WAKING or SYNCED. -/
def sleepLink (sd : Side) (s : State) : State :=
  match (s.display sd).link with
  | .waking => (s.emit (.sleepNotice sd)).setDisplay sd { s.display sd with link := .hibernate }
  | .synced => (s.emit (.sleepNotice sd)).setDisplay sd { s.display sd with link := .hibernate }
  | _ => s

/-- The display becomes unwanted (R101). -/
def becomeUnwanted (sd : Side) (s : State) : State :=
  let s := sleepLink sd s
  let s := s.setDisplay sd
    { s.display sd with wakeDeadline := none, wakeRetry := none, nextScan := none, wakeAttempt := 0 }
  moveDark sd s

/-- One sleep-and-wake of the link after a raise of DISPLAY_PATH (R108). -/
def sleepAndWake (sd : Side) (s : State) : State :=
  let s := sleepLink sd s
  let s := s.setDisplay sd { s.display sd with nextScan := none }
  let s := moveDark sd s
  let d := s.display sd
  startWake sd (s.setDisplay sd { d with counters := { d.counters with pathResyncs := satInc d.counters.pathResyncs } })

/-- A raise of DISPLAY_PATH where it is not current, with its sleep-and-wake (R106, R107); `otherwise` where it is current. -/
def pathFailed (sd : Side) (otherwise : State → State) (s : State) : State :=
  if FaultSet.has s.faults.current (.displayPath sd) then otherwise s else sleepAndWake sd (raise (.displayPath sd) s)

/-! ### Sensor link (R2) and power state (R154, R156) -/

/-- A port in DOWN or LOST begins training; a port in TRAINING or STREAMING is not affected (R2). -/
def startTraining (sd : Side) (s : State) : State :=
  let p := s.port sd
  let started : State := (s.emit (.train sd)).setPort sd
    { p with link := .training, trainingDeadline := some (s.later trainingTimeout), inProgress := none }
  match p.link with
  | .down => started
  | .lost => started
  | _ => s

/-- A change of the power state queues one STATE_CHANGED report (R152). -/
def changePower (new : PowerState) (s : State) : State :=
  let old := s.power.state
  (s.setPower { s.power with state := new }).report (.powerChanged old new)

/-- The port has left TRAINING for STREAMING or LOST. -/
def Port.judged (p : Port) : Bool :=
  match p.link with
  | .streaming => true
  | .lost => true
  | _ => false

/-- While STARTING, the power state becomes RUNNING once each port is STREAMING or LOST (R156). -/
def judgeRunning (s : State) : State :=
  match s.power.state with
  | .starting => if (s.port .left).judged && (s.port .right).judged then changePower .running s else s
  | _ => s

/-- Orders 2 to 5 of entry to STARTING (R154). R154 does not say which side goes first within orders 2 and 3: LEFT before RIGHT, seen only
in the order of `sent`, is the model's choice (DESIGN CHOICE, log entry 38). -/
def startingEffects (s : State) : State :=
  let s := startTraining .right (startTraining .left s)
  let wake (sd : Side) (s : State) : State := if (s.display sd).enabled then startWake sd s else s
  let s := wake .right (wake .left s)
  let s := s.setNight { s.night with nextEval := some (s.later evaluationPeriod) }
  judgeVehicle s

/-- Entry to STARTING from PARKED (R154), with the wake source it came by. -/
def enterStarting (source : WakeSource) (s : State) : State :=
  let s := changePower .starting s
  startingEffects (s.setPower { s.power with lastWake := some source })

end Sys2Proof.Machine
end

