-- ==== Sys2Proof/Machine/Reply.lean ====
section
/-! DEFINITION. The fault summary (R128), the forming of a reply and its placing in the holder (R164, R165), and the empty NO_REPLY
reply. -/

namespace Sys2Proof.Machine

open Sys2Proof

/-- The flags of the fault summary: accrued at bit 0, busy-drop at bit 1, locked at bit 2. -/
def summaryFlags (s : State) : Nat :=
  (if s.faults.accrued = 0 then 0 else 1) + (if s.link.busyDrop then 2 else 0) + (if s.faults.locked then 4 else 0)

/-- The three bytes of the fault summary as formed now (R128). -/
def State.summary (s : State) : List Byte :=
  beBytes 1 (FaultSet.top s.faults.current) ++ beBytes 1 s.queue.entries.length ++ beBytes 1 (summaryFlags s)

/-- A read under way no longer shifts out the reply that the holder holds (R165). -/
def Reading.superseded (r : Reading) : Reading := { r with held := false }

/-- A reply placed in the holder: it replaces an unread one, and a read under way goes on with the older bytes (R165). The busy-drop
flag clears, its summary having been formed (R164). -/
def placeReply (r : Reply) (s : State) : State :=
  s.setLink { s.link with holder := some r, busyDrop := false, reading := s.link.reading.map Reading.superseded }

/-- A reply formed with the summary as it stands, and placed. -/
def formReply (kind tag : Byte) (result : Result) (payload : List Byte) (s : State) : State :=
  placeReply ⟨kind, tag, result.code, s.summary, payload⟩ s

/-- A refused request: counted, and replied to with the result and a payload that is empty unless its rule gives one (R164). -/
def refuseWith (kind tag : Byte) (result : Result) (payload : List Byte) (s : State) : State :=
  formReply kind tag result payload
    (s.setLink { s.link with counters := { s.link.counters with requestsRefused := satInc s.link.counters.requestsRefused } })

def refuse (kind tag : Byte) (result : Result) (s : State) : State := refuseWith kind tag result [] s

/-- The empty reply of a read that finds none (R165): kind 0, tag 0, NO_REPLY. -/
def noReply (s : State) : Reply := ⟨0, 0, Result.noReply.code, s.summary, []⟩

end Sys2Proof.Machine
end

