-- ==== Sys2Proof/Machine/Context.lean ====
section
/-! DEFINITION. The context store: installations, the judgement at a training completion (R141, R142, R149, R150), images and saves
(R143 to R146), and SAVE_DEADLINE. -/

namespace Sys2Proof.Machine

open Sys2Proof

/-! ### Installations (R62, R141, R146, R149) -/

/-- One installation of adaptation state: E within the active limits (R39), gains within 128 … 1023 (R47), each glare gain at most the
active A_max (R62), the backlight level at most 1023. -/
def install (sd : Side) (e gainR gainB : Nat) (grid : ZoneMap Nat) (tags : ZoneMap Bool) (frames backlight : Nat) (s : State) : State :=
  let s := s.setExposure sd
    { s.exposure sd with
      e := inLimits (s.pipe sd).expAct e
      gainR := clampNat gainR 128 1023
      gainB := clampNat gainB 128 1023 }
  let g := s.glare sd
  let s := s.setGlare sd { g with grid := grid.map (min · g.act.aMax), tags := tags }
  let s := s.setContext sd { s.context sd with framesAdapted := frames }
  s.setDisplay sd { s.display sd with backlight := min backlight 1023 }

/-- Every zone EMPTY. -/
def allEmpty : ZoneMap Bool := zones.map fun _ => false

/-- The default state of a side: E 128, gains 256, grid 0, tags EMPTY, frames_adapted 0, the backlight level at its target (R141). -/
def installDefault (sd : Side) (s : State) : State :=
  install sd 128 256 256 (zones.map fun _ => 0) allEmpty 0 (s.night.target.get sd) s

/-! ### The judgement at a training completion -/

/-- The live adaptation state against the identity just stored (R141). -/
def judgeRetained (sd : Side) (identity : BitVec 64) (s : State) : State :=
  let c := s.context sd
  match c.identityCopy with
  | none => s.setContext sd { c with identityCopy := some identity }
  | some old =>
    if old = identity then s
    else
      let s := installDefault sd s
      let c := s.context sd
      s.setContext sd
        { c with
          identityCopy := some identity
          lastOutcome := .discardedRetained
          retainedDiscards := satInc c.retainedDiscards }

/-- A restore takes the image's night state as the shared one while source seen is clear (R149). -/
def adoptNight (n : NightState) (s : State) : State :=
  if s.night.sourceSeen then s
  else s.setNight { s.night with state := n, dwellCount := 0, dwellTarget := none }

/-- A pending restore whose identity matches (R149). -/
def applyRestore (sd : Side) (i : Image) (s : State) : State :=
  let tags := if i.framesAdapted < 30 then allEmpty else i.tags
  let s := install sd i.e i.gainR i.gainB i.grid tags i.framesAdapted i.backlight s
  let s := adoptNight i.night s
  let c := s.context sd
  let s := s.setContext sd
    { c with committedNight := i.night, lastOutcome := .applied, restoresApplied := satInc c.restoresApplied }
  s.report (.contextApplied sd)

/-- A pending restore whose identity differs (R150). -/
def rejectRestore (sd : Side) (s : State) : State :=
  let s := raiseEvent (.contextRejected sd) s
  let s := s.report (.contextRejected sd)
  let c := s.context sd
  s.setContext sd { c with lastOutcome := .rejectedIdentity, restoresRejected := satInc c.restoresRejected }

/-- The pending restore, if any, against the identity just stored; it then becomes absent (R142). -/
def judgeRestore (sd : Side) (identity : BitVec 64) (s : State) : State :=
  match (s.context sd).pendingRestore with
  | none => s
  | some i =>
    let s := if i.identity = identity then applyRestore sd i s else rejectRestore sd s
    s.setContext sd { s.context sd with pendingRestore := none }

/-- Both judgements, in the order of R142. -/
def judgeTraining (sd : Side) (identity : BitVec 64) (s : State) : State := judgeRestore sd identity (judgeRetained sd identity s)

/-! ### Images and saves -/

/-- The image of a side's live state as it stands (R143). -/
def takeImage (sd : Side) (settled resetAfter : Bool) (s : State) : Image where
  settled := settled
  resetAfter := resetAfter
  night := (s.context sd).committedNight
  e := (s.exposure sd).e
  identity := (s.context sd).identityCopy.getD 0
  gainR := (s.exposure sd).gainR
  gainB := (s.exposure sd).gainB
  backlight := (s.display sd).backlight
  framesAdapted := (s.context sd).framesAdapted
  grid := (s.glare sd).grid
  tags := (s.glare sd).tags

/-- reset_after: the default state installed, and a changed E delivered to the port (R146). -/
def resetSide (sd : Side) (s : State) : State :=
  let s' := installDefault sd s
  if (s'.exposure sd).e = (s.exposure sd).e then s' else deliverE sd s'

/-- The image taken, counted, and the side reset if asked: what IMMEDIATE and SETTLED saves share. -/
def completeSave (sd : Side) (tag : Byte) (settled resetAfter : Bool) (s : State) : State :=
  let image := (takeImage sd settled resetAfter s).bytes sd
  let s := s.setContext sd { s.context sd with saves := satInc (s.context sd).saves }
  let s := if resetAfter then resetSide sd s else s
  formReply Kind.ctxSave.code tag .ok image s

/-- The end of the side's save in flight, at its commit or its deadline (R145): busy clears and the reply is formed. Nothing where no
save is in flight. -/
def endSave (sd : Side) (settled : Bool) (s : State) : State :=
  match (s.context sd).save with
  | none => s
  | some sv =>
    let tag := s.link.busy.getD 0
    let s := s.setContext sd { s.context sd with save := none }
    completeSave sd tag settled sv.resetAfter (s.setLink { s.link with busy := none })

/-- SAVE_DEADLINE: the deadline of the save in flight is reached, and its image has settled flag 0 (R145). -/
def execSaveDeadline (sd : Side) (s : State) : Host.Outcome State Fault Refusal :=
  match (s.context sd).save with
  | none => .next s
  | some sv => .next (endSave sd false (s.setTimebase sv.deadline))

end Sys2Proof.Machine
end

