-- ==== Sys2Proof/Machine/Develop.lean ====
section
/-! DEFINITION. The development pipeline: the frame start (R20, R31, R39, R60, R68), the handover (R19) and DEVELOPMENT_COMPLETION. -/

namespace Sys2Proof.Machine

open Sys2Proof

/-- The pending EXPOSURE, TONE and GLARE copies applied (R20, R60), with the clamp of the grid to A_max (R68). -/
def applyPending (sd : Side) (s : State) : State :=
  let p := s.pipe sd
  let s := s.setPipe sd
    { p with
      expAct := p.expPend.apply p.expAct
      expPend := .empty
      toneAct := p.tonePend.apply p.toneAct
      tonePend := .empty }
  let g := s.glare sd
  let act := g.pend.apply g.act
  s.setGlare sd { g with act := act, pend := .empty, grid := g.grid.map (min · act.aMax) }

/-- E brought into the limits just applied; a changed E is delivered to the port (R39). -/
def applyLimits (sd : Side) (s : State) : State :=
  let x := s.exposure sd
  let e := inLimits (s.pipe sd).expAct x.e
  if e = x.e then s else deliverE sd (s.setExposure sd { x with e := e })

/-- What a frame start latches (R20). -/
def latchFrame (sd : Side) (s : State) : Latched :=
  let g := s.glare sd
  let night : Bool := decide (s.night.state = .night)
  { blackLevel := (s.pipe sd).expAct.blackLevel
    gainR := (s.exposure sd).gainR
    gainB := (s.exposure sd).gainB
    brightThreshold := g.act.brightThreshold
    knee := g.act.knee
    grid := g.grid
    tags := g.tags
    nightCurve := night
    curve := if night then (s.pipe sd).toneAct.night else (s.pipe sd).toneAct.day }

/-- The buffer a frame start claims, and whether its claim drops a waiting frame: a FREE one, buffer A first; else the WAITING one
(R31). None where both are taken, which R31 rules out (log entry 13). -/
def Pipeline.claim (p : Pipeline) : Option (BufName × Bool) :=
  match p.bufA, p.bufB with
  | .free, _ => some (.a, false)
  | _, .free => some (.b, false)
  | .waiting _, _ => some (.a, true)
  | _, .waiting _ => some (.b, true)
  | _, _ => none

/-- The frame start: development of a frame begins in the buffer claimed. -/
def beginDevelopment (sd : Side) (f : Frame) (n : BufName) (drops : Bool) (s : State) : State :=
  let s := applyLimits sd (applyPending sd s)
  let p := (s.pipe sd).setBuf n .writing
  s.setPipe sd
    { p with
      dev := some ⟨⟨f, latchFrame sd s⟩, n, false⟩
      bufferDrops := if drops then satInc p.bufferDrops else p.bufferDrops }

/-- A valid frame reaches the pipeline: its frame start if the pipeline is IDLE, else the intake, where it replaces any frame held
(R19). -/
def handOver (sd : Side) (f : Frame) (s : State) : State :=
  let p := s.pipe sd
  match p.dev, p.claim with
  | none, some (n, drops) => beginDevelopment sd f n drops s
  | _, _ =>
    s.setPipe sd
      { p with
        intake := some f
        intakeDrops := if p.intake.isSome then satInc p.intakeDrops else p.intakeDrops }

/-- The waiting frame of the buffer other than n, replaced by a newer one, becomes FREE and is counted (R32). -/
def Pipeline.replaceWaiting (p : Pipeline) (n : BufName) : Pipeline :=
  match p.buf n.other with
  | .waiting _ => { p.setBuf n.other .free with bufferDrops := satInc p.bufferDrops }
  | _ => p

/-- The developed frame moves to WAITING and the pipeline becomes IDLE (R32). -/
def finishDevelopment (sd : Side) (d : InDevelopment) (s : State) : State :=
  let p := ((s.pipe sd).replaceWaiting d.buffer).setBuf d.buffer (.waiting d.source)
  s.setPipe sd { p with dev := none, framesDeveloped := satInc p.framesDeveloped }

/-- An intake frame, if held, starts development at once and the intake becomes empty (R19). -/
def startIntake (sd : Side) (s : State) : State :=
  match (s.pipe sd).intake with
  | none => s
  | some f => handOver sd f (s.setPipe sd { s.pipe sd with intake := none })

/-- DEVELOPMENT_COMPLETION (R32): of a frame whose statistics completion has been taken, which always precedes it (R27). The compositor
takes the waiting frame at once if it is IDLE (R79), and an intake frame starts. -/
def execDevelopmentCompletion (sd : Side) (s : State) : Host.Outcome State Fault Refusal :=
  match (s.pipe sd).dev with
  | none => .next s
  | some d => if d.statsDone then .next (tryFrameStart sd (startIntake sd (finishDevelopment sd d s))) else .next s

end Sys2Proof.Machine
end

