-- ==== Sys2Proof/Machine/Adapt.lean ====
section
/-! DEFINITION. The adaptation commit (R27): the glare update (R61 to R67), exposure and white balance (R41 to R47), the fault counts (R118,
R34, R35, R44, R45, R73, R74, R119, R120), the exposure command, and STATISTICS_COMPLETION. -/

namespace Sys2Proof.Machine

open Sys2Proof

/-! ### Step 1: the glare update -/

/-- The raw target of a zone (R63, R64). -/
def rawTarget (g : GlareGroup) (ns : NightState) (valid : Bool) (z : ZoneRecord) : Nat :=
  if !g.enable || ns = .day || !valid || z.bright < g.countThreshold then 0
  else min g.aMax ((logL z.maxY - logL g.knee) * g.strength / 16)

/-- i and its neighbours below n on one axis. -/
def axisNear (n i : Nat) : List Nat := (if i = 0 then [] else [i - 1]) ++ [i] ++ (if i + 1 < n then [i + 1] else [])

/-- The neighbours of a zone within the 16 × 8 grid: 8 inside, 5 on an edge, 3 at a corner (R65). -/
def neighbours (n : Nat) : List Nat :=
  ((axisNear 8 (zoneRow n)).flatMap fun r => (axisNear 16 (zoneCol n)).map fun c => zoneAt c r).filter (· ≠ n)

/-- The spread target of a zone from all raw targets (R65). -/
def spreadTarget (drop : Nat) (raw : ZoneMap Nat) (n : Nat) : Nat :=
  max (raw.getD n 0) (((neighbours n).map fun m => raw.getD m 0).foldl max 0 - drop)

/-- The temporal filter (R66). -/
def filterGain (g : GlareGroup) (target gain : Nat) : Nat :=
  if gain < target then min target (gain + g.attack) else if target < gain then max target (gain - g.release) else gain

/-- The new grid of one glare update, from the values before it (R61). -/
def glareGrid (g : GlareGroup) (ns : NightState) (grid : ZoneMap Nat) (tags : ZoneMap Bool) (records : List ZoneRecord) :
    ZoneMap Nat :=
  let raw := zones.map fun n => rawTarget g ns (tags.getD n false) (records.getD n ⟨0, 0, 0, 0, 0, 0, 0, false⟩)
  zones.map fun n => filterGain g (spreadTarget g.spreadDrop raw n) (grid.getD n 0)

/-- Zones attenuated (R67). -/
def countAttenuated (grid : ZoneMap Nat) : Nat := grid.countP (0 < ·)

/-- Zones at A_max, none at an A_max of 0 (R67). -/
def countAtMax (aMax : Nat) (grid : ZoneMap Nat) : Nat := grid.countP fun g => 0 < g && g == aMax

/-- The glare unit after the update of one commit: new grid, every tag VALID, both counts (R67). -/
def Glare.update (ns : NightState) (records : List ZoneRecord) (g : Glare) : Glare :=
  let grid := glareGrid g.act ns g.grid g.tags records
  { g with
    grid := grid
    tags := zones.map fun _ => true
    lastAttenuated := countAttenuated grid
    lastAtMax := countAtMax g.act.aMax grid }

/-! ### Step 2: exposure and white balance -/

/-- What step 2 reads beside its own state: the records, the grid just written, the tags before the update. -/
structure Metered where
  records : List ZoneRecord
  grid : ZoneMap Nat
  tags : ZoneMap Bool

/-- The record of a zone. -/
def Metered.record (m : Metered) (n : Nat) : ZoneRecord := m.records.getD n ⟨0, 0, 0, 0, 0, 0, 0, false⟩

/-- A zone whose tag was VALID before the update and whose new gain is 0. -/
def Metered.clear (m : Metered) (n : Nat) : Bool := m.tags.getD n false && m.grid.getD n 0 == 0

/-- The metered set (R42). -/
def Metered.metered (m : Metered) (weights : ZoneMap Nat) : List Nat :=
  zones.filter fun n => m.clear n && decide (0 < weights.getD n 0)

/-- The white-balance set (R46). -/
def Metered.balanced (m : Metered) : List Nat :=
  zones.filter fun n => m.clear n && decide (4096 ≤ (m.record n).meanY) && decide ((m.record n).meanY ≤ 524288)

/-- The exposure index one step on (R43): deadband, step size truncated toward zero, step limit, limits. -/
def stepE (g : ExposureGroup) (e : Nat) (err : Int) : Nat :=
  if -2 ≤ err ∧ err ≤ 2 then e
  else
    let step := clampInt ((err * g.aeGain).tdiv 16) (-(g.maxStep : Int)) g.maxStep
    (clampInt (e + step) g.eMin g.eMax).toNat

/-- The exposure step of a settled frame (R42, R43). -/
def Exposure.meter (g : ExposureGroup) (m : Metered) (x : Exposure) : Exposure :=
  let set := m.metered g.metering
  let weight := (set.map fun n => g.metering.getD n 0).sum
  if weight = 0 then { x with lastMean := none, lastError := none, lastWeight := 0 }
  else
    let mean := (set.map fun n => g.metering.getD n 0 * (m.record n).meanY).sum / weight
    let err : Int := (logL g.tTarget : Int) - logL mean
    let e := stepE g x.e err
    { x with
      e := e
      lastMean := some mean
      lastWeight := weight
      lastError := some err
      exposureChanges := if e = x.e then x.exposureChanges else satInc x.exposureChanges }

/-- A gray-world target (R46). -/
def gainTarget (green mean : Nat) : Nat := if mean = 0 then 1023 else clampNat (256 * green / mean) 128 1023

/-- The white-balance step (R46, R47). -/
def Exposure.whiteBalance (ns : NightState) (m : Metered) (x : Exposure) : Exposure :=
  if ns = .night then { x with wbZones := 0 }
  else
    let set := m.balanced
    let n := set.length
    if n = 0 then { x with wbZones := 0 }
    else
      let mean (f : ZoneRecord → Nat) : Nat := (set.map fun k => f (m.record k)).sum / n
      let green := mean ZoneRecord.meanG
      let tr := gainTarget green (mean ZoneRecord.meanR)
      let tb := gainTarget green (mean ZoneRecord.meanB)
      { x with
        wbZones := n
        wbTargetR := some tr
        wbTargetB := some tb
        gainR := approach x.gainR tr 4
        gainB := approach x.gainB tb 4 }

/-- Step 2 of a commit: on a settled frame the exposure step, then white balance (R41). -/
def Exposure.adapt (g : ExposureGroup) (ns : NightState) (settled : Bool) (m : Metered) (x : Exposure) : Exposure :=
  let x :=
    if settled then Exposure.meter g m { x with settledCommits := satInc x.settledCommits }
    else { x with unsettledCommits := satInc x.unsettledCommits }
  x.whiteBalance ns m

/-! ### Step 3: the fault counts -/

/-- FROZEN's runs and its previous signature after a commit (R34, R35). -/
def Runs.frozenStep (current : Bool) (signature : BitVec 32) (r : Runs) : Runs :=
  { r with
    frozenSame := if r.frozenPrevious = some signature then min (r.frozenSame + 1) 65535 else 1
    frozenChange :=
      if current then
        match r.frozenPrevious with
        | none => 0
        | some p => if p = signature then 0 else r.frozenChange + 1
      else 0
    frozenPrevious := some signature }

/-- FROZEN at step 3 (R34, R35). -/
def frozenCount (sd : Side) (signature : BitVec 32) (s : State) : State :=
  let current := FaultSet.has s.faults.current (.frozen sd)
  let r := (s.runs sd).frozenStep current signature
  if current then
    if 3 ≤ r.frozenChange then clearFault (.frozen sd) (s.setRuns sd { r with frozenChange := 0 }) else s.setRuns sd r
  else if s.faults.group.frozenLimit ≤ r.frozenSame then raise (.frozen sd) (s.setRuns sd r)
  else s.setRuns sd r

/-- A pair of runs at one judgement: `up` counts while the identity is not current and raises at its limit, `down` counts while it is
current and clears at its limit; each returns to 0 there, and the one not in use stays (R44, R45, R73, R74, R119, R120). -/
structure RunPair where
  up : Nat
  down : Nat
  raises : Bool
  clears : Bool
  deriving DecidableEq, Repr

/-- One judgement: `bad` advances `up` (or else sets it to 0) and `good` advances `down` (or else sets it to 0). -/
def runPair (current bad good : Bool) (upLimit downLimit up down : Nat) : RunPair :=
  if current then
    let d := if good then down + 1 else 0
    if downLimit ≤ d then ⟨0, 0, false, true⟩ else ⟨0, d, false, false⟩
  else
    let u := if bad then up + 1 else 0
    if upLimit ≤ u then ⟨0, 0, true, false⟩ else ⟨u, 0, false, false⟩

/-- The raise or clear that a judgement asks for. -/
def RunPair.request (p : RunPair) (f : FaultId) (s : State) : State :=
  if p.raises then raise f s else if p.clears then clearFault f s else s

/-- OBSCURED at step 3, from the flat zones of the frame (R119, R120). -/
def obscuredCount (sd : Side) (flat : Nat) (s : State) : State :=
  let r := s.runs sd
  let p := runPair (FaultSet.has s.faults.current (.obscured sd)) (decide (96 ≤ flat)) (decide (flat < 64)) 150 30
    r.obscuredRaise r.obscuredClear
  p.request (.obscured sd) (s.setRuns sd { r with obscuredRaise := p.up, obscuredClear := p.down })

/-- The limit condition of R44: pinned at a limit with the error still asking for more. -/
def limitCondition (g : ExposureGroup) (e : Nat) (err : Option Int) : Bool :=
  match err with
  | none => false
  | some x => (decide (e = g.eMax) && decide (16 < x)) || (decide (e = g.eMin) && decide (x < -16))

/-- EXPOSURE_LIMIT at step 3 of a commit whose frame was settled; an unsettled one changes neither run (R44, R45). -/
def limitCount (sd : Side) (settled condition : Bool) (s : State) : State :=
  if settled then
    let r := s.runs sd
    let p := runPair (FaultSet.has s.faults.current (.exposureLimit sd)) condition (!condition) 60 60 r.limitRun r.limitClear
    p.request (.exposureLimit sd) (s.setRuns sd { r with limitRun := p.up, limitClear := p.down })
  else s

/-- GLARE_SATURATED at step 3, from the zones at A_max (R73, R74). -/
def saturationCount (sd : Side) (atMax : Nat) (s : State) : State :=
  let r := s.runs sd
  let p := runPair (FaultSet.has s.faults.current (.glareSaturated sd)) (decide (8 ≤ atMax)) (decide (atMax < 8)) 30 30
    r.saturation r.satRelease
  p.request (.glareSaturated sd) (s.setRuns sd { r with saturation := p.up, satRelease := p.down })

/-- Step 3 of a commit, in order of priority (R117, R118). -/
def faultCounts (sd : Side) (settled : Bool) (signature : BitVec 32) (flat : Nat) (s : State) : State :=
  let s := s.setFaults { s.faults with flatZones := s.faults.flatZones.set sd flat }
  let s := frozenCount sd signature s
  let s := obscuredCount sd flat s
  let x := s.exposure sd
  let s := limitCount sd settled (limitCondition (s.pipe sd).expAct x.e x.lastError) s
  saturationCount sd (s.glare sd).lastAtMax s

/-! ### The commit -/

/-- Step 1 and the context store's share of it: frames_adapted and the committed night state (R61, R140). -/
def commitGlare (sd : Side) (records : List ZoneRecord) (s : State) : State :=
  let c := s.context sd
  let s := s.setContext sd { c with framesAdapted := satInc c.framesAdapted, committedNight := s.night.state }
  s.setGlare sd ((s.glare sd).update s.night.state records)

/-- Step 2, on the grid as step 1 left it and the tags as they stood before. -/
def commitExposure (sd : Side) (settled : Bool) (records : List ZoneRecord) (tags : ZoneMap Bool) (s : State) : State :=
  s.setExposure sd
    ((s.exposure sd).adapt (s.pipe sd).expAct s.night.state settled ⟨records, (s.glare sd).grid, tags⟩)

/-- The adaptation commit of a side (R27): steps 1 to 4, then the end of a SETTLED save in flight (R145). -/
def commit (sd : Side) (settled : Bool) (records : List ZoneRecord) (signature : BitVec 32) (s : State) : State :=
  let e := (s.exposure sd).e
  let tags := (s.glare sd).tags
  let s := commitGlare sd records s
  let s := commitExposure sd settled records tags s
  let s := faultCounts sd settled signature (records.countP ZoneRecord.flat) s
  let s := if (s.exposure sd).e = e then s else deliverE sd s
  endSave sd true s

/-- The signature stored and statistics done set (R27). -/
def finishStatistics (sd : Side) (d : InDevelopment) (signature : BitVec 32) (s : State) : State :=
  s.setPipe sd { s.pipe sd with dev := some { d with statsDone := true }, lastSignature := some signature }

/-- STATISTICS_COMPLETION (R27): of the frame in development, once. -/
def execStatisticsCompletion (sd : Side) (s : State) : Host.Outcome State Fault Refusal :=
  match (s.pipe sd).dev with
  | none => .next s
  | some d =>
    if d.statsDone then .next s
    else
      let records := d.source.records
      let signature := contentSignature records
      .next (commit sd d.source.frame.settled records signature (finishStatistics sd d signature s))

end Sys2Proof.Machine
end

