-- ==== Sys2Proof/Machine/Sensor.lean ====
section
/-! DEFINITION. The sensor port: IDENTITY_RECORD, TRAINING_DEADLINE, RETRAIN_TIME, LOSS_DEADLINE, SENSOR_HEADER and SENSOR_LINE
(R2 to R16). -/

namespace Sys2Proof.Machine

open Sys2Proof

/-! ### Training -/

/-- The fault runs of a side that each training completion resets (R15, R35, R45, R74, R120). -/
def Runs.onTraining (r : Runs) : Runs :=
  { r with
    recovery := 0
    frozenSame := 0
    frozenChange := 0
    frozenPrevious := none
    limitRun := 0
    limitClear := 0
    saturation := 0
    satRelease := 0
    obscuredRaise := 0
    obscuredClear := 0 }

/-- The first part of R3: the identity stored and the training counted. -/
def storeIdentity (sd : Side) (identity : BitVec 64) (revision : Byte) (s : State) : State :=
  let p := s.port sd
  let s := s.setPort sd
    { p with
      trained := some ⟨identity, revision⟩
      trainingDeadline := none
      lastCounter := none
      unsettledRun := 0
      counters := { p.counters with trainings := satInc p.counters.trainings } }
  s.setRuns sd (s.runs sd).onTraining

/-- The last part of R3: STREAM, EXPOSE and the entry to STREAMING. -/
def startStreaming (sd : Side) (s : State) : State :=
  let s := sendExpose sd (s.emit (.stream sd))
  s.setPort sd { s.port sd with lossDeadline := some (s.later lossTimeout), link := .streaming }

/-- IDENTITY_RECORD (R3, R156): ignored but in TRAINING. -/
def execIdentityRecord (sd : Side) (identity : BitVec 64) (revision : Byte) (s : State) : Host.Outcome State Fault Refusal :=
  match (s.port sd).link with
  | .training =>
    .next (judgeRunning (startStreaming sd (judgeTraining sd identity (storeIdentity sd identity revision s))))
  | _ => .next s

/-- Entry to LOST (R4, R6, R15): the retrain time set, SENSOR_LOST raised and its recovery run 0, and the power state judged. -/
def enterLost (sd : Side) (s : State) : State :=
  let s := s.setPort sd { s.port sd with link := .lost, retrainTime := some (s.later retrainDelay) }
  let s := s.setRuns sd { s.runs sd with recovery := 0 }
  judgeRunning (raise (.sensorLost sd) s)

/-- The training deadline, while it can be reached. -/
def Port.trainingDue (p : Port) : Option Time :=
  match p.link with
  | .training => p.trainingDeadline
  | _ => none

/-- TRAINING_DEADLINE (R4). -/
def execTrainingDeadline (sd : Side) (s : State) : Host.Outcome State Fault Refusal :=
  match (s.port sd).trainingDue with
  | none => .next s
  | some t =>
    let p := s.port sd
    .next (enterLost sd ((s.setTimebase t).setPort sd
      { p with
        trainingDeadline := none
        counters := { p.counters with trainingFailures := satInc p.counters.trainingFailures } }))

/-- The retrain time, while it can be reached: in LOST, and STARTING or RUNNING (R5). -/
def State.retrainDue (s : State) (sd : Side) : Option Time :=
  match (s.port sd).link with
  | .lost => if s.awake then (s.port sd).retrainTime else none
  | _ => none

/-- RETRAIN_TIME (R5, R2). -/
def execRetrainTime (sd : Side) (s : State) : Host.Outcome State Fault Refusal :=
  match s.retrainDue sd with
  | none => .next s
  | some t => .next (startTraining sd ((s.setTimebase t).setPort sd { s.port sd with retrainTime := none }))

/-- The loss deadline, while it can be reached. -/
def Port.lossDue (p : Port) : Option Time :=
  match p.link with
  | .streaming => p.lossDeadline
  | _ => none

/-- LOSS_DEADLINE (R6). -/
def execLossDeadline (sd : Side) (s : State) : Host.Outcome State Fault Refusal :=
  match (s.port sd).lossDue with
  | none => .next s
  | some t =>
    let p := s.port sd
    .next (enterLost sd ((s.setTimebase t).setPort sd
      { p with
        inProgress := none
        lossDeadline := none
        lastCounter := none
        lastExpose := none
        outstanding := false
        resendDone := false
        unsettledRun := 0
        counters := { p.counters with losses := satInc p.counters.losses } }))

/-! ### Frames -/

/-- The lines of a complete frame: 1080 pairs (1.2). -/
def linesPerFrame : Nat := 2160

/-- The most bad lines of a valid frame (R11). -/
def maxBadLines : Nat := 16

/-- A discard sets the SENSOR_LOST recovery run back to 0 (R15). -/
def breakRecovery (sd : Side) (s : State) : State := s.setRuns sd { s.runs sd with recovery := 0 }

/-- SENSOR_HEADER (R8): in STREAMING, a new frame in progress; an earlier one is discarded as INCOMPLETE. -/
def execSensorHeader (sd : Side) (counter : BitVec 16) (exposure ratio : Byte) (healthy : Bool) (s : State) :
    Host.Outcome State Fault Refusal :=
  let p := s.port sd
  let h : Header := ⟨counter, exposure, ratio, healthy⟩
  match p.link with
  | .streaming =>
    let opened : Port := { p with lastHeader := some h, inProgress := some ⟨h, s.timebase, #[]⟩ }
    match p.inProgress with
    | none => .next (s.setPort sd opened)
    | some _ =>
      .next (breakRecovery sd (s.setPort sd
        { opened with counters := { p.counters with discardIncomplete := satInc p.counters.discardIncomplete } }))
  | _ => .next s

/-- Lines in arrival order as the long sequence and the short sequence. -/
def splitPairs : List Line → List Line × List Line
  | a :: b :: rest => ((a :: (splitPairs rest).1), (b :: (splitPairs rest).2))
  | [a] => ([a], [])
  | [] => ([], [])

/-- Repair of one exposure's lines from the top down, given the nearest good line above, if any (R10). -/
def repairFrom (firstGood : Array Sample) : Option (Array Sample) → List Line → List (Array Sample)
  | _, [] => []
  | above, l :: rest =>
    if l.good then l.samples :: repairFrom firstGood (some l.samples) rest
    else above.getD firstGood :: repairFrom firstGood above rest

/-- One exposure's lines with each bad one replaced by the nearest good one above, or where there is none by the first good one (R10).
An exposure with no good line never reaches repair (R11). -/
def repair (lines : List Line) : List (Array Sample) :=
  repairFrom (((lines.find? fun l => l.good).map Line.samples).getD #[]) none lines

/-- Why a complete frame is discarded (R11). -/
inductive Discard where
  | header
  | lines
  | duplicate
  deriving DecidableEq, Repr

/-- Bad lines of a frame, both exposures. -/
def badLines (lines : Array Line) : Nat := lines.toList.countP fun l => !l.good

/-- The three checks in their order: the first that fails decides (R11). -/
def judgeFrame (f : FrameInProgress) (lastCounter : Option (BitVec 16)) : Option Discard :=
  if !f.header.healthy || f.header.ratio.toNat < 4 || 8 < f.header.ratio.toNat then some .header
  else if maxBadLines < badLines f.lines then some .lines
  else if lastCounter = some f.header.counter then some .duplicate
  else none

def PortCounters.discarded (c : PortCounters) : Discard → PortCounters
  | .header => { c with discardHeader := satInc c.discardHeader }
  | .lines => { c with discardLines := satInc c.discardLines }
  | .duplicate => { c with discardRepeat := satInc c.discardRepeat }

/-- The port is settled by a frame when its applied exposure index equals the last commanded E (R13). -/
def Port.settles (p : Port) (applied : Byte) : Bool :=
  match p.lastExpose with
  | some x => x.e == applied.toNat
  | none => false

/-- The valid frame as it is handed on, repaired (R10, R11). -/
def validFrame (f : FrameInProgress) (settled : Bool) : Frame :=
  let halves := splitPairs f.lines.toList
  { number := f.header.counter
    capture := f.capture
    exposure := f.header.exposure
    ratio := f.header.ratio
    settled := settled
    repaired := badLines f.lines
    long := (repair halves.1).toArray
    short := (repair halves.2).toArray }

/-- The port's own record of a valid frame (R11, R6, R16, R17). -/
def acceptFrame (sd : Side) (f : FrameInProgress) (s : State) : State :=
  let p := s.port sd
  s.setPort sd
    { p with
      inProgress := none
      lastCounter := some f.header.counter
      lossDeadline := some (s.later lossTimeout)
      lastCapture := some f.capture
      counters :=
        { p.counters with
          framesValid := satInc p.counters.framesValid
          linesRepaired := satAdd p.counters.linesRepaired (badLines f.lines) } }

/-- A settled frame clears the flags and the run; an unsettled one advances the run and at 8 has the last EXPOSE sent again, once
(R13, R14). -/
def judgeSettled (sd : Side) (settled : Bool) (s : State) : State :=
  let p := s.port sd
  if settled then s.setPort sd { p with outstanding := false, resendDone := false, unsettledRun := 0 }
  else
    let run := min (p.unsettledRun + 1) 65535
    match p.lastExpose with
    | some x =>
      if run = 8 ∧ p.resendDone = false then
        (s.emit (.expose sd x.e x.ratio)).setPort sd
          { p with
            unsettledRun := run
            outstanding := true
            resendDone := true
            counters := { p.counters with resends := satInc p.counters.resends } }
      else s.setPort sd { p with unsettledRun := run }
    | none => s.setPort sd { p with unsettledRun := run }

/-- The SENSOR_LOST recovery run at a valid frame: a run of 3 clears it (R15). -/
def advanceRecovery (sd : Side) (s : State) : State :=
  let r := s.runs sd
  if FaultSet.has s.faults.current (.sensorLost sd) then
    if 3 ≤ r.recovery + 1 then clearFault (.sensorLost sd) (s.setRuns sd { r with recovery := 0 })
    else s.setRuns sd { r with recovery := r.recovery + 1 }
  else s.setRuns sd { r with recovery := 0 }

/-- SENSOR_CONTROL at a valid frame: cleared by a settled frame, raised when an unsettled one brings the run to 16 (R13, R14). -/
def judgeControl (sd : Side) (settled : Bool) (run : Nat) (s : State) : State :=
  if settled then clearFault (.sensorControl sd) s
  else if run = 16 then raise (.sensorControl sd) s
  else s

/-- A complete frame (R11): discarded, or accepted, judged, handed to the pipeline and reported to the supervisor. The supervisor's part
of R15 stands before that of R13 and R14, since the reports of one event stand in order of priority (R117, log entry 24). -/
def completeFrame (sd : Side) (f : FrameInProgress) (s : State) : State :=
  let p := s.port sd
  match judgeFrame f p.lastCounter with
  | some why => breakRecovery sd (s.setPort sd { p with inProgress := none, counters := p.counters.discarded why })
  | none =>
    let settled := p.settles f.header.exposure
    let s := judgeSettled sd settled (acceptFrame sd f s)
    let run := (s.port sd).unsettledRun
    let s := handOver sd (validFrame f settled) s
    judgeControl sd settled run (advanceRecovery sd s)

/-- A line of the frame in progress checked and stored; the 2,160th completes the frame (R9). -/
def storeLine (sd : Side) (f : FrameInProgress) (samples : Array Sample) (crc : BitVec 16) (s : State) : State :=
  let p := s.port sd
  let good : Bool := decide (lineCrc samples = crc)
  let f' : FrameInProgress := { f with lines := f.lines.push ⟨samples, good⟩ }
  let s := s.setPort sd
    { p with
      inProgress := some f'
      counters := if good then p.counters else { p.counters with crcFailures := satInc p.counters.crcFailures } }
  if f'.lines.size = linesPerFrame then completeFrame sd f' s else s

/-- SENSOR_LINE (R9): ignored but in STREAMING with a frame in progress. -/
def execSensorLine (sd : Side) (samples : Array Sample) (crc : BitVec 16) (s : State) : Host.Outcome State Fault Refusal :=
  if wellFormedLine samples then
    match (s.port sd).link, (s.port sd).inProgress with
    | .streaming, some f => .next (storeLine sd f samples crc s)
    | _, _ => .next s
  else .fault .malformed

end Sys2Proof.Machine
end

