-- ==== Sys2Proof/Machine/Compose.lean ====
section
/-! DEFINITION. COMPOSITION_COMPLETION (R87, R89) and the frame store's answer to a scan (R90 to R92). -/

namespace Sys2Proof.Machine

open Sys2Proof

/-- The raster a composition makes (R81, R85, R86). -/
def Composition.raster (c : Composition) : Raster :=
  match c.kind, c.source with
  | .normal, some (_, d) => .view d c.latched
  | _, _ => .fault (c.latched.palette.getD 0 ⟨0, 0, 0⟩)

/-- The slot record of a composition (R79, R87, R89). -/
def Composition.record (c : Composition) : SlotRecord where
  number := c.source.map fun x => x.2.frame.number
  capture := c.source.map fun x => x.2.frame.capture
  kind := c.kind
  signature := displaySignature c.raster
  raster := c.raster

/-- The READY slot, if any, freed and counted as a slot drop. -/
def FrameStore.dropReady (x : FrameStore) : FrameStore :=
  match x.ready with
  | some _ => { x.mapSlots Slot.freeReady with slotDrops := satInc x.slotDrops }
  | none => x

/-- The composition counted by its kind (R87). -/
def FrameStore.countComposed (x : FrameStore) : Content → FrameStore
  | .normal => { x with normalComposed := satInc x.normalComposed }
  | .faultPattern => { x with faultComposed := satInc x.faultComposed }

/-- A completion at the frame store: any older READY slot is dropped and the FILLING slot becomes READY (R89). -/
def FrameStore.finish (x : FrameStore) (r : SlotRecord) : FrameStore :=
  (x.dropReady.mapSlots (Slot.complete r)).countComposed r.kind

/-- The completion of the composition in flight (R87). -/
def finishComposition (sd : Side) (c : Composition) (s : State) : State :=
  let s := s.setStore sd ((s.store sd).finish c.record)
  let s :=
    match c.source with
    | some (n, _) => s.setPipe sd ((s.pipe sd).release n)
    | none => s
  s.setComp sd { s.comp sd with inFlight := none }

/-- COMPOSITION_COMPLETION (R87): the compositor's next frame start follows at once where its condition holds. -/
def execCompositionCompletion (sd : Side) (s : State) : Host.Outcome State Fault Refusal :=
  match (s.comp sd).inFlight with
  | none => .next s
  | some c => .next (tryFrameStart sd (finishComposition sd c s))

/-! ### Scans -/

/-- What the store does at a scan: itself after it, and the slot record handed, if any. -/
structure Scanned where
  store : FrameStore
  handed : Option SlotRecord

/-- The READY slot becomes SHOWN and the slot that was SHOWN becomes FREE (R90, R91). -/
def FrameStore.showReady (x : FrameStore) : FrameStore := (x.mapSlots Slot.freeShown).mapSlots Slot.show

/-- A repeat of the SHOWN slot, counted; or an empty scan, counted. -/
def FrameStore.repeatShown (x : FrameStore) : Scanned :=
  match x.shown with
  | some r => ⟨{ x with scanRepeats := satInc x.scanRepeats }, some r⟩
  | none => ⟨{ x with emptyScans := satInc x.emptyScans }, none⟩

/-- A scan in LIVE (R90). -/
def FrameStore.scanLive (x : FrameStore) : Scanned :=
  match x.ready with
  | some r =>
    match r.kind with
    | .normal => ⟨x.showReady, some r⟩
    | .faultPattern => x.dropReady.repeatShown
  | none => x.repeatShown

/-- A repeat of the SHOWN slot in BLANKED: only a fault pattern is handed again (R91). -/
def FrameStore.repeatFault (x : FrameStore) : Scanned :=
  match x.shown with
  | some r =>
    match r.kind with
    | .faultPattern => ⟨{ x with scanRepeats := satInc x.scanRepeats }, some r⟩
    | .normal => ⟨{ x with emptyScans := satInc x.emptyScans }, none⟩
  | none => ⟨{ x with emptyScans := satInc x.emptyScans }, none⟩

/-- A scan in BLANKED (R91). -/
def FrameStore.scanBlanked (x : FrameStore) : Scanned :=
  match x.ready with
  | some r =>
    match r.kind with
    | .faultPattern => ⟨x.showReady, some r⟩
    | .normal => x.dropReady.repeatFault
  | none => x.repeatFault

/-- A scan in HOLD (R92). With nothing SHOWN no slot is handed and nothing is counted (log entry 12). -/
def FrameStore.scanHold (x : FrameStore) : Scanned :=
  match x.shown with
  | some r => ⟨{ x with scanRepeats := satInc x.scanRepeats }, some r⟩
  | none => ⟨x, none⟩

/-- A scan in PRIMING (R92). -/
def FrameStore.scanPriming (x : FrameStore) : Scanned :=
  match x.ready with
  | some r =>
    match r.kind with
    | .faultPattern => ⟨x.dropReady, none⟩
    | .normal => ⟨x, none⟩
  | none => ⟨x, none⟩

/-- The store's answer to a scan presented with a display state (5.8). A display in DARK has no scan starts. -/
def FrameStore.scan (x : FrameStore) : DisplayState → Scanned
  | .live => x.scanLive
  | .blanked => x.scanBlanked
  | .hold => x.scanHold
  | .priming => x.scanPriming
  | .dark => ⟨x, none⟩

end Sys2Proof.Machine
end

