-- ==== Sys2Proof/Machine/NightControl.lean ====
section
/-! DEFINITION. The night state controller: NIGHT_EVALUATION (R49 to R55). -/

namespace Sys2Proof.Machine

open Sys2Proof

/-- Step 1: the pending NIGHT and BACKLIGHT copies applied. -/
def Night.applyPending (n : Night) : Night :=
  { n with
    nightAct := n.nightPend.apply n.nightAct
    nightPend := .empty
    backAct := n.backPend.apply n.backAct
    backPend := .empty }

/-- The source of an evaluation with its value. -/
inductive Chosen where
  | lux (v : Nat)
  | exposure (e : Nat)
  | none
  deriving DecidableEq, Repr

def Chosen.source : Chosen → NightSource
  | .lux _ => .lux
  | .exposure _ => .exposure
  | .none => .none

/-- Step 2 (R50): a fresh lux value; else the floor of the mean of E over the sides whose port is STREAMING; else none. -/
def chooseSource (s : State) : Chosen :=
  match s.freshLux with
  | some v => .lux v
  | none =>
    match (s.port .left).link, (s.port .right).link with
    | .streaming, .streaming => .exposure (((s.exposure .left).e + (s.exposure .right).e) / 2)
    | .streaming, _ => .exposure (s.exposure .left).e
    | _, .streaming => .exposure (s.exposure .right).e
    | _, _ => .none

/-- The last source takes the chosen one; a change of source ends the dwell; a source sets source seen (R50). -/
def Night.takeSource (c : Chosen) (n : Night) : Night :=
  let n := if c.source = n.lastSource then n else { n with dwellCount := 0, dwellTarget := none }
  { n with lastSource := c.source, sourceSeen := n.sourceSeen || decide (c.source ≠ .none) }

/-- The destination of the open transition whose condition is true, if any (R52). -/
def openTransition (g : NightGroup) (now : NightState) : Chosen → Option NightState
  | .none => none
  | .exposure e =>
    match now with
    | .day => if g.eDusk ≤ e then some .dusk else none
    | .dusk => if g.eNight ≤ e then some .night else if e + g.hysteresis < g.eDusk then some .day else none
    | .night => if e + g.hysteresis < g.eNight then some .dusk else none
  | .lux v =>
    match now with
    | .day => if v < g.luxDusk then some .dusk else none
    | .dusk => if v < g.luxNight then some .night else if 2 * g.luxDusk ≤ v then some .day else none
    | .night => if 2 * g.luxNight ≤ v then some .dusk else none

/-- The dwell judged toward a destination: counted, and the night state moved when it is reached (R52). -/
def Night.dwellToward (dest : NightState) (n : Night) : Night :=
  let count := if n.dwellTarget = some dest then n.dwellCount + 1 else 1
  if n.nightAct.dwell ≤ count then { n with state := dest, dwellCount := 0, dwellTarget := none }
  else { n with dwellCount := count, dwellTarget := some dest }

/-- Step 3 (R50, R52): with no source the dwell count is set to 0; with no open condition true the dwell ends. -/
def Night.transit (c : Chosen) (n : Night) : Night :=
  match c with
  | .none => { n with dwellCount := 0 }
  | _ =>
    match openTransition n.nightAct n.state c with
    | none => { n with dwellCount := 0, dwellTarget := none }
    | some dest => n.dwellToward dest

/-- The backlight level of a night state (R54). -/
def BacklightGroup.level (g : BacklightGroup) : NightState → Nat
  | .day => g.day
  | .dusk => g.dusk
  | .night => g.night

/-- clamp(level + trim, 0, 1023) (R54). -/
def backlightTarget (g : BacklightGroup) (n : NightState) (trim : Int) : Nat := (clampInt (g.level n + trim) 0 1023).toNat

/-- Step 4 (R54). -/
def Night.retarget (n : Night) : Night :=
  { n with target := ⟨backlightTarget n.backAct n.state n.backAct.trimLeft, backlightTarget n.backAct n.state n.backAct.trimRight⟩ }

/-- Step 5 (R55): each display's level one ramp step toward its target. -/
def rampBacklight (sd : Side) (s : State) : State :=
  let d := s.display sd
  s.setDisplay sd { d with backlight := approach d.backlight (s.night.target.get sd) 32 }

/-- One evaluation at the moment t (R49). -/
def evaluateNight (t : Time) (s : State) : State :=
  let s := s.setTimebase t
  let n := { s.night with nextEval := some (s.later evaluationPeriod) }.applyPending
  let c := chooseSource s
  let s := s.setNight ((n.takeSource c).transit c).retarget
  rampBacklight .right (rampBacklight .left s)

/-- The next evaluation time, while the timer runs (R49). -/
def State.evaluationDue (s : State) : Option Time := if s.awake then s.night.nextEval else none

/-- NIGHT_EVALUATION (R49). -/
def execNightEvaluation (s : State) : Host.Outcome State Fault Refusal :=
  match s.evaluationDue with
  | none => .next s
  | some t => .next (evaluateNight t s)

end Sys2Proof.Machine
end

