-- ==== Sys2Proof/Machine/Monitor.lean ====
section
/-! DEFINITION. The display port: WAKE_DEADLINE, WAKE_RETRY_TIME, READY, CALL, SCAN_START, HOLD_EXPIRY, ECHO_SILENCE, ECHO,
MONITOR_STATUS and MONITOR_REPLY (R98 to R111). -/

namespace Sys2Proof.Machine

open Sys2Proof

/-! ### Wake -/

/-- The wake deadline, while it can be reached. -/
def Display.wakeDue (d : Display) : Option Time :=
  match d.link with
  | .waking => d.wakeDeadline
  | _ => none

/-- The fourth burst has gone unanswered: the sequence has failed (R99). -/
def failWake (sd : Side) (s : State) : State :=
  let d := s.display sd
  raise (.displayLink sd) (s.setDisplay sd
    { d with
      link := .hibernate
      wakeAttempt := 0
      wakeDeadline := none
      wakeRetry := some (s.later wakeRetryDelay)
      counters := { d.counters with wakeFailures := satInc d.counters.wakeFailures } })

/-- WAKE_DEADLINE (R99). -/
def execWakeDeadline (sd : Side) (s : State) : Host.Outcome State Fault Refusal :=
  match (s.display sd).wakeDue with
  | none => .next s
  | some t =>
    let s := s.setTimebase t
    if (s.display sd).wakeAttempt < 4 then .next (sendBurst sd ((s.display sd).wakeAttempt + 1) s) else .next (failWake sd s)

/-- The wake retry time, while it can be reached: in HIBERNATE with the display wanted (R99). -/
def State.wakeRetryDue (s : State) (sd : Side) : Option Time :=
  match (s.display sd).link with
  | .hibernate => if s.wanted sd then (s.display sd).wakeRetry else none
  | _ => none

/-- WAKE_RETRY_TIME (R99, R98). -/
def execWakeRetryTime (sd : Side) (s : State) : Host.Outcome State Fault Refusal :=
  match s.wakeRetryDue sd with
  | none => .next s
  | some t => .next (startWake sd (s.setTimebase t))

/-- A READY taken in WAKING (R100). -/
def completeWake (sd : Side) (identity : BitVec 32) (s : State) : State :=
  let s := s.setDisplay sd
    { s.display sd with
      identity := some identity
      wakeDeadline := none
      wakeAttempt := 0
      echoList := []
      silence := 0
      nextScan := some (s.later scanPeriod)
      link := .synced }
  let s := s.setRuns sd { s.runs sd with pathMatch := 0, staleClear := 0 }
  changeDisplay sd .priming (clearFault (.displayLink sd) s)

/-- READY (R100): ignored but in WAKING. -/
def execReady (sd : Side) (identity : BitVec 32) (s : State) : Host.Outcome State Fault Refusal :=
  match (s.display sd).link with
  | .waking => .next (completeWake sd identity s)
  | _ => .next s

/-- CALL (R100): in HIBERNATE, a wake sequence if the display is wanted, counted if it is not. R100's closing sentences have a call taken
before the display-wanted event start the sequence; following R100's table against them is the model's choice (DEDUCED, log entry 40). -/
def execCall (sd : Side) (s : State) : Host.Outcome State Fault Refusal :=
  let d := s.display sd
  match d.link with
  | .hibernate =>
    if s.wanted sd then .next (startWake sd s)
    else .next (s.setDisplay sd { d with counters := { d.counters with callsIgnored := satInc d.counters.callsIgnored } })
  | _ => .next s

/-! ### Scan start (R105) -/

/-- The NORMAL kind is READY. -/
def FrameStore.normalReady (x : FrameStore) : Bool :=
  match x.ready with
  | some r => decide (r.kind = .normal)
  | none => false

/-- Step 1 in PRIMING (R102). -/
def judgePriming (sd : Side) (s : State) : State :=
  if s.faults.viewLoss sd then changeDisplay sd .blanked s
  else if (s.store sd).normalReady then changeDisplay sd .live s
  else s

/-- Step 1 in HOLD (R104): LIVE when no view-loss fault is current, BLANKED at the limit, else one more held refresh. -/
def judgeHold (sd : Side) (s : State) : State :=
  if s.faults.viewLoss sd then
    if s.faults.group.holdLimit ≤ (s.display sd).holdCount then changeDisplay sd .blanked s
    else s.setDisplay sd { s.display sd with holdCount := (s.display sd).holdCount + 1 }
  else changeDisplay sd .live s

/-- Step 1: the display state judged (R102, R104). -/
def judgeDisplay (sd : Side) (s : State) : State :=
  match (s.display sd).state with
  | .priming => judgePriming sd s
  | .hold => judgeHold sd s
  | .blanked => if s.faults.viewLoss sd then s else changeDisplay sd .live s
  | _ => s

/-- A signature pushed onto the echo list, which first loses its oldest where it holds 4 (R105). -/
def pushEcho (l : List (BitVec 32)) (x : BitVec 32) : List (BitVec 32) := (if 4 ≤ l.length then l.drop 1 else l) ++ [x]

/-- Steps 3 and 4: one frame sent, and its signature pushed. -/
def sendFrame (sd : Side) (handed : Option SlotRecord) (s : State) : State :=
  let d := s.display sd
  match handed with
  | some r =>
    (s.emit (.frame sd d.backlight r.raster)).setDisplay sd
      { d with
        echoList := pushEcho d.echoList r.signature
        counters := { d.counters with framesSent := satInc d.counters.framesSent } }
  | none =>
    (s.emit (.frame sd d.backlight .start)).setDisplay sd
      { d with
        echoList := pushEcho d.echoList startSignature
        counters :=
          { d.counters with
            framesSent := satInc d.counters.framesSent
            startPatternsSent := satInc d.counters.startPatternsSent } }

/-- Step 5: the oldest outbound entry sent and removed. -/
def sendOutbound (sd : Side) (s : State) : State :=
  match (s.display sd).outQueue with
  | [] => s
  | x :: rest => (s.emit (.passThrough sd x)).setDisplay sd { s.display sd with outQueue := rest }

/-- VIEW_STALE judged against an age (R111). -/
def judgeStale (sd : Side) (age : Time) (s : State) : State :=
  let s := s.setDisplay sd { s.display sd with lastAge := some age }
  let r := s.runs sd
  if FaultSet.has s.faults.current (.viewStale sd) then
    if s.faults.group.latencyBudget < age.toNat then s.setRuns sd { r with staleClear := 0 }
    else if 3 ≤ r.staleClear + 1 then clearFault (.viewStale sd) (s.setRuns sd { r with staleClear := 0 })
    else s.setRuns sd { r with staleClear := r.staleClear + 1 }
  else if s.faults.group.latencyBudget < age.toNat then raise (.viewStale sd) s
  else s

/-- Step 6: no evaluation where no slot was handed or its capture time is absent (R111). -/
def evaluateStale (sd : Side) (handed : Option SlotRecord) (s : State) : State :=
  match handed.bind SlotRecord.capture with
  | some t => judgeStale sd (s.timebase - t) s
  | none => s

/-- The echo silence count has reached 6 (R107). -/
def silenceReached (sd : Side) (s : State) : State :=
  let d := s.display sd
  let s := s.setDisplay sd { d with silence := 0, counters := { d.counters with echoSilences := satInc d.counters.echoSilences } }
  pathFailed sd (fun s => s.setRuns sd { s.runs sd with pathMatch := 0 }) s

/-- Step 7 (R107). -/
def judgeSilence (sd : Side) (s : State) : State :=
  let s := s.setDisplay sd { s.display sd with silence := (s.display sd).silence + 1 }
  if 6 ≤ (s.display sd).silence then silenceReached sd s else s

/-- Step 2: the scan presented to the frame store. -/
def presentScan (sd : Side) (s : State) : State × Option SlotRecord :=
  let r := (s.store sd).scan (s.display sd).state
  (s.setStore sd r.store, r.handed)

/-- The seven steps of a scan start (R105), the next scan time having moved on. -/
def scan (sd : Side) (s : State) : State :=
  let p := presentScan sd (judgeDisplay sd s)
  judgeSilence sd (evaluateStale sd p.2 (sendOutbound sd (sendFrame sd p.2 p.1)))

/-- The next scan time, while it can be reached. -/
def Display.scanDue (d : Display) : Option Time :=
  match d.link with
  | .synced => d.nextScan
  | _ => none

/-- SCAN_START (R105). -/
def execScanStart (sd : Side) (s : State) : Host.Outcome State Fault Refusal :=
  match (s.display sd).scanDue with
  | none => .next s
  | some t =>
    let s := s.setTimebase t
    .next (scan sd (s.setDisplay sd { s.display sd with nextScan := some (s.later scanPeriod) }))

/-- HOLD_EXPIRY (R104): the judgement of HOLD's limit on its own, at the moment of the next scan start (log entry 7). -/
def execHoldExpiry (sd : Side) (s : State) : Host.Outcome State Fault Refusal :=
  let d := s.display sd
  match d.state with
  | .hold =>
    if s.faults.viewLoss sd ∧ s.faults.group.holdLimit ≤ d.holdCount then
      .next (expireHold sd (s.setTimebase (d.nextScan.getD s.timebase)))
    else .next s
  | _ => .next s

/-- ECHO_SILENCE (R107): the judgement of an echo silence count of 6 on its own (log entry 8). -/
def execEchoSilence (sd : Side) (s : State) : Host.Outcome State Fault Refusal :=
  match (s.display sd).link with
  | .synced => if 6 ≤ (s.display sd).silence then .next (silenceReached sd s) else .next s
  | _ => .next s

/-! ### Echo, status, reply -/

/-- The echo list after an echo that matches its oldest equal entry: that entry and every older one removed (R106). -/
def confirm (l : List (BitVec 32)) (x : BitVec 32) : List (BitVec 32) := (l.dropWhile (· ≠ x)).drop 1

/-- The DISPLAY_PATH match run at a matched echo (R106). -/
def advanceMatch (sd : Side) (s : State) : State :=
  let r := s.runs sd
  if FaultSet.has s.faults.current (.displayPath sd) then
    if 3 ≤ r.pathMatch + 1 then clearFault (.displayPath sd) (s.setRuns sd { r with pathMatch := 0 })
    else s.setRuns sd { r with pathMatch := r.pathMatch + 1 }
  else s

/-- An echo judged in SYNCED (R106). -/
def judgeEcho (sd : Side) (x : BitVec 32) (s : State) : State :=
  let d := s.display sd
  if x ∈ d.echoList then
    advanceMatch sd (s.setDisplay sd
      { d with
        silence := 0
        echoList := confirm d.echoList x
        counters := { d.counters with echoesMatched := satInc d.counters.echoesMatched } })
  else
    let s := s.setDisplay sd
      { d with silence := 0, counters := { d.counters with echoMismatches := satInc d.counters.echoMismatches } }
    pathFailed sd id (s.setRuns sd { s.runs sd with pathMatch := 0 })

/-- ECHO (R106): ignored but in SYNCED. -/
def execEcho (sd : Side) (signature : BitVec 32) (s : State) : Host.Outcome State Fault Refusal :=
  match (s.display sd).link with
  | .synced => .next (judgeEcho sd signature s)
  | _ => .next s

/-- MONITOR_STATUS (R109): ignored but in SYNCED. -/
def execMonitorStatus (sd : Side) (fault : Bool) (temperature : Byte) (s : State) : Host.Outcome State Fault Refusal :=
  match (s.display sd).link with
  | .synced =>
    let s := s.setDisplay sd { s.display sd with lastStatus := some ⟨fault, temperature, s.timebase⟩ }
    .next (if fault then raise (.monitorFault sd) s else clearFault (.monitorFault sd) s)
  | _ => .next s

/-- MONITOR_REPLY (R110): ignored but in SYNCED. -/
def execMonitorReply (sd : Side) (bytes : List Byte) (s : State) : Host.Outcome State Fault Refusal :=
  if wellFormedReply bytes then
    match (s.display sd).link with
    | .synced =>
      let d := s.display sd
      .next ((s.report (.monitorReply sd bytes)).setDisplay sd
        { d with counters := { d.counters with monitorReplies := satInc d.counters.monitorReplies } })
    | _ => .next s
  else .fault .malformed

end Sys2Proof.Machine
end

