-- ==== Sys2Proof/Machine/PowerControl.lean ====
section
/-! DEFINITION. The power controller: PARK (R157), WAKE_LINE_EDGE (R155), the reset events (R153, R158), and VEHICLE_EXPIRY (R121). -/

namespace Sys2Proof.Machine

open Sys2Proof

/-! ### PARK -/

/-- Order 2: a port in TRAINING, STREAMING or LOST sends HALT and goes to DOWN (R7). -/
def haltPort (sd : Side) (s : State) : State :=
  let p := s.port sd
  let halted : State := (s.emit (.halt sd)).setPort sd
    { p with
      link := .down
      inProgress := none
      trainingDeadline := none
      retrainTime := none
      lossDeadline := none
      lastExpose := none
      outstanding := false
      resendDone := false
      unsettledRun := 0
      lastCounter := none }
  match p.link with
  | .down => s
  | _ => halted

/-- A buffer whose work PARK abandons: all but READING (R36). -/
def Buffer.abandon : Buffer → Buffer
  | .reading d => .reading d
  | _ => .free

/-- Order 3: the pipeline's work in flight abandoned (R36). -/
def abandonDevelopment (sd : Side) (s : State) : State :=
  let p := s.pipe sd
  s.setPipe sd { p with dev := none, intake := none, bufA := p.bufA.abandon, bufB := p.bufB.abandon }

/-- The buffer of an abandoned composition, released at once (R94). -/
def releaseTaken (sd : Side) (s : State) : State :=
  match (s.comp sd).inFlight.bind Composition.source with
  | some (n, _) => s.setPipe sd ((s.pipe sd).release n)
  | none => s

/-- Order 4: the compositor's work in flight abandoned and every slot FREE (R94). -/
def abandonComposition (sd : Side) (s : State) : State :=
  let s := releaseTaken sd s
  let s := s.setComp sd { s.comp sd with inFlight := none, blankRequest := false, panOffset := 0, panTarget := 0 }
  s.setStore sd ((s.store sd).mapSlots fun _ => .free)

/-- Order 5: the night state controller stops (R49). -/
def stopNight (s : State) : State :=
  s.setNight { s.night with nextEval := none, dwellCount := 0, dwellTarget := none, lastSource := .none }

/-- Order 6: a display becomes unwanted (R101); its echo silence count is 0 after PARK (R96). -/
def parkDisplay (sd : Side) (s : State) : State :=
  let s := becomeUnwanted sd s
  s.setDisplay sd { s.display sd with silence := 0 }

/-- Order 7: the current set empty with no report, and every run 0 (R157, R113). -/
def emptyCurrent (s : State) : State := s.setFaults { s.faults with current := 0, runs := .both .zero }

/-- The seven orders of PARK (R157). R157 has LEFT before RIGHT at order 6; LEFT before RIGHT at order 2 too, seen only in the order of
`sent`, is the model's choice (DESIGN CHOICE, log entry 38). -/
def park (s : State) : State :=
  let s := changePower .parked s
  let s := haltPort .right (haltPort .left s)
  let s := abandonDevelopment .right (abandonDevelopment .left s)
  let s := abandonComposition .right (abandonComposition .left s)
  let s := stopNight s
  let s := parkDisplay .right (parkDisplay .left s)
  emptyCurrent s

/-! ### Waking by the line -/

/-- WAKE_LINE_EDGE (R155): each move sets the reference level; a rising edge while PARKED wakes the part. Moves while a reset is held
are not seen. -/
def execWakeLineEdge (high : Bool) (s : State) : Host.Outcome State Fault Refusal :=
  let moved := s.setPower { s.power with wakeLevel := high }
  match s.power.state with
  | .off => .next s
  | .parked => if high && !s.power.wakeLevel then .next (enterStarting .line moved) else .next moved
  | _ => .next moved

/-! ### Resets -/

/-- A display port while a reset is held: link OFF (R96). -/
def Display.held : Display := { Display.reset with link := .off }

/-- Every field at its power-on value with the part held in OFF: links OFF, the report queue empty, ATTN deasserted, the timebase 0. The
model's own fields are kept. R152 gives no value for the last wake source, the WAKE reference level and the sampled strap while a reset is
held: absent, low and PARKED are the model's choice (DESIGN CHOICE, log entry 39). -/
def heldState (h : Hold) (s : State) : State :=
  { State.reset with
    power := ⟨.off, none, false, false, h⟩
    displays := .both Display.held
    queue := ⟨[], false, 0⟩
    sent := s.sent
    raceCount := s.raceCount
    pending := s.pending }

/-- What the retention domain keeps through a part reset of a side's exposure controller: E within the default limits, and the gains
(R38, R39). -/
def Exposure.retained (x : Exposure) : Exposure :=
  { Exposure.reset with e := inLimits .default x.e, gainR := x.gainR, gainB := x.gainB }

/-- The grid, each gain limited to the default A_max, and the tags (R59). -/
def Glare.retained (g : Glare) : Glare := { Glare.reset with grid := g.grid.map (min · GlareGroup.default.aMax), tags := g.tags }

def Display.retained (d : Display) : Display := { Display.held with backlight := d.backlight }

/-- frames_adapted, the committed night state and the identity copy (R140). -/
def Context.retained (c : Context) : Context :=
  { Context.reset with framesAdapted := c.framesAdapted, committedNight := c.committedNight, identityCopy := c.identityCopy }

/-- One function on both sides. -/
def Sides.map {α β : Type} (f : α → β) (p : Sides α) : Sides β := ⟨f p.left, f p.right⟩

/-- The beginning of a part reset (R158): OFF, work in flight abandoned, everything at its reset value but the retention domain: each
side's live adaptation state, the shared night state, the accrued set and, until the end of the reset, the restart cause. -/
def beginPartReset (pin : Bool) (s : State) : State :=
  let h := heldState (.partReset pin) s
  { h with
    exposures := Sides.map Exposure.retained s.exposures
    glares := Sides.map Glare.retained s.glares
    displays := Sides.map Display.retained s.displays
    contexts := Sides.map Context.retained s.contexts
    night := { h.night with state := s.night.state }
    faults := { h.faults with accrued := s.faults.accrued }
    restartCause := s.restartCause }

/-- SUPPLY_ON (R158): a power-on begins and is held. No effect where the supply is already on. -/
def execSupplyOn (s : State) : Host.Outcome State Fault Refusal :=
  match s.power.hold with
  | .noSupply => .next (heldState .powerOn s)
  | _ => .next s

/-- SUPPLY_LOSS (R158): OFF, and the retention ends. -/
def execSupplyLoss (s : State) : Host.Outcome State Fault Refusal := .next (heldState .noSupply s)

/-- NRST_ASSERTED (R158): a part reset begins; during a held part reset it makes the cause RESET_PIN; during a power-on, and without
supply, it changes nothing. -/
def execNrstAsserted (s : State) : Host.Outcome State Fault Refusal :=
  match s.power.hold with
  | .released => .next (beginPartReset true s)
  | .partReset _ => .next (s.setPower { s.power with hold := .partReset true })
  | _ => .next s

/-- The monitor links leave OFF for HIBERNATE at the end of a reset (R96). -/
def openMonitorLinks (s : State) : State :=
  let wake (sd : Side) (s : State) : State := s.setDisplay sd { s.display sd with link := .hibernate }
  wake .right (wake .left s)

/-- The six steps of the end of a reset (R153). -/
def endReset (cause : RestartCause) (autostart wakeHigh : Bool) (s : State) : State :=
  let s := openMonitorLinks { s with timebase := 0, restartCause := cause }
  let s := s.report (.restarted cause)
  let s := s.setPower ⟨.off, none, wakeHigh, autostart, .released⟩
  if autostart then startingEffects (changePower .starting (s.setPower { s.power with lastWake := some .autostart }))
  else changePower .parked s

/-- RESET_END (R153, R158): of the reset being held, if any. -/
def execResetEnd (autostart wakeHigh : Bool) (s : State) : Host.Outcome State Fault Refusal :=
  match s.power.hold with
  | .powerOn => .next (endReset .powerOn autostart wakeHigh s)
  | .partReset true => .next (endReset .resetPin autostart wakeHigh s)
  | .partReset false => .next (endReset .resetRequest autostart wakeHigh s)
  | _ => .next s

/-! ### Vehicle expiry (R121) -/

/-- The expiry moment of a field. -/
def Faults.expiry (x : Faults) : VehicleField → Option Time
  | .angle => x.expiryAngle
  | .lux => x.expiryLux

/-- The expiry moment of a field, replaced. -/
def Faults.setExpiry (x : Faults) (f : VehicleField) (t : Option Time) : Faults :=
  match f with
  | .angle => { x with expiryAngle := t }
  | .lux => { x with expiryLux := t }

/-- VEHICLE_EXPIRY (R121): the moment becomes absent and the condition is judged, but while PARKED. -/
def execVehicleExpiry (field : VehicleField) (s : State) : Host.Outcome State Fault Refusal :=
  match s.faults.expiry field with
  | none => .next s
  | some t =>
    let s := s.setTimebase t
    .next (judgeVehicle (s.setFaults (s.faults.setExpiry field none)))

end Sys2Proof.Machine
end

