-- ==== Sys2Proof/Machine/StatusReply.lean ====
section
/-! DEFINITION. The payloads of the requests that read: IDENT, GET and STATUS (R166, 12.3, 12.5). STATUS is written section by section, each
value in the place its rule lists it (log entry 18). -/

namespace Sys2Proof.Machine

open Sys2Proof

/-! ### Values of a section -/

def byte1 (n : Nat) : List Byte := beBytes 1 n
def word2 (n : Nat) : List Byte := beBytes 2 n
def long4 (n : Nat) : List Byte := beBytes 4 n

/-- A named value with no code in Record Layouts, by its place in the order its rule lists the values: a free byte (log entry 19). -/
def namedByte (item : Config.StatusItem) (n : Nat) : List Byte := [Config.statusCode item n]

def optByte : Option Nat → List Byte := optBytes 1 byte1
def optWord : Option Nat → List Byte := optBytes 2 word2
def optLong : Option Nat → List Byte := optBytes 4 long4
def optTime : Option Time → List Byte := optBytes 4 be32
def optNumber : Option (BitVec 16) → List Byte := optBytes 2 be16

/-- A section: its number, its length and its contents. -/
def statusPart (number : Nat) (contents : List Byte) : List Byte := byte1 number ++ word2 contents.length ++ contents

/-- The age of a moment as the reply is built (R159). -/
def State.age (s : State) (t : Time) : Time := s.timebase - t

/-! ### Section 1 (R152) -/

def WakeSource.place : WakeSource → Nat
  | .autostart => 1
  | .request => 2
  | .line => 3

/-- Section 1 (R152). Chapter 12 gives no byte for the WAKE reference level and the sampled AUTOSTART strap: 1 for high and for selects
STARTING, 0 for low and for selects PARKED, are the model's choice (DESIGN CHOICE, log entry 36). -/
def powerSection (s : State) : List Byte :=
  [s.power.state.code] ++ optBytes 1 (fun w => namedByte .wakeSource (WakeSource.place w)) s.power.lastWake
    ++ boolByte s.power.wakeLevel ++ boolByte s.power.autostart ++ be32 s.timebase

/-! ### Sections 2 and 3 (R16, R17) -/

def PortCounters.list (c : PortCounters) : List Nat :=
  [c.framesValid, c.discardHeader, c.discardLines, c.discardRepeat, c.discardIncomplete, c.crcFailures, c.linesRepaired, c.trainings,
    c.trainingFailures, c.losses, c.resends]

def PortLink.place : PortLink → Nat
  | .down => 0
  | .training => 1
  | .streaming => 2
  | .lost => 3

def SensorId.bytes (x : SensorId) : List Byte := be64 x.identity ++ [x.revision]

def Commanded.bytes (x : Commanded) : List Byte := byte1 x.e ++ byte1 x.ratio

/-- The last header (R17). Chapter 12 gives no byte for the sensor-health flag: 1 for healthy and 0 for unhealthy are the model's choice
(DESIGN CHOICE, log entry 36). -/
def Header.bytes (h : Header) : List Byte := be16 h.counter ++ [h.exposure, h.ratio] ++ boolByte h.healthy

def portSection (s : State) (sd : Side) : List Byte :=
  let p := s.port sd
  p.counters.list.flatMap long4 ++ namedByte .sensorLink p.link.place ++ optBytes 9 SensorId.bytes p.trained
    ++ optNumber p.lastCounter ++ optBytes 2 Commanded.bytes p.lastExpose ++ boolByte p.outstanding ++ word2 p.unsettledRun
    ++ optBytes 5 Header.bytes p.lastHeader ++ optTime p.lastCapture ++ optTime (p.lastCapture.map s.age)

/-! ### Sections 4 and 5 (R37) -/

/-- The place of a two-valued state: the first listed value is 0. -/
def second (b : Bool) : Nat := if b then 1 else 0

def Developed.numberBytes (d : Option Developed) : List Byte :=
  optNumber (d.map fun x => x.frame.number) ++ optTime (d.map fun x => x.frame.capture)

/-- The tone curve in use is night's: as latched by the frame in development, else as the night state selects it (R20, log entry 23). -/
def State.nightCurveInUse (s : State) (sd : Side) : Bool :=
  match (s.pipe sd).dev with
  | some d => d.source.latched.nightCurve
  | none => decide (s.night.state = .night)

def pipeSection (s : State) (sd : Side) : List Byte :=
  let p := s.pipe sd
  let r := s.runs sd
  [p.framesDeveloped, p.bufferDrops, p.intakeDrops].flatMap long4 ++ namedByte .pipelineActivity (second p.dev.isSome)
    ++ Developed.numberBytes (p.dev.map InDevelopment.source) ++ Developed.numberBytes (p.waiting.map Prod.snd)
    ++ optTime p.lastSignature ++ word2 r.frozenSame ++ word2 r.frozenChange ++ namedByte .toneCurve (second (s.nightCurveInUse sd))

/-! ### Sections 6 to 8 (R56) -/

def exposureSection (s : State) (sd : Side) : List Byte :=
  let x := s.exposure sd
  let r := s.runs sd
  byte1 x.e ++ word2 x.gainR ++ word2 x.gainB ++ optWord x.wbTargetR ++ optWord x.wbTargetB ++ optLong x.lastMean
    ++ word2 x.lastWeight ++ optBytes 2 i16Bytes x.lastError ++ word2 x.wbZones
    ++ [x.settledCommits, x.unsettledCommits, x.exposureChanges].flatMap long4 ++ word2 r.limitRun ++ word2 r.limitClear

def NightSource.place : NightSource → Nat
  | .none => 0
  | .lux => 1
  | .exposure => 2

def nightSection (s : State) : List Byte :=
  let n := s.night
  let levels (sd : Side) : List Byte := word2 (n.target.get sd) ++ word2 (s.display sd).backlight
  [n.state.code] ++ namedByte .nightSource n.lastSource.place ++ word2 n.dwellCount
    ++ optBytes 1 (fun x => [NightState.code x]) n.dwellTarget ++ boolByte n.sourceSeen ++ levels .left ++ levels .right

/-! ### Sections 9 and 10 (R76) -/

def glareSection (s : State) (sd : Side) : List Byte :=
  let g := s.glare sd
  let r := s.runs sd
  [g.tags.countP id, g.lastAttenuated, g.lastAtMax, g.grid.foldl max 0, r.saturation, r.satRelease].flatMap word2

/-! ### Sections 11 and 12 (R95) -/

def Content.place : Content → Nat
  | .normal => 0
  | .faultPattern => 1

/-- The four values of a slot record (R88), 13 bytes. -/
def recordBytes (number : Option (BitVec 16)) (capture : Option Time) (kind : Content) (signature : BitVec 32) : List Byte :=
  optNumber number ++ optTime capture ++ namedByte .contentKind kind.place ++ be32 signature

/-- A slot's state and its record. A FILLING slot has the values its composition took and a signature that is not yet formed: free
(log entry 20). -/
def slotBytes (s : State) (sd : Side) : Slot → List Byte
  | .free => namedByte .slotState 0 ++ 0#8 :: List.replicate 13 0#8
  | .filling =>
    let source := ((s.comp sd).inFlight.bind Composition.source).map Prod.snd
    let kind := ((s.comp sd).inFlight.map Composition.kind).getD .normal
    namedByte .slotState 1 ++ 1#8 :: recordBytes (source.map fun d => d.frame.number) (source.map fun d => d.frame.capture) kind
      (Config.unformedSignature s.timebase)
  | .ready r => namedByte .slotState 2 ++ 1#8 :: recordBytes r.number r.capture r.kind r.signature
  | .shown r => namedByte .slotState 3 ++ 1#8 :: recordBytes r.number r.capture r.kind r.signature

def compositorSection (s : State) (sd : Side) : List Byte :=
  let c := s.comp sd
  let x := s.store sd
  namedByte .compositorActivity (second c.inFlight.isSome) ++ boolByte c.blankRequest
    ++ [c.panOffset, c.panTarget, pannedX c.act c.panOffset].flatMap word2 ++ boolByte c.angleFresh ++ word2 c.overlays.length
    ++ c.overlays.flatMap (fun o => byte1 o.id) ++ slotBytes s sd x.slot0 ++ slotBytes s sd x.slot1 ++ slotBytes s sd x.slot2
    ++ [x.normalComposed, x.faultComposed, x.slotDrops, x.scanRepeats, x.emptyScans].flatMap long4

/-! ### Sections 13 and 14 (R111) -/

def MonitorLink.place : MonitorLink → Nat
  | .off => 0
  | .hibernate => 1
  | .waking => 2
  | .synced => 3

/-- A temperature in degrees as a signed value of two bytes. -/
def temperatureBytes (t : Byte) : List Byte := i16Bytes t.toInt

/-- The three values of a last monitor status (R109). -/
def MonitorStatus.bytes (m : MonitorStatus) : List Byte :=
  boolByte m.fault ++ temperatureBytes m.temperature ++ be32 m.arrival

def DisplayCounters.list (c : DisplayCounters) : List Nat :=
  [c.framesSent, c.startPatternsSent, c.wakeBursts, c.wakeFailures, c.callsIgnored, c.echoesMatched, c.echoMismatches, c.echoSilences,
    c.pathResyncs, c.monitorReplies]

def displaySection (s : State) (sd : Side) : List Byte :=
  let d := s.display sd
  let r := s.runs sd
  boolByte d.enabled ++ boolByte (s.wanted sd) ++ namedByte .monitorLink d.link.place ++ word2 d.wakeAttempt ++ [d.state.code]
    ++ word2 d.holdCount ++ optTime d.identity ++ word2 d.echoList.length ++ word2 d.silence ++ word2 r.pathMatch
    ++ word2 r.staleClear ++ optTime d.lastAge ++ optBytes 7 MonitorStatus.bytes d.lastStatus
    ++ optTime (d.lastStatus.map fun m => s.age m.arrival) ++ word2 d.outQueue.length ++ word2 d.backlight
    ++ d.counters.list.flatMap long4

/-! ### Section 15 (R129) -/

/-- A received vehicle field's age and freshness. -/
def vehicleBytes (age : Option Time) (fresh : Bool) : List Byte := optBytes 5 (fun a => be32 a ++ boolByte fresh) age

/-- Section 15 (R129). It ends with the values that R129 names itself: the per-condition runs that other chapters place in STATUS stand in
sections 4 to 7, 9, 10, 13 and 14, with those chapters' values, and are not shown again here. That is the model's choice (DEDUCED, log
entry 37). -/
def faultSection (s : State) : List Byte :=
  let f := s.faults
  let perSide (sd : Side) : List Byte :=
    [(s.runs sd).obscuredRaise, (s.runs sd).obscuredClear, f.flatZones.get sd].flatMap word2
  be64 f.current ++ be64 f.accrued ++ be16 f.masks ++ boolByte f.locked ++ perSide .left ++ perSide .right
    ++ vehicleBytes (s.link.angle.map fun x => s.age x.2) f.expiryAngle.isSome
    ++ vehicleBytes (s.link.lux.map fun x => s.age x.2) f.expiryLux.isSome

/-! ### Section 16 (R139) -/

/-- The lost counts of the OVERRUN entries held. -/
def Report.lostCount : Report → Nat
  | .overrun n => n
  | _ => 0

/-- Section 16 (R139). Record Layouts gives no byte for the level of ATTN: one byte, 1 asserted and 0 deasserted, is the model's choice
(DESIGN CHOICE, log entry 36). -/
def queueSection (s : State) : List Byte :=
  let q := s.queue
  word2 q.entries.length ++ boolByte (q.entries.any fun e => e.report.isOverrun)
    ++ word2 (q.entries.map fun e => e.report.lostCount).sum ++ long4 q.lost ++ boolByte q.attn
    ++ word2 s.faults.group.attentionThreshold

/-! ### Section 17 (R151) -/

def RestoreOutcome.place : RestoreOutcome → Nat
  | .none => 0
  | .applied => 1
  | .rejectedIdentity => 2
  | .discardedRetained => 3

def contextBytes (c : Context) : List Byte :=
  optBytes 8 be64 c.identityCopy ++ long4 c.framesAdapted ++ [c.committedNight.code]
    ++ optBytes 12 (fun i => be64 i.identity ++ long4 i.framesAdapted) c.pendingRestore
    ++ optBytes 5 (fun v => 1#8 :: be32 v.deadline) c.save ++ namedByte .lastOutcome c.lastOutcome.place
    ++ [c.saves, c.loadsAccepted, c.loadsRefused, c.restoresApplied, c.restoresRejected, c.retainedDiscards].flatMap long4

def contextSection (s : State) : List Byte :=
  contextBytes (s.context .left) ++ contextBytes (s.context .right) ++ [s.restartCause.code]

/-! ### Section 18 (R160) -/

def LinkCounters.list (c : LinkCounters) : List Nat :=
  [c.requestsTaken, c.crcFailures, c.framingErrors, c.requestsRefused, c.busyDrops, c.linkResets, c.emptyReads]

/-- Section 18 (R160). Record Layouts gives no byte for the level of RDY: one byte, 1 asserted and 0 deasserted, is the model's choice
(DESIGN CHOICE, log entry 36). -/
def linkSection (s : State) : List Byte :=
  let l := s.link
  l.counters.list.flatMap long4 ++ boolByte l.busy.isSome ++ boolByte l.busyDrop ++ boolByte l.partialReq.isSome
    ++ word2 (l.partialReq.map List.length |>.getD 0) ++ boolByte l.holder.isSome ++ boolByte s.rdy

/-! ### The payloads -/

/-- The STATUS payload (12.5), formed from the state as it stands. -/
def statusPayload (s : State) : List Byte :=
  statusPart 1 (powerSection s) ++ statusPart 2 (portSection s .left) ++ statusPart 3 (portSection s .right)
    ++ statusPart 4 (pipeSection s .left) ++ statusPart 5 (pipeSection s .right) ++ statusPart 6 (exposureSection s .left)
    ++ statusPart 7 (exposureSection s .right) ++ statusPart 8 (nightSection s) ++ statusPart 9 (glareSection s .left)
    ++ statusPart 10 (glareSection s .right) ++ statusPart 11 (compositorSection s .left) ++ statusPart 12 (compositorSection s .right)
    ++ statusPart 13 (displaySection s .left) ++ statusPart 14 (displaySection s .right) ++ statusPart 15 (faultSection s)
    ++ statusPart 16 (queueSection s) ++ statusPart 17 (contextSection s) ++ statusPart 18 (linkSection s)

/-- One side of the IDENT payload: presence, sensor identity and revision, monitor identity, each 0 where absent. -/
def identSide (s : State) (sd : Side) : List Byte :=
  let t := (s.port sd).trained
  let m := (s.display sd).identity
  byte1 ((if t.isSome then 1 else 0) + (if m.isSome then 2 else 0)) ++ ((t.map SensorId.bytes).getD (List.replicate 9 0#8))
    ++ ((m.map be32).getD (List.replicate 4 0#8))

/-- The 33 bytes of the IDENT payload (12.5): vendor 0x0A71, part 0x0042, revision 1. -/
def identPayload (s : State) : List Byte :=
  word2 0x0A71 ++ word2 0x0042 ++ byte1 1 ++ identSide s .left ++ identSide s .right

/-- The active copy of a group: a side group for LEFT or RIGHT, a common group for COMMON (R166); none where the scope is unsuited. -/
def groupBytes (s : State) (g : Group) (scope : Byte) : Option (List Byte) :=
  match g with
  | .exposure => (sideOf scope).map fun sd => (s.pipe sd).expAct.bytes
  | .glare => (sideOf scope).map fun sd => (s.glare sd).act.bytes
  | .tone => (sideOf scope).map fun sd => (s.pipe sd).toneAct.bytes
  | .view => (sideOf scope).map fun sd => (s.comp sd).act.bytes
  | .night => if scope = 2 then some s.night.nightAct.bytes else none
  | .backlight => if scope = 2 then some s.night.backAct.bytes else none
  | .fault => if scope = 2 then some s.faults.group.bytes else none

end Sys2Proof.Machine
end

