-- ==== Sys2Proof/Machine/Requests.lean ====
section
/-! DEFINITION. What each request kind does once it is taken (R164 step 5), from its tag and payload, and the length its kind takes (R170). -/

namespace Sys2Proof.Machine

open Sys2Proof

/-! ### Lengths (step 4 of R164, R170) -/

/-- A presence mask has no bit beyond the fields of the group. -/
def maskFits (g : Group) (mask : BitVec 32) : Bool := decide (mask.toNat < 2 ^ g.widths.length)

/-- The presence mask of a SET payload. -/
def setMask (payload : List Byte) : BitVec 32 := BitVec.ofNat 32 (beNat ((payload.drop 2).take 4))

def lengthResult (ok : Bool) : Option Result := if ok then none else some .badLength

/-- Step 4 for a SET: at least 6 bytes, then the group and the mask, then the length. -/
def setUnsuited (payload : List Byte) : Option Result :=
  if payload.length < 6 then some .badLength
  else
    match groupOf (payload.getD 0 0) with
    | none => some .badArgument
    | some g =>
      if maskFits g (setMask payload) then
        lengthResult (decide (payload.length = 6 + presentWidth g.widths 0 (setMask payload)))
      else some .badArgument

/-- Step 4 of R164: the refusal where the payload's length does not suit the kind; none where it does. -/
def unsuited (k : Kind) (payload : List Byte) : Option Result :=
  let n := payload.length
  match k with
  | .ident => lengthResult (n == 0)
  | .status => lengthResult (n == 0)
  | .lock => lengthResult (n == 0)
  | .get => lengthResult (n == 2)
  | .set => setUnsuited payload
  | .vehicle => lengthResult (n == 7)
  | .overlay => lengthResult (n == 11)
  | .faultctl => lengthResult (n == 12)
  | .collect => lengthResult (n == 1)
  | .ctxSave => lengthResult (n == 3)
  | .ctxLoad => lengthResult (n == 172)
  | .monitor => lengthResult (decide (2 ≤ n ∧ n ≤ 33))
  | .display => lengthResult (n == 2)
  | .power => lengthResult (n == 1)

/-! ### Requests that read (R166) -/

def takeIdent (tag : Byte) (s : State) : State := formReply Kind.ident.code tag .ok (identPayload s) s

def takeStatus (tag : Byte) (s : State) : State := formReply Kind.status.code tag .ok (statusPayload s) s

def takeGet (tag : Byte) (payload : List Byte) (s : State) : State :=
  let g := payload.getD 0 0
  let scope := payload.getD 1 0
  match (groupOf g).bind fun k => groupBytes s k scope with
  | some bytes => formReply Kind.get.code tag .ok (g :: scope :: bytes) s
  | none => refuse Kind.get.code tag .badArgument s

/-! ### SET (R167) -/

/-- The sides a scope names for a group: LEFT, RIGHT or BOTH for a side group, and no side for COMMON; none where it is unsuited. -/
def scopeSides (g : Group) (scope : Byte) : Option (List Side) :=
  if g.isSideGroup then
    if scope = 3 then some [.left, .right] else (sideOf scope).map fun sd => [sd]
  else if scope = 2 then some [] else none

/-- A write into a side group's pending copy. -/
def writeSide (g : Group) (f : Fields) (sd : Side) (s : State) : Written State :=
  match g with
  | .exposure =>
    let w := writeExposure f (s.pipe sd).expAct (s.pipe sd).expPend
    ⟨s.setPipe sd { s.pipe sd with expPend := w.value }, w.clamped, w.ignored⟩
  | .glare =>
    let w := writeGlare f (s.glare sd).pend
    ⟨s.setGlare sd { s.glare sd with pend := w.value }, w.clamped, w.ignored⟩
  | .tone =>
    let w := writeTone f (s.pipe sd).tonePend
    ⟨s.setPipe sd { s.pipe sd with tonePend := w.value }, w.clamped, w.ignored⟩
  | .view =>
    let w := writeView f (s.comp sd).pend
    ⟨s.setComp sd { s.comp sd with pend := w.value }, w.clamped, w.ignored⟩
  | .night => ⟨s, 0, 0⟩
  | .backlight => ⟨s, 0, 0⟩
  | .fault => ⟨s, 0, 0⟩

/-- An expiry moment recomputed under a new timeout (R121). -/
def recomputeMoment (timeoutMs : Nat) (now : Time) (arrival moment : Option Time) : Option Time :=
  match arrival, moment with
  | some a, some _ => if timeoutMs * 1000 < (now - a).toNat then none else some (expiryMoment timeoutMs a)
  | _, m => m

/-- The effect of an application of vehicle_input_timeout (R121, R122). -/
def applyTimeout (s : State) : State :=
  let ms := s.faults.group.vehicleTimeout
  judgeVehicle (s.setFaults
    { s.faults with
      expiryAngle := recomputeMoment ms s.timebase (s.link.angle.map Prod.snd) s.faults.expiryAngle
      expiryLux := recomputeMoment ms s.timebase (s.link.lux.map Prod.snd) s.faults.expiryLux })

/-- The effects of the FAULT fields written, in the order of R122. A field written with the value it has takes its effect as any other: that
this may move a display, or make a moment absent, against R122's 'finds nothing to change', is the model's choice (DEDUCED, log entry 41). -/
def applyFaultFields (f : Fields) (s : State) : State :=
  let s := if (f.raw 1).isSome then expireHold .right (expireHold .left s) else s
  let s := if (f.raw 3).isSome then applyTimeout s else s
  if (f.raw 4).isSome then s.judgeAttn else s

/-- A write into a common group: the pending copy of NIGHT or BACKLIGHT, or the active FAULT group with its effects. -/
def writeCommon (g : Group) (f : Fields) (s : State) : Written State :=
  match g with
  | .night =>
    let w := writeNight f s.night.nightAct s.night.nightPend
    ⟨s.setNight { s.night with nightPend := w.value }, w.clamped, w.ignored⟩
  | .backlight =>
    let w := writeBacklight f s.night.backPend
    ⟨s.setNight { s.night with backPend := w.value }, w.clamped, w.ignored⟩
  | .fault =>
    let w := writeFault f s.faults.group
    ⟨applyFaultFields f (s.setFaults { s.faults with group := w.value }), w.clamped, w.ignored⟩
  | .exposure => ⟨s, 0, 0⟩
  | .glare => ⟨s, 0, 0⟩
  | .tone => ⟨s, 0, 0⟩
  | .view => ⟨s, 0, 0⟩

/-- The writes of a SET, with each mask the union over the sides. -/
def writeScope (g : Group) (f : Fields) (sides : List Side) (s : State) : Written State :=
  match sides with
  | [] => writeCommon g f s
  | [sd] => writeSide g f sd s
  | sd :: sd' :: _ =>
    let w := writeSide g f sd s
    let w' := writeSide g f sd' w.value
    ⟨w'.value, w.clamped ||| w'.clamped, w.ignored ||| w'.ignored⟩

/-- OK_ADJUSTED where something was clamped, ignored or kept; OK otherwise. -/
def adjusted (b : Bool) : Result := if b then .okAdjusted else .ok

/-- The present fields of a SET payload of a group. -/
def setFields (g : Group) (payload : List Byte) : Fields := ⟨splitFields g.widths 0 (setMask payload) (payload.drop 6)⟩

/-- The SET of a group at an accepted scope, and its reply. -/
def carrySet (tag : Byte) (g : Group) (sides : List Side) (f : Fields) (s : State) : State :=
  let w := writeScope g f sides s
  formReply Kind.set.code tag (adjusted (w.clamped ≠ 0 || w.ignored ≠ 0)) (be32 w.clamped ++ be32 w.ignored) w.value

def takeSet (tag : Byte) (payload : List Byte) (s : State) : State :=
  match groupOf (payload.getD 0 0) with
  | none => refuse Kind.set.code tag .badArgument s
  | some g =>
    match scopeSides g (payload.getD 1 0) with
    | none => refuse Kind.set.code tag .badArgument s
    | some sides =>
      if g = .fault ∧ s.faults.locked then refuse Kind.set.code tag .refusedLocked s
      else carrySet tag g sides (setFields g payload) s

/-! ### VEHICLE (R168) -/

/-- The angle stored, with its arrival and its expiry moment. -/
def storeAngle (v : Int) (s : State) : State :=
  let s := s.setLink { s.link with angle := some (clampInt v (-900) 900, s.timebase) }
  s.setFaults { s.faults with expiryAngle := some (expiryMoment s.faults.group.vehicleTimeout s.timebase) }

/-- The lux value stored, with its arrival and its expiry moment. -/
def storeLux (v : Nat) (s : State) : State :=
  let s := s.setLink { s.link with lux := some (min v 65535, s.timebase) }
  s.setFaults { s.faults with expiryLux := some (expiryMoment s.faults.group.vehicleTimeout s.timebase) }

/-- The fields carried, stored and judged. -/
def storeVehicle (hasAngle hasLux : Bool) (angle : Int) (lux : Nat) (s : State) : State :=
  let s := if hasAngle then storeAngle angle s else s
  let s := if hasLux then storeLux lux s else s
  if hasAngle || hasLux then judgeVehicle s else s

def takeVehicle (tag : Byte) (payload : List Byte) (s : State) : State :=
  let presence := payload.getD 0 0
  if 3 < presence.toNat then refuse Kind.vehicle.code tag .badArgument s
  else
    let hasAngle := presence.getLsbD 0
    let hasLux := presence.getLsbD 1
    let angle := i16Of ((payload.drop 1).take 2)
    let lux := beNat ((payload.drop 3).take 4)
    let clampedAngle : Bool := hasAngle && outOfSigned (-900) 900 (some angle)
    let clampedLux : Bool := hasLux && decide (65535 < lux)
    formReply Kind.vehicle.code tag (adjusted (clampedAngle || clampedLux))
      (byte1 ((if clampedAngle then 1 else 0) + (if clampedLux then 2 else 0))) (storeVehicle hasAngle hasLux angle lux s)

/-! ### OVERLAY (R84) -/

/-- The item an OVERLAY payload gives. -/
def overlayOf (payload : List Byte) : Overlay where
  id := (payload.getD 1 0).toNat
  row := beNat ((payload.drop 3).take 2)
  x0 := beNat ((payload.drop 5).take 2)
  x1 := beNat ((payload.drop 7).take 2)
  thickness := (payload.getD 9 0).toNat
  palette := (payload.getD 10 0).toNat

/-- The values of an item are within what the request accepts. -/
def Overlay.ok (o : Overlay) : Bool :=
  o.row ≤ 2047 && o.x0 ≤ 2047 && o.x1 ≤ 2047 && o.x0 ≤ o.x1 && 1 ≤ o.thickness && o.thickness ≤ 8 && o.palette ≤ 3

/-- An item replaces the entry of its id in its place, or is appended. -/
def putOverlay (l : List Overlay) (o : Overlay) : List Overlay :=
  if l.any fun x => x.id == o.id then l.map fun x => if x.id = o.id then o else x else l ++ [o]

/-- The entry of an id removed. -/
def dropOverlay (l : List Overlay) (id : Nat) : List Overlay := l.filter fun x => x.id ≠ id

/-- An edit of a side's overlay list, replied OK. -/
def editOverlays (tag : Byte) (sd : Side) (l : List Overlay) (s : State) : State :=
  formReply Kind.overlay.code tag .ok [] (s.setComp sd { s.comp sd with overlays := l })

def takeOverlay (tag : Byte) (payload : List Byte) (s : State) : State :=
  let id := (payload.getD 1 0).toNat
  let operation := payload.getD 2 0
  match sideOf (payload.getD 0 0) with
  | none => refuse Kind.overlay.code tag .badArgument s
  | some sd =>
    if 7 < id then refuse Kind.overlay.code tag .badArgument s
    else if operation = 0 then
      if (overlayOf payload).ok then editOverlays tag sd (putOverlay (s.comp sd).overlays (overlayOf payload)) s
      else refuse Kind.overlay.code tag .badArgument s
    else if operation = 1 then editOverlays tag sd (dropOverlay (s.comp sd).overlays id) s
    else refuse Kind.overlay.code tag .badArgument s

/-! ### FAULTCTL and LOCK (R123 to R127) -/

/-- The masks after a FAULTCTL: each named class of 6 … 13 takes its value (R123). -/
def writtenMasks (masks presence values : ClassSet) : ClassSet :=
  let named := presence &&& ClassSet.maskable
  (masks &&& ~~~named) ||| (values &&& named)

/-- The posts of the classes that have just become unmasked: each current identity of such a class, class by class, LEFT, RIGHT, COMMON
(R124). -/
def postUnmasked (old : ClassSet) (s : State) : State :=
  FaultId.all.foldl (fun s f =>
    if ClassSet.has old f.cls && s.faults.unmasked f && FaultSet.has s.faults.current f then s.report (.faultRaised f true) else s) s

/-- The clear set applied: each accrued identity named and not current is removed (R125). -/
def acknowledge (clear : FaultSet) (s : State) : State :=
  s.setFaults { s.faults with accrued := s.faults.accrued &&& ~~~(clear &&& ~~~s.faults.current) }

/-- The identities a FAULTCTL keeps: named and current (R125). -/
def keptSet (clear : FaultSet) (s : State) : FaultSet := clear &&& s.faults.current

/-- A FAULTCTL that is carried out (R126): masks, posts, clear set. -/
def controlFaults (presence values : ClassSet) (clear : FaultSet) (s : State) : State :=
  let old := s.faults.masks
  let s := s.setFaults { s.faults with masks := writtenMasks old presence values }
  acknowledge clear (postUnmasked old s)

/-- R170's refusal of a FAULTCTL: a bit where the layout has no field, or a code that is no identity (log entry 29). -/
def faultctlBad (presence values : ClassSet) (clear : FaultSet) : Bool :=
  0x1FFF < presence.toNat || 0x1FFF < values.toNat || clear &&& ~~~FaultSet.every ≠ 0

def takeFaultctl (tag : Byte) (payload : List Byte) (s : State) : State :=
  let presence : ClassSet := BitVec.ofNat 16 (beNat (payload.take 2))
  let values : ClassSet := BitVec.ofNat 16 (beNat ((payload.drop 2).take 2))
  let clear : FaultSet := BitVec.ofNat 64 (beNat ((payload.drop 4).take 8))
  if faultctlBad presence values clear then refuse Kind.faultctl.code tag .badArgument s
  else if s.faults.locked ∧ writtenMasks s.faults.masks presence values ≠ s.faults.masks then
    refuse Kind.faultctl.code tag .refusedLocked s
  else
    let ignored := presence &&& ClassSet.unmaskable
    let kept := keptSet clear s
    let s := controlFaults presence values clear s
    formReply Kind.faultctl.code tag (adjusted (ignored ≠ 0 || kept ≠ 0)) (be16 s.faults.masks ++ be16 ignored ++ be64 kept) s

def takeLock (tag : Byte) (s : State) : State :=
  formReply Kind.lock.code tag .ok [] (s.setFaults { s.faults with locked := true })

/-! ### COLLECT (R135) -/

/-- Up to n of the oldest entries removed, and ATTN judged. -/
def collectEntries (n : Nat) (s : State) : State := (s.setQueue { s.queue with entries := s.queue.entries.drop n }).judgeAttn

def takeCollect (tag : Byte) (payload : List Byte) (s : State) : State :=
  let n := (payload.getD 0 0).toNat
  if n = 0 ∨ 16 < n then refuse Kind.collect.code tag .badArgument s
  else
    let taken := s.queue.entries.take n
    formReply Kind.collect.code tag .ok (byte1 taken.length ++ taken.flatMap Entry.bytes) (collectEntries n s)

/-! ### CTX_SAVE and CTX_LOAD (R144 to R148) -/

/-- A save in SETTLED mode: in flight, busy with its tag, the holder emptied (R145, R165). -/
def beginSave (tag : Byte) (sd : Side) (resetAfter : Bool) (s : State) : State :=
  let s := s.setContext sd { s.context sd with save := some ⟨resetAfter, s.later saveTimeout⟩ }
  s.setLink { s.link with busy := some tag, holder := none, reading := s.link.reading.map Reading.superseded }

def takeCtxSave (tag : Byte) (payload : List Byte) (s : State) : State :=
  let mode := payload.getD 1 0
  let resetAfter := payload.getD 2 0
  match sideOf (payload.getD 0 0) with
  | none => refuse Kind.ctxSave.code tag .badArgument s
  | some sd =>
    if 1 < mode.toNat ∨ 1 < resetAfter.toNat then refuse Kind.ctxSave.code tag .badArgument s
    else if (s.context sd).identityCopy = none then refuse Kind.ctxSave.code tag .refusedState s
    else if mode = 0 then completeSave sd tag false (decide (resetAfter = 1)) s
    else beginSave tag sd (decide (resetAfter = 1)) s

/-- A refused or rejected load, counted (R147, R151). -/
def countRefusedLoad (sd : Side) (s : State) : State :=
  s.setContext sd { s.context sd with loadsRefused := satInc (s.context sd).loadsRefused }

/-- A rejected image: CONTEXT_REJECTED raised before the reply (R147 steps 3 to 6). -/
def rejectImage (tag : Byte) (sd : Side) (why : Reason) (s : State) : State :=
  refuseWith Kind.ctxLoad.code tag .badArgument [why.code] (raiseEvent (.contextRejected sd) (countRefusedLoad sd s))

/-- An accepted image becomes the pending restore (R148). -/
def acceptImage (tag : Byte) (sd : Side) (i : Image) (s : State) : State :=
  let c := s.context sd
  formReply Kind.ctxLoad.code tag .ok [1]
    (s.setContext sd { c with pendingRestore := some i, loadsAccepted := satInc c.loadsAccepted })

/-- R147, in its order. A load that names no side is counted at neither side (log entry 21). -/
def takeCtxLoad (tag : Byte) (payload : List Byte) (s : State) : State :=
  match sideOf (payload.getD 0 0) with
  | none => refuseWith Kind.ctxLoad.code tag .badArgument [Reason.side.code] s
  | some sd =>
    if s.power.state = .running then refuse Kind.ctxLoad.code tag .refusedState (countRefusedLoad sd s)
    else
      match parseImage sd (payload.drop 1) with
      | .error why => rejectImage tag sd why s
      | .ok i => acceptImage tag sd i s

/-! ### MONITOR (R110) and DISPLAY (R97) -/

def takeMonitor (tag : Byte) (payload : List Byte) (s : State) : State :=
  match sideOf (payload.getD 0 0) with
  | none => refuse Kind.monitor.code tag .badArgument s
  | some sd =>
    let d := s.display sd
    if d.outQueue.length < 4 then
      formReply Kind.monitor.code tag .ok [] (s.setDisplay sd { d with outQueue := d.outQueue ++ [payload.drop 1] })
    else refuse Kind.monitor.code tag .refusedFull s

/-- The clears a port requests after a disable while STARTING or RUNNING (R97). DISPLAY_PATH is then not current, so its match run is 0
(R106). -/
def clearViewPath (sd : Side) (s : State) : State :=
  let s := clearFault (.displayPath sd) (clearFault (.displayLink sd) (clearFault (.viewStale sd) s))
  s.setRuns sd { s.runs sd with pathMatch := 0 }

/-- The display enable set to a value, with what follows where it changes (R97, R101). -/
def enableDisplay (sd : Side) (on : Bool) (s : State) : State :=
  if (s.display sd).enabled = on then s
  else
    let s := s.setDisplay sd { s.display sd with enabled := on }
    if s.awake then (if on then startWake sd s else clearViewPath sd (becomeUnwanted sd s)) else s

def takeDisplay (tag : Byte) (payload : List Byte) (s : State) : State :=
  let on := payload.getD 1 0
  match sideOf (payload.getD 0 0) with
  | none => refuse Kind.display.code tag .badArgument s
  | some sd =>
    if 1 < on.toNat then refuse Kind.display.code tag .badArgument s
    else formReply Kind.display.code tag .ok [] (enableDisplay sd (decide (on = 1)) s)

/-! ### POWER (R155, R157, R158) -/

/-- POWER PARK: `already` while PARKED. -/
def takePark (tag : Byte) (s : State) : State :=
  if s.awake then formReply Kind.power.code tag .ok [0] (park s) else formReply Kind.power.code tag .ok [1] s

/-- POWER WAKE: `already` while STARTING or RUNNING. -/
def takeWake (tag : Byte) (s : State) : State :=
  if s.awake then formReply Kind.power.code tag .ok [1] s else formReply Kind.power.code tag .ok [0] (enterStarting .request s)

def takePower (tag : Byte) (payload : List Byte) (s : State) : State :=
  let argument := payload.getD 0 0
  if argument = 0 then takePark tag s
  else if argument = 1 then takeWake tag s
  else if argument = 2 then beginPartReset false s
  else refuse Kind.power.code tag .badArgument s

/-- Step 5 of R164: a taken request carried out by its kind's own rule. -/
def carryOut (k : Kind) (tag : Byte) (payload : List Byte) (s : State) : State :=
  match k with
  | .ident => takeIdent tag s
  | .set => takeSet tag payload s
  | .get => takeGet tag payload s
  | .status => takeStatus tag s
  | .vehicle => takeVehicle tag payload s
  | .overlay => takeOverlay tag payload s
  | .faultctl => takeFaultctl tag payload s
  | .collect => takeCollect tag payload s
  | .ctxSave => takeCtxSave tag payload s
  | .ctxLoad => takeCtxLoad tag payload s
  | .monitor => takeMonitor tag payload s
  | .display => takeDisplay tag payload s
  | .power => takePower tag payload s
  | .lock => takeLock tag s

end Sys2Proof.Machine
end

