-- ==== Sys2Proof/Machine/HostLink.lean ====
section
/-! DEFINITION. The host link interface: bytes, windows, partial requests, the link reset, the judging of a request, read transactions, and the
commands READ_TRANSACTION, REPLY_READ, REQUEST_BYTE, CHIP_SELECT_RELEASE, PARTIAL_DEADLINE, LINK_RESET, OVERLONG_REQUEST and
UNKNOWN_KIND_REQUEST (R160 to R165). -/

namespace Sys2Proof.Machine

open Sys2Proof

/-! ### Counters -/

def State.setLinkCounters (s : State) (c : LinkCounters) : State := s.setLink { s.link with counters := c }

def countTaken (s : State) : State :=
  s.setLinkCounters { s.link.counters with requestsTaken := satInc s.link.counters.requestsTaken }

def countFraming (s : State) : State :=
  s.setLinkCounters { s.link.counters with framingErrors := satInc s.link.counters.framingErrors }

/-! ### Discards -/

/-- The partial request and its deadline become absent. -/
def dropPartial (s : State) : State := s.setLink { s.link with partialReq := none, partialDeadline := none }

/-- A partial request discarded by a mid-byte release or by its deadline (R162). -/
def discardPartial (s : State) : State := raiseEvent .hostLinkError (countFraming (dropPartial s))

/-- The link reset (R163). -/
def resetLink (s : State) : State :=
  s.setLink
    { s.link with
      partialReq := none
      partialDeadline := none
      ffRun := 0
      reading := none
      holder := none
      busyDrop := false
      counters := { s.link.counters with linkResets := satInc s.link.counters.linkResets } }

/-! ### Judging a complete request (R164) -/

/-- Step 1: a request that meets busy. -/
def dropBusy (s : State) : State :=
  s.setLink
    { s.link with
      busyDrop := true
      counters := { s.link.counters with busyDrops := satInc s.link.counters.busyDrops } }

/-- Step 2. HOST_LINK_ERROR is raised before the summary is formed (11.8, log entry 35). -/
def refuseCrc (s : State) : State :=
  let s := s.setLinkCounters { s.link.counters with crcFailures := satInc s.link.counters.crcFailures }
  formReply 0 0 .badCrc [] (raiseEvent .hostLinkError s)

/-- Steps 3 to 5. -/
def judgeKind (kind tag : Byte) (payload : List Byte) (s : State) : State :=
  match kindOf kind with
  | none => refuse kind tag .badKind s
  | some k =>
    match unsuited k payload with
    | some why => refuse kind tag why s
    | none => carryOut k tag payload (countTaken s)

/-- The five steps of R164, the first that applies deciding. -/
def judgeRequest (kind tag : Byte) (payload : List Byte) (crc : BitVec 16) (s : State) : State :=
  match s.link.busy with
  | some _ => dropBusy s
  | none => if requestCrc kind tag payload = crc then judgeKind kind tag payload s else refuseCrc s

/-- A length above 1,024 ends the partial request at once (R161). -/
def endOverlong (kind tag : Byte) (s : State) : State :=
  let s := dropPartial s
  match s.link.busy with
  | some _ => dropBusy s
  | none => formReply kind tag .badLength [] (raiseEvent .hostLinkError (countFraming s))

/-! ### Reads (R165) -/

/-- 0xC3 outside a request: the reply to be shifted out is fixed. -/
def beginRead (s : State) : State :=
  match s.link.holder with
  | some r => s.setLink { s.link with reading := some ⟨r.bytes, 0, true⟩ }
  | none =>
    s.setLink
      { s.link with
        reading := some ⟨(noReply s).bytes, 0, false⟩
        counters := { s.link.counters with emptyReads := satInc s.link.counters.emptyReads } }

/-- The last byte has been shifted out: the read ends, and a held reply is read. -/
def endRead (r : Reading) (s : State) : State :=
  s.setLink { s.link with reading := none, holder := if r.held then none else s.link.holder }

/-- One byte of the reply shifted out. -/
def shiftByte (r : Reading) (s : State) : State :=
  let s := s.emit (.hostBytes ((r.bytes.drop r.pos).take 1))
  if r.bytes.length ≤ r.pos + 1 then endRead r s
  else s.setLink { s.link with reading := some { r with pos := r.pos + 1 } }

/-- Every byte of the reply that is still to come, shifted out. -/
def shiftRest (r : Reading) (s : State) : State := endRead r (s.emit (.hostBytes (r.bytes.drop r.pos)))

/-! ### Bytes (R161, R163) -/

/-- One byte clocked in: nothing while a reset is held; during a shift-out it is not interpreted and the reply moves on one byte;
otherwise it counts in the 0xFF run, whose 64th byte is a link reset and nothing else (log entry 15), and `taken` is what the byte does. -/
def clocked (b : Byte) (taken : State → State) (s : State) : State :=
  match s.power.state, s.link.reading with
  | .off, _ => s
  | _, some r => shiftByte r s
  | _, none =>
    let run := if b = 0xFF then s.link.ffRun + 1 else 0
    if 64 ≤ run then resetLink s else taken (s.setLink { s.link with ffRun := run })

/-- The payload length held in a partial request of at least five bytes. -/
def heldLength (bytes : List Byte) : Nat := beNat ((bytes.drop 3).take 2)

/-- A complete frame judged: kind, tag, payload and CRC from its bytes. -/
def judgeFrameBytes (bytes : List Byte) (s : State) : State :=
  let n := heldLength bytes
  judgeRequest (bytes.getD 1 0) (bytes.getD 2 0) ((bytes.drop 5).take n) (BitVec.ofNat 16 (beNat ((bytes.drop (5 + n)).take 2)))
    (dropPartial s)

/-- A byte appended to the partial request held. -/
def appendByte (bytes : List Byte) (s : State) : State :=
  if bytes.length = 5 ∧ 1024 < heldLength bytes then endOverlong (bytes.getD 1 0) (bytes.getD 2 0) s
  else if 5 ≤ bytes.length ∧ bytes.length = heldLength bytes + 7 then judgeFrameBytes bytes s
  else s.setLink { s.link with partialReq := some bytes }

/-- A byte outside a request. -/
def outsideByte (b : Byte) (s : State) : State :=
  if b = 0xA5 then s.setLink { s.link with partialReq := some [b], partialDeadline := some (s.later partialTimeout) }
  else if b = 0xC3 then beginRead s
  else s

/-- What a byte does at the interface (R161). -/
def takeByte (b : Byte) (s : State) : State :=
  match s.link.partialReq with
  | none => outsideByte b s
  | some bytes => appendByte (bytes ++ [b]) s

/-- The low byte of a word of two. -/
def lowByte (w : BitVec 16) : Byte := w.setWidth 8

/-- The last byte of a request frame with this kind, tag, payload and CRC (log entry 17). -/
def completeRequest (kind : Byte) (head : ReqHead) (payload : List Byte) (s : State) : State :=
  clocked (lowByte head.crc) (fun s => judgeRequest kind head.tag payload head.crc (dropPartial s)) s

/-! ### The commands -/

/-- REQUEST_BYTE (R161). -/
def execRequestByte (byte : Byte) (s : State) : Host.Outcome State Fault Refusal := .next (clocked byte (takeByte byte) s)

/-- READ_TRANSACTION (R165): the byte 0xC3. -/
def execReadTransaction (s : State) : Host.Outcome State Fault Refusal := .next (clocked 0xC3 (takeByte 0xC3) s)

/-- REPLY_READ (R165): the shift-out under way runs to its last CRC byte (log entry 28). -/
def execReplyRead (s : State) : Host.Outcome State Fault Refusal :=
  match s.link.reading with
  | none => .next s
  | some r => .next (shiftRest r s)

/-- A release of chip select at a byte boundary: the 0xFF run and any read end (R163, R165). -/
def releaseSelect (s : State) : State := s.setLink { s.link with ffRun := 0, reading := none }

/-- CHIP_SELECT_RELEASE (R162). -/
def execChipSelectRelease (midByte : Bool) (s : State) : Host.Outcome State Fault Refusal :=
  match s.power.state with
  | .off => .next s
  | _ => if midByte && s.link.partialReq.isSome then .next (discardPartial (releaseSelect s)) else .next (releaseSelect s)

/-- PARTIAL_DEADLINE (R162). -/
def execPartialDeadline (s : State) : Host.Outcome State Fault Refusal :=
  match s.link.partialDeadline with
  | none => .next s
  | some t => .next (discardPartial (s.setTimebase t))

/-- LINK_RESET (R163): the 64th consecutive 0xFF byte (log entry 16). -/
def execLinkReset (s : State) : Host.Outcome State Fault Refusal :=
  match s.power.state with
  | .off => .next s
  | _ => .next (resetLink s)

/-- OVERLONG_REQUEST (R161): its low length byte. -/
def execOverlongRequest (kind tag : Byte) (length : BitVec 16) (s : State) : Host.Outcome State Fault Refusal :=
  if wellFormedOverlong length then .next (clocked (lowByte length) (endOverlong kind tag) s) else .fault .malformed

/-- UNKNOWN_KIND_REQUEST (R164 step 3). -/
def execUnknownKindRequest (head : ReqHead) (kind : Byte) (payload : List Byte) (s : State) : Host.Outcome State Fault Refusal :=
  if !knownKind kind && payloadFits payload.length then .next (completeRequest kind head payload s) else .fault .malformed

end Sys2Proof.Machine
end

