-- ==== Sys2Proof/Machine/RequestCommands.lean ====
section
/-! DEFINITION. One command for each request row: the arrival of the last byte of that request's frame, with the payload its layout gives
(12.2). -/

namespace Sys2Proof.Machine

open Sys2Proof

/-- IDENT (R166). -/
def execIdent (head : ReqHead) (s : State) : Host.Outcome State Fault Refusal :=
  .next (completeRequest Kind.ident.code head [] s)

/-- GET (R166). -/
def execGet (head : ReqHead) (group scope : Byte) (s : State) : Host.Outcome State Fault Refusal :=
  .next (completeRequest Kind.get.code head [group, scope] s)

/-- STATUS (R166). -/
def execStatus (head : ReqHead) (s : State) : Host.Outcome State Fault Refusal :=
  .next (completeRequest Kind.status.code head [] s)

/-- The payload of a SET. -/
def setPayload (group scope : Byte) (mask : BitVec 32) (values : List Byte) : List Byte := group :: scope :: be32 mask ++ values

/-- SET (R167). -/
def execSet (head : ReqHead) (group scope : Byte) (mask : BitVec 32) (values : List Byte) (s : State) :
    Host.Outcome State Fault Refusal :=
  if payloadFits (6 + values.length) then .next (completeRequest Kind.set.code head (setPayload group scope mask values) s)
  else .fault .malformed

/-- VEHICLE (R168). -/
def execVehicle (head : ReqHead) (presence : Byte) (angle : BitVec 16) (lux : BitVec 32) (s : State) :
    Host.Outcome State Fault Refusal :=
  .next (completeRequest Kind.vehicle.code head (presence :: be16 angle ++ be32 lux) s)

/-- The payload of an OVERLAY. -/
def overlayPayload (operation display id : Byte) (row x0 x1 : BitVec 16) (thickness palette : Byte) : List Byte :=
  [display, id, operation] ++ be16 row ++ be16 x0 ++ be16 x1 ++ [thickness, palette]

/-- OVERLAY_SET (R84): operation 0. -/
def execOverlaySet (head : ReqHead) (display id : Byte) (row x0 x1 : BitVec 16) (thickness palette : Byte) (s : State) :
    Host.Outcome State Fault Refusal :=
  .next (completeRequest Kind.overlay.code head (overlayPayload 0 display id row x0 x1 thickness palette) s)

/-- OVERLAY_DELETE (R84): operation 1. -/
def execOverlayDelete (head : ReqHead) (display id : Byte) (row x0 x1 : BitVec 16) (thickness palette : Byte) (s : State) :
    Host.Outcome State Fault Refusal :=
  .next (completeRequest Kind.overlay.code head (overlayPayload 1 display id row x0 x1 thickness palette) s)

/-- FAULTCTL (R126). -/
def execFaultctl (head : ReqHead) (presence values : BitVec 16) (clear : BitVec 64) (s : State) : Host.Outcome State Fault Refusal :=
  .next (completeRequest Kind.faultctl.code head (be16 presence ++ be16 values ++ be64 clear) s)

/-- LOCK (R127). -/
def execLock (head : ReqHead) (s : State) : Host.Outcome State Fault Refusal :=
  .next (completeRequest Kind.lock.code head [] s)

/-- COLLECT (R135). -/
def execCollect (head : ReqHead) (n : Byte) (s : State) : Host.Outcome State Fault Refusal :=
  .next (completeRequest Kind.collect.code head [n] s)

/-- CTX_SAVE_IMMEDIATE (R144): mode 0. -/
def execCtxSaveImmediate (head : ReqHead) (side resetAfter : Byte) (s : State) : Host.Outcome State Fault Refusal :=
  .next (completeRequest Kind.ctxSave.code head [side, 0, resetAfter] s)

/-- CTX_SAVE_SETTLED (R145): mode 1. -/
def execCtxSaveSettled (head : ReqHead) (side resetAfter : Byte) (s : State) : Host.Outcome State Fault Refusal :=
  .next (completeRequest Kind.ctxSave.code head [side, 1, resetAfter] s)

/-- CTX_LOAD (R147). -/
def execCtxLoad (head : ReqHead) (side : Byte) (image : List Byte) (s : State) : Host.Outcome State Fault Refusal :=
  if payloadFits (1 + image.length) then .next (completeRequest Kind.ctxLoad.code head (side :: image) s) else .fault .malformed

/-- MONITOR (R110). -/
def execMonitor (head : ReqHead) (display : Byte) (bytes : List Byte) (s : State) : Host.Outcome State Fault Refusal :=
  if payloadFits (1 + bytes.length) then .next (completeRequest Kind.monitor.code head (display :: bytes) s) else .fault .malformed

/-- DISPLAY_ENABLE (R97): argument on. -/
def execDisplayEnable (head : ReqHead) (display : Byte) (s : State) : Host.Outcome State Fault Refusal :=
  .next (completeRequest Kind.display.code head [display, 1] s)

/-- DISPLAY_DISABLE (R97): argument off. -/
def execDisplayDisable (head : ReqHead) (display : Byte) (s : State) : Host.Outcome State Fault Refusal :=
  .next (completeRequest Kind.display.code head [display, 0] s)

/-- POWER_PARK (R157): argument 0. -/
def execPowerPark (head : ReqHead) (s : State) : Host.Outcome State Fault Refusal :=
  .next (completeRequest Kind.power.code head [0] s)

/-- POWER_WAKE (R155): argument 1. -/
def execPowerWake (head : ReqHead) (s : State) : Host.Outcome State Fault Refusal :=
  .next (completeRequest Kind.power.code head [1] s)

/-- POWER_RESET (R158): argument 2. -/
def execPowerReset (head : ReqHead) (s : State) : Host.Outcome State Fault Refusal :=
  .next (completeRequest Kind.power.code head [2] s)

end Sys2Proof.Machine
end

