-- ==== Sys2Proof/Machine/Dispatch.lean ====
section
/-! DEFINITION. One arm for each command. -/

namespace Sys2Proof.Machine

open Sys2Proof

def exec (i : Instr) (s : State) : Host.Outcome State Fault Refusal :=
  match i with
  | .identityRecord sd identity revision => Sys2Proof.Machine.execIdentityRecord sd identity revision s
  | .trainingDeadline sd => Sys2Proof.Machine.execTrainingDeadline sd s
  | .retrainTime sd => Sys2Proof.Machine.execRetrainTime sd s
  | .lossDeadline sd => Sys2Proof.Machine.execLossDeadline sd s
  | .sensorHeader sd counter exposure ratio healthy => Sys2Proof.Machine.execSensorHeader sd counter exposure ratio healthy s
  | .sensorLine sd samples crc => Sys2Proof.Machine.execSensorLine sd samples crc s
  | .statisticsCompletion sd => Sys2Proof.Machine.execStatisticsCompletion sd s
  | .developmentCompletion sd => Sys2Proof.Machine.execDevelopmentCompletion sd s
  | .compositionCompletion sd => Sys2Proof.Machine.execCompositionCompletion sd s
  | .nightEvaluation => Sys2Proof.Machine.execNightEvaluation s
  | .wakeDeadline sd => Sys2Proof.Machine.execWakeDeadline sd s
  | .wakeRetryTime sd => Sys2Proof.Machine.execWakeRetryTime sd s
  | .ready sd identity => Sys2Proof.Machine.execReady sd identity s
  | .call sd => Sys2Proof.Machine.execCall sd s
  | .scanStart sd => Sys2Proof.Machine.execScanStart sd s
  | .holdExpiry sd => Sys2Proof.Machine.execHoldExpiry sd s
  | .echoSilence sd => Sys2Proof.Machine.execEchoSilence sd s
  | .echo sd signature => Sys2Proof.Machine.execEcho sd signature s
  | .monitorStatus sd fault temperature => Sys2Proof.Machine.execMonitorStatus sd fault temperature s
  | .monitorReply sd bytes => Sys2Proof.Machine.execMonitorReply sd bytes s
  | .vehicleExpiry field => Sys2Proof.Machine.execVehicleExpiry field s
  | .saveDeadline sd => Sys2Proof.Machine.execSaveDeadline sd s
  | .wakeLineEdge high => Sys2Proof.Machine.execWakeLineEdge high s
  | .supplyOn => Sys2Proof.Machine.execSupplyOn s
  | .supplyLoss => Sys2Proof.Machine.execSupplyLoss s
  | .nrstAsserted => Sys2Proof.Machine.execNrstAsserted s
  | .resetEnd autostart wakeHigh => Sys2Proof.Machine.execResetEnd autostart wakeHigh s
  | .partialDeadline => Sys2Proof.Machine.execPartialDeadline s
  | .chipSelectRelease midByte => Sys2Proof.Machine.execChipSelectRelease midByte s
  | .linkReset => Sys2Proof.Machine.execLinkReset s
  | .overlongRequest kind tag length => Sys2Proof.Machine.execOverlongRequest kind tag length s
  | .unknownKindRequest head kind payload => Sys2Proof.Machine.execUnknownKindRequest head kind payload s
  | .readTransaction => Sys2Proof.Machine.execReadTransaction s
  | .replyRead => Sys2Proof.Machine.execReplyRead s
  | .ident head => Sys2Proof.Machine.execIdent head s
  | .get head group scope => Sys2Proof.Machine.execGet head group scope s
  | .status head => Sys2Proof.Machine.execStatus head s
  | .set head group scope mask values => Sys2Proof.Machine.execSet head group scope mask values s
  | .vehicle head presence angle lux => Sys2Proof.Machine.execVehicle head presence angle lux s
  | .overlaySet head display id row x0 x1 thickness palette => Sys2Proof.Machine.execOverlaySet head display id row x0 x1 thickness palette s
  | .overlayDelete head display id row x0 x1 thickness palette => Sys2Proof.Machine.execOverlayDelete head display id row x0 x1 thickness palette s
  | .faultctl head presence values clear => Sys2Proof.Machine.execFaultctl head presence values clear s
  | .lock head => Sys2Proof.Machine.execLock head s
  | .collect head n => Sys2Proof.Machine.execCollect head n s
  | .ctxSaveImmediate head side resetAfter => Sys2Proof.Machine.execCtxSaveImmediate head side resetAfter s
  | .ctxSaveSettled head side resetAfter => Sys2Proof.Machine.execCtxSaveSettled head side resetAfter s
  | .ctxLoad head side image => Sys2Proof.Machine.execCtxLoad head side image s
  | .monitor head display bytes => Sys2Proof.Machine.execMonitor head display bytes s
  | .displayEnable head display => Sys2Proof.Machine.execDisplayEnable head display s
  | .displayDisable head display => Sys2Proof.Machine.execDisplayDisable head display s
  | .powerPark head => Sys2Proof.Machine.execPowerPark head s
  | .powerWake head => Sys2Proof.Machine.execPowerWake head s
  | .powerReset head => Sys2Proof.Machine.execPowerReset head s
  | .requestByte byte => Sys2Proof.Machine.execRequestByte byte s

end Sys2Proof.Machine
end

