-- ==== Sys2Proof/Machine/Step.lean ====
section
/-! DEFINITION. One step: the command at the front of the queue, or, where none is waiting, the part's own clock. -/

namespace Sys2Proof.Machine

open Sys2Proof

/-- A moment the part has set, with the command that its reaching is; none while it is absent. -/
def momentOf (t : Option Time) (c : Instr) : List (Time × Instr) :=
  match t with
  | some x => [(x, c)]
  | none => []

/-- The moments of one side that can be reached. -/
def sideMoments (s : State) (sd : Side) : List (Time × Instr) :=
  momentOf (s.port sd).trainingDue (.trainingDeadline sd) ++ momentOf (s.retrainDue sd) (.retrainTime sd)
    ++ momentOf (s.port sd).lossDue (.lossDeadline sd) ++ momentOf (s.display sd).wakeDue (.wakeDeadline sd)
    ++ momentOf (s.wakeRetryDue sd) (.wakeRetryTime sd) ++ momentOf (s.display sd).scanDue (.scanStart sd)
    ++ momentOf ((s.context sd).save.map Save.deadline) (.saveDeadline sd)

/-- Every moment that can be reached (R159). -/
def moments (s : State) : List (Time × Instr) :=
  sideMoments s .left ++ sideMoments s .right ++ momentOf s.evaluationDue .nightEvaluation
    ++ momentOf s.faults.expiryAngle (.vehicleExpiry .angle) ++ momentOf s.faults.expiryLux (.vehicleExpiry .lux)
    ++ momentOf s.link.partialDeadline .partialDeadline

/-- The events whose moment is the present timebase value. -/
def dueNow (s : State) : List Instr := ((moments s).filter fun m => m.1 == s.timebase).map Prod.snd

/-- The block with no command waiting (log entries 1, 2): nothing while a reset is held, since the timebase does not count; else one event
that is due, which of several being free; else one microsecond. -/
def idle (s : State) : Host.Outcome State Fault Refusal :=
  match s.power.state, dueNow s with
  | .off, _ => .next s
  | _, [] => .next (s.setTimebase (s.timebase + 1))
  | _, [c] => exec c s
  | _, c :: rest => exec ((c :: rest).getD (Config.takenFirst s.raceCount % (rest.length + 1)) c) { s with raceCount := s.raceCount + 1 }

/-- One step of the block. -/
def step (s : State) : Host.Outcome State Fault Refusal :=
  match s.pending with
  | c :: rest => exec c { s with pending := rest }
  | [] => idle s

/-- The command that a table word spells, put at the front of the queue. -/
def State.withFetchWord (s : State) (nbits w : Nat) : State :=
  match decodeTableWord nbits w with
  | some c => { s with pending := c :: s.pending }
  | none => s

end Sys2Proof.Machine
end

