-- ==== Sys2Proof/Safety.lean ====
section
/-! DEFINITION. The terms that statements use: what a step leaves unchanged, how a request is answered, and the laws of the manual as
properties of a state. -/

namespace Sys2Proof.Machine

open Sys2Proof

/-! ### Frames -/

/-- The pieces of the state that a frame names. -/
inductive Part where
  | timebase
  | power
  | restartCause
  | port (sd : Side)
  | pipe (sd : Side)
  | exposure (sd : Side)
  | glare (sd : Side)
  | night
  | comp (sd : Side)
  | store (sd : Side)
  | display (sd : Side)
  /-- The current and the accrued set. -/
  | faultSets
  | masks
  | lock
  | faultGroup
  /-- The vehicle expiry moments. -/
  | expiries
  | runs (sd : Side)
  | flatZones (sd : Side)
  | queue
  | context (sd : Side)
  /-- Partial request, its deadline, the 0xFF run and the read in progress. -/
  | receiver
  /-- Reply holder, busy and the busy-drop flag. -/
  | holder
  /-- The vehicle input record. -/
  | vehicle
  | linkCounters
  | sent
  | raceCount
  | pending
  deriving DecidableEq, Repr

/-- The piece is the same in both states. -/
def Part.same (s t : State) : Part → Prop
  | .timebase => t.timebase = s.timebase
  | .power => t.power = s.power
  | .restartCause => t.restartCause = s.restartCause
  | .port sd => t.port sd = s.port sd
  | .pipe sd => t.pipe sd = s.pipe sd
  | .exposure sd => t.exposure sd = s.exposure sd
  | .glare sd => t.glare sd = s.glare sd
  | .night => t.night = s.night
  | .comp sd => t.comp sd = s.comp sd
  | .store sd => t.store sd = s.store sd
  | .display sd => t.display sd = s.display sd
  | .faultSets => t.faults.current = s.faults.current ∧ t.faults.accrued = s.faults.accrued
  | .masks => t.faults.masks = s.faults.masks
  | .lock => t.faults.locked = s.faults.locked
  | .faultGroup => t.faults.group = s.faults.group
  | .expiries => t.faults.expiryAngle = s.faults.expiryAngle ∧ t.faults.expiryLux = s.faults.expiryLux
  | .runs sd => t.runs sd = s.runs sd
  | .flatZones sd => t.faults.flatZones.get sd = s.faults.flatZones.get sd
  | .queue => t.queue = s.queue
  | .context sd => t.context sd = s.context sd
  | .receiver =>
    t.link.partialReq = s.link.partialReq ∧ t.link.partialDeadline = s.link.partialDeadline ∧ t.link.ffRun = s.link.ffRun
      ∧ t.link.reading = s.link.reading
  | .holder => t.link.holder = s.link.holder ∧ t.link.busy = s.link.busy ∧ t.link.busyDrop = s.link.busyDrop
  | .vehicle => t.link.angle = s.link.angle ∧ t.link.lux = s.link.lux
  | .linkCounters => t.link.counters = s.link.counters
  | .sent => t.sent = s.sent
  | .raceCount => t.raceCount = s.raceCount
  | .pending => t.pending = s.pending

/-- Nothing changes from s to t but the pieces touched. -/
def Unchanged (touched : List Part) (s t : State) : Prop := ∀ p : Part, p ∉ touched → p.same s t

/-- The pieces that a report or a fault of one side can touch, beside the command's own. -/
def faultParts (sd : Side) : List Part := [.faultSets, .queue, .display sd, .comp sd, .pipe sd, .store sd]

/-- Nothing changes but these and what a report or a fault of the side can touch. -/
def FaultTouches (sd : Side) (touched : List Part) (s t : State) : Prop := Unchanged (touched ++ faultParts sd) s t

/-- What the reports or the faults of either side can touch. -/
def bothFaultParts : List Part := faultParts .left ++ faultParts .right

/-! ### Reports and faults -/

/-- The queue after these reports have been handed to it at one moment, one after another (R132, R133). -/
def queueAfter (s : State) (time : Time) (l : List Report) : ReportQueue :=
  l.foldl (fun q r => q.arrive s.faults.group.attentionThreshold ⟨r, time⟩) s.queue

/-- From s to t the identity has been raised: nothing where it was current, else both sets hold it (R114). -/
def Raised (f : FaultId) (s t : State) : Prop :=
  if FaultSet.has s.faults.current f then t.faults.current = s.faults.current ∧ t.faults.accrued = s.faults.accrued
  else t.faults.current = FaultSet.insert s.faults.current f ∧ t.faults.accrued = FaultSet.insert s.faults.accrued f

/-- From s to t the identity has been cleared: the current set is without it, the accrued set as it was (R115). -/
def Cleared (f : FaultId) (s t : State) : Prop :=
  t.faults.current = FaultSet.erase s.faults.current f ∧ t.faults.accrued = s.faults.accrued

/-- The FAULT_RAISED report of a fresh raise, where it is queued. -/
def raisedReport (f : FaultId) (s : State) : List Report :=
  if s.faults.unmasked f && !FaultSet.has s.faults.current f then [.faultRaised f false] else []

/-- The FAULT_CLEARED report of a clear, where it is queued. -/
def clearedReport (f : FaultId) (s : State) : List Report :=
  if s.faults.unmasked f && FaultSet.has s.faults.current f then [.faultCleared f] else []

/-! ### Sides -/

/-- The opposite side. -/
def Side.other : Side → Side
  | .left => .right
  | .right => .left

/-- The side whose camera, image, display or save an event belongs to; none for the commands that belong to no side. -/
def eventSide : Instr → Option Side
  | .identityRecord sd _ _ => some sd
  | .trainingDeadline sd => some sd
  | .retrainTime sd => some sd
  | .lossDeadline sd => some sd
  | .sensorHeader sd _ _ _ _ => some sd
  | .sensorLine sd _ _ => some sd
  | .statisticsCompletion sd => some sd
  | .developmentCompletion sd => some sd
  | .compositionCompletion sd => some sd
  | .wakeDeadline sd => some sd
  | .wakeRetryTime sd => some sd
  | .ready sd _ => some sd
  | .call sd => some sd
  | .scanStart sd => some sd
  | .holdExpiry sd => some sd
  | .echoSilence sd => some sd
  | .echo sd _ => some sd
  | .monitorStatus sd _ _ => some sd
  | .monitorReply sd _ => some sd
  | .saveDeadline sd => some sd
  | _ => none

/-- The pieces that exist once per side. -/
def sideParts (sd : Side) : List Part :=
  [.port sd, .pipe sd, .exposure sd, .glare sd, .comp sd, .store sd, .display sd, .runs sd, .flatZones sd, .context sd]

/-- The power state after a port of the side has come to STREAMING or LOST: RUNNING where it was STARTING and the other port is in
STREAMING or LOST too (R156). -/
def powerAfterPort (sd : Side) (s : State) : Power :=
  { s.power with
    state :=
      if s.power.state = .starting ∧ ((s.port (Side.other sd)).link = .streaming ∨ (s.port (Side.other sd)).link = .lost) then .running
      else s.power.state }

/-- The command is an event whose moment the timebase has reached (R4, R5, R6, R99, R105, R145, R49, R121, R162, R159). -/
def MomentReached (s : State) (c : Instr) : Prop :=
  let reached (t : Option Time) : Prop := t = some s.timebase
  match c with
  | .trainingDeadline sd => (s.port sd).link = .training ∧ reached (s.port sd).trainingDeadline
  | .retrainTime sd =>
    (s.port sd).link = .lost ∧ (s.power.state = .starting ∨ s.power.state = .running) ∧ reached (s.port sd).retrainTime
  | .lossDeadline sd => (s.port sd).link = .streaming ∧ reached (s.port sd).lossDeadline
  | .wakeDeadline sd => (s.display sd).link = .waking ∧ reached (s.display sd).wakeDeadline
  | .wakeRetryTime sd =>
    (s.display sd).link = .hibernate ∧ (s.display sd).enabled = true ∧ (s.power.state = .starting ∨ s.power.state = .running)
      ∧ reached (s.display sd).wakeRetry
  | .scanStart sd => (s.display sd).link = .synced ∧ reached (s.display sd).nextScan
  | .saveDeadline sd => ∃ v, (s.context sd).save = some v ∧ v.deadline = s.timebase
  | .nightEvaluation => (s.power.state = .starting ∨ s.power.state = .running) ∧ reached s.night.nextEval
  | .vehicleExpiry .angle => reached s.faults.expiryAngle
  | .vehicleExpiry .lux => reached s.faults.expiryLux
  | .partialDeadline => reached s.link.partialDeadline
  | _ => False

/-! ### The faults of an event -/

/-- From s to t no identity but these enters or leaves the current set, and the accrued set gains exactly what enters it (R114, R115). -/
def FaultsMove (l : List FaultId) (s t : State) : Prop :=
  (∀ f : FaultId, f ∉ l → FaultSet.has t.faults.current f = FaultSet.has s.faults.current f)
    ∧ ∀ f : FaultId, FaultSet.has t.faults.accrued f =
        (FaultSet.has s.faults.accrued f || (FaultSet.has t.faults.current f && !FaultSet.has s.faults.current f))

/-- The report of an identity that enters or leaves the current set from s to t, where its class is unmasked. -/
def movedReport (f : FaultId) (s t : State) : List Report :=
  if FaultSet.has t.faults.current f then raisedReport f s else clearedReport f s

/-- The report of the display move that a raise of a view-loss identity brings: a LIVE display goes to HOLD, or to BLANKED under a
hold_limit of 0 (R103, R117). -/
def lossMove (f : FaultId) (sd : Side) (s : State) : List Report :=
  if FaultSet.has s.faults.current f = true ∨ (s.display sd).state ≠ .live then []
  else [.displayChanged sd .live (if 0 < s.faults.group.holdLimit then .hold else .blanked)]

/-- The display port after a raise of a view-loss identity (R103). -/
def displayAfterLoss (f : FaultId) (sd : Side) (s : State) : Display :=
  if FaultSet.has s.faults.current f = true ∨ (s.display sd).state ≠ .live then s.display sd
  else if 0 < s.faults.group.holdLimit then { s.display sd with state := .hold, holdCount := 0 }
  else { s.display sd with state := .blanked }

/-- The report of the move to RUNNING that a port of the side brings as it comes to STREAMING or LOST (R156). -/
def runningReport (sd : Side) (s : State) : List Report :=
  if (powerAfterPort sd s).state = s.power.state then [] else [.powerChanged .starting .running]

/-- The reports of the judgement of a pending restore at a training completion (R149, R150). -/
def restoreReports (sd : Side) (identity : BitVec 64) (s : State) : List Report :=
  match (s.context sd).pendingRestore with
  | none => []
  | some i =>
    if i.identity = identity then [.contextApplied sd]
    else (if s.faults.unmasked (.contextRejected sd) then [.faultRaised (.contextRejected sd) false] else []) ++ [.contextRejected sd]

/-- One judgement of a condition that raises an identity after `raiseAt` bad events in a row and clears it after `clearAt` good ones: the
runs before and after it, and the identity in t (R44, R45, R73, R74, R119, R120). -/
def RunsJudged (f : FaultId) (bad good : Prop) (raiseAt clearAt up down up' down' : Nat) (s t : State) : Prop :=
  if FaultSet.has s.faults.current f = true then
    up' = 0
      ∧ (¬good → down' = 0 ∧ FaultSet.has t.faults.current f = true)
      ∧ (good → down + 1 < clearAt → down' = down + 1 ∧ FaultSet.has t.faults.current f = true)
      ∧ (good → clearAt ≤ down + 1 → down' = 0 ∧ FaultSet.has t.faults.current f = false)
  else
    down' = 0
      ∧ (¬bad → up' = 0 ∧ FaultSet.has t.faults.current f = false)
      ∧ (bad → up + 1 < raiseAt → up' = up + 1 ∧ FaultSet.has t.faults.current f = false)
      ∧ (bad → raiseAt ≤ up + 1 → up' = 0 ∧ FaultSet.has t.faults.current f = true)

/-- FROZEN at a commit with this content signature (R34, R35). -/
def FrozenJudged (sd : Side) (signature : BitVec 32) (s t : State) : Prop :=
  let r := s.runs sd
  let r' := t.runs sd
  let now := FaultSet.has t.faults.current (.frozen sd)
  r'.frozenPrevious = some signature
    ∧ r'.frozenSame = (if r.frozenPrevious = some signature then min (r.frozenSame + 1) 65535 else 1)
    ∧ (FaultSet.has s.faults.current (.frozen sd) = false →
        r'.frozenChange = 0 ∧ (now = true ↔ s.faults.group.frozenLimit ≤ r'.frozenSame))
    ∧ (FaultSet.has s.faults.current (.frozen sd) = true →
        ((r.frozenPrevious = none ∨ r.frozenPrevious = some signature) → r'.frozenChange = 0 ∧ now = true)
          ∧ ∀ p, r.frozenPrevious = some p → p ≠ signature →
            (r.frozenChange + 1 < 3 → r'.frozenChange = r.frozenChange + 1 ∧ now = true)
              ∧ (3 ≤ r.frozenChange + 1 → r'.frozenChange = 0 ∧ now = false))

/-- The fault counts of a commit, as they leave t: the runs and the identities FROZEN, OBSCURED, EXPOSURE_LIMIT and GLARE_SATURATED, each by
its own rule, and the reports in their order (R34, R35, R44, R45, R73, R74, R117 to R120). -/
def CommitCounts (sd : Side) (settled : Bool) (signature : BitVec 32) (s t : State) : Prop :=
  let r := s.runs sd
  let r' := t.runs sd
  let g := (s.pipe sd).expAct
  let x := t.exposure sd
  let flat := t.faults.flatZones.get sd
  let pinned : Prop := (x.e = g.eMax ∧ ∃ e, x.lastError = some e ∧ 16 < e) ∨ (x.e = g.eMin ∧ ∃ e, x.lastError = some e ∧ e < -16)
  let frozen := FaultSet.has t.faults.current (.frozen sd)
  FrozenJudged sd signature s t
    ∧ RunsJudged (.obscured sd) (96 ≤ flat) (flat < 64) 150 30 r.obscuredRaise r.obscuredClear r'.obscuredRaise r'.obscuredClear s t
    ∧ (settled = true →
        RunsJudged (.exposureLimit sd) pinned (¬pinned) 60 60 r.limitRun r.limitClear r'.limitRun r'.limitClear s t)
    ∧ (settled = false → r'.limitRun = r.limitRun ∧ r'.limitClear = r.limitClear
        ∧ FaultSet.has t.faults.current (.exposureLimit sd) = FaultSet.has s.faults.current (.exposureLimit sd))
    ∧ RunsJudged (.glareSaturated sd) (8 ≤ (t.glare sd).lastAtMax) ((t.glare sd).lastAtMax < 8) 30 30 r.saturation r.satRelease
        r'.saturation r'.satRelease s t
    ∧ r'.recovery = r.recovery ∧ r'.pathMatch = r.pathMatch ∧ r'.staleClear = r.staleClear
    ∧ FaultsMove [.frozen sd, .obscured sd, .exposureLimit sd, .glareSaturated sd] s t
    ∧ t.display sd = (if frozen then displayAfterLoss (.frozen sd) sd s else s.display sd)
    ∧ t.queue = queueAfter s s.timebase
        (movedReport (.frozen sd) s t ++ (if frozen then lossMove (.frozen sd) sd s else []) ++ movedReport (.obscured sd) s t
          ++ (if settled then movedReport (.exposureLimit sd) s t else []) ++ movedReport (.glareSaturated sd) s t)

/-! ### Requests -/

/-- The kind, head and payload of a request command (12.1, 12.2); none for every other command. -/
def requestOf : Instr → Option (Byte × ReqHead × List Byte)
  | .unknownKindRequest head kind payload => some (kind, head, payload)
  | .ident head => some (Kind.ident.code, head, [])
  | .get head group scope => some (Kind.get.code, head, [group, scope])
  | .status head => some (Kind.status.code, head, [])
  | .set head group scope mask values => some (Kind.set.code, head, setPayload group scope mask values)
  | .vehicle head presence angle lux => some (Kind.vehicle.code, head, presence :: be16 angle ++ be32 lux)
  | .overlaySet head display id row x0 x1 thickness palette =>
    some (Kind.overlay.code, head, overlayPayload 0 display id row x0 x1 thickness palette)
  | .overlayDelete head display id row x0 x1 thickness palette =>
    some (Kind.overlay.code, head, overlayPayload 1 display id row x0 x1 thickness palette)
  | .faultctl head presence values clear => some (Kind.faultctl.code, head, be16 presence ++ be16 values ++ be64 clear)
  | .lock head => some (Kind.lock.code, head, [])
  | .collect head n => some (Kind.collect.code, head, [n])
  | .ctxSaveImmediate head side resetAfter => some (Kind.ctxSave.code, head, [side, 0, resetAfter])
  | .ctxSaveSettled head side resetAfter => some (Kind.ctxSave.code, head, [side, 1, resetAfter])
  | .ctxLoad head side image => some (Kind.ctxLoad.code, head, side :: image)
  | .monitor head display bytes => some (Kind.monitor.code, head, display :: bytes)
  | .displayEnable head display => some (Kind.display.code, head, [display, 1])
  | .displayDisable head display => some (Kind.display.code, head, [display, 0])
  | .powerPark head => some (Kind.power.code, head, [0])
  | .powerWake head => some (Kind.power.code, head, [1])
  | .powerReset head => some (Kind.power.code, head, [2])
  | _ => none

/-- The interface takes the byte at all: no reset is held, no reply is being shifted out, and the byte does not bring the 0xFF run to 64
(R158, R163, R165). -/
def Receives (b : Byte) (s : State) : Prop :=
  s.power.state ≠ .off ∧ s.link.reading = none ∧ ¬(b = 0xFF ∧ 63 ≤ s.link.ffRun)

/-- The 0xFF run after a byte (R163). -/
def runAfter (b : Byte) (s : State) : Nat := if b = 0xFF then s.link.ffRun + 1 else 0

/-- A request with this kind, head and payload reaches step 3 of R164: received, not busy, its CRC good. -/
def Reaches (kind : Byte) (head : ReqHead) (payload : List Byte) (s : State) : Prop :=
  Receives (lowByte head.crc) s ∧ s.link.busy = none ∧ head.crc = requestCrc kind head.tag payload

/-- The fault summary that a reply to a request carries (R128): the sets and the queue as the request leaves them, and the busy-drop flag
as it stood. -/
def summaryAfter (s t : State) : List Byte :=
  [BitVec.ofNat 8 (FaultSet.top t.faults.current), BitVec.ofNat 8 t.queue.entries.length,
    BitVec.ofNat 8 ((if t.faults.accrued = 0 then 0 else 1) + (if s.link.busyDrop then 2 else 0) + (if t.faults.locked then 4 else 0))]

/-- The payload length that a kind takes (12.2), of a kind whose length is fixed. -/
def fixedLength (kind : Byte) : Option Nat :=
  match kind.toNat with
  | 1 => some 0
  | 3 => some 2
  | 4 => some 0
  | 5 => some 7
  | 6 => some 11
  | 7 => some 12
  | 8 => some 1
  | 9 => some 3
  | 10 => some 172
  | 12 => some 2
  | 13 => some 1
  | 14 => some 0
  | _ => none

/-- A payload length unsuited to its kind whatever the payload's bytes: another than the fixed one, a SET below 6, a MONITOR outside
2 … 33 (R170, 12.2). -/
def LengthUnsuited (kind : Byte) (n : Nat) : Prop :=
  (∃ l, fixedLength kind = some l ∧ n ≠ l) ∨ (kind = 2 ∧ n < 6) ∨ (kind = 11 ∧ (n < 2 ∨ 33 < n))

/-- An argument code that no row of the table spells, in a payload of the right length (11.7, 12.2): a POWER argument above 2, an OVERLAY
operation above 1, a CTX_SAVE mode above 1, a DISPLAY argument above 1. -/
def ArgumentUnknown (kind : Byte) (payload : List Byte) : Prop :=
  fixedLength kind = some payload.length
    ∧ ((kind = 13 ∧ 2 < (payload.getD 0 0).toNat) ∨ (kind = 6 ∧ 1 < (payload.getD 2 0).toNat)
      ∨ (kind = 9 ∧ 1 < (payload.getD 1 0).toNat) ∨ (kind = 12 ∧ 1 < (payload.getD 1 0).toNat))

/-- How the counters stand after a request that was taken or not, and refused or not (R164). -/
def countersAfter (taken refused : Bool) (c : LinkCounters) : LinkCounters :=
  { c with
    requestsTaken := if taken then satInc c.requestsTaken else c.requestsTaken
    requestsRefused := if refused then satInc c.requestsRefused else c.requestsRefused }

/-- From s to t a request has been answered: the reply stands in the holder, the partial request is gone, the busy-drop flag is clear, and
the link is otherwise as it was but for the vehicle record. -/
def Answered (taken refused : Bool) (kind : Byte) (head : ReqHead) (result : Byte) (payload : List Byte) (s t : State) : Prop :=
  t.link =
    { s.link with
      partialReq := none
      partialDeadline := none
      ffRun := runAfter (lowByte head.crc) s
      holder := some ⟨kind, head.tag, result, summaryAfter s t, payload⟩
      busyDrop := false
      angle := t.link.angle
      lux := t.link.lux
      counters := countersAfter taken refused s.link.counters }

/-- The pieces that answering a request touches. -/
def answerParts : List Part := [.receiver, .holder, .linkCounters]

/-- Nothing changes but what answering a request touches, and these. -/
def AnswerTouches (touched : List Part) (s t : State) : Prop := Unchanged (answerParts ++ touched) s t

/-- A request carried out with this result code and reply payload. -/
def Replied (k : Kind) (head : ReqHead) (result : Byte) (payload : List Byte) (s t : State) : Prop :=
  Answered true false k.code head result payload s t

/-- A taken request refused by its own rule: nothing changes but the link. -/
def Refused (k : Kind) (head : ReqHead) (result : Byte) (payload : List Byte) (s t : State) : Prop :=
  Answered true true k.code head result payload s t ∧ Unchanged answerParts s t

/-! ### What some commands leave -/

/-- A frame in progress with one more line, checked against the CRC it carries (R9). -/
def withLine (f : FrameInProgress) (samples : Array Sample) (crc : BitVec 16) : FrameInProgress :=
  { f with lines := f.lines.push ⟨samples, decide (lineCrc samples = crc)⟩ }

/-- The port counters after a line (R9, R16). -/
def lineCounted (c : PortCounters) (samples : Array Sample) (crc : BitVec 16) : PortCounters :=
  if lineCrc samples = crc then c else { c with crcFailures := satInc c.crcFailures }

/-- The first of R11's checks that a complete frame fails, as the counter of its cause grown by one; none for a valid frame. -/
def discardCounted (c : PortCounters) (last : Option (BitVec 16)) (f : FrameInProgress) : Option PortCounters :=
  if f.header.healthy = false ∨ f.header.ratio.toNat < 4 ∨ 8 < f.header.ratio.toNat then
    some { c with discardHeader := satInc c.discardHeader }
  else if 16 < (f.lines.toList.filter fun l => !l.good).length then some { c with discardLines := satInc c.discardLines }
  else if last = some f.header.counter then some { c with discardRepeat := satInc c.discardRepeat }
  else none

/-- A valid frame as it is handed to the pipeline: its values, and the long and the short sequence of its lines, each repaired
(R10, R11). -/
def handedFrame (f : FrameInProgress) (settled : Bool) : Frame where
  number := f.header.counter
  capture := f.capture
  exposure := f.header.exposure
  ratio := f.header.ratio
  settled := settled
  repaired := (f.lines.toList.filter fun l => !l.good).length
  long := (repair ((List.range 1080).map fun i => f.lines.getD (2 * i) ⟨#[], false⟩)).toArray
  short := (repair ((List.range 1080).map fun i => f.lines.getD (2 * i + 1) ⟨#[], false⟩)).toArray

/-- The port after a valid frame of the counters `counted`: its record (R11, R6, R16, R17) and its judgement, with the re-send at a run
of 8 (R13, R14). -/
def portAfterFrame (p : Port) (f : FrameInProgress) (counted : PortCounters) (settled : Bool) (now : Time) : Port :=
  let bad := (f.lines.toList.filter fun l => !l.good).length
  let taken : Port :=
    { p with
      inProgress := none
      lastCounter := some f.header.counter
      lossDeadline := some (now + 50000)
      lastCapture := some f.capture
      counters := { counted with framesValid := satInc counted.framesValid, linesRepaired := satAdd counted.linesRepaired bad } }
  if settled then { taken with outstanding := false, resendDone := false, unsettledRun := 0 }
  else if p.unsettledRun = 7 ∧ p.resendDone = false ∧ p.lastExpose ≠ none then
    { taken with
      unsettledRun := 8
      outstanding := true
      resendDone := true
      counters := { taken.counters with resends := satInc counted.resends } }
  else { taken with unsettledRun := min (p.unsettledRun + 1) 65535 }

/-- The EXPOSE that an unsettled frame has sent again (R14). -/
def resent (sd : Side) (p : Port) (settled : Bool) : List Sent :=
  match p.lastExpose with
  | some x => if settled = false ∧ p.unsettledRun = 7 ∧ p.resendDone = false then [.expose sd x.e x.ratio] else []
  | none => []

/-- The supervisor's part of a valid frame: SENSOR_LOST's recovery run, its clear at 3, SENSOR_CONTROL by the judgement, and their reports
(R13 to R15). -/
def FrameCounts (sd : Side) (settled : Bool) (s t : State) : Prop :=
  let run := min ((s.port sd).unsettledRun + 1) 65535
  let lost := FaultSet.has s.faults.current (.sensorLost sd)
  let control := FaultSet.has s.faults.current (.sensorControl sd)
  (lost = false → t.runs sd = { s.runs sd with recovery := 0 } ∧ FaultSet.has t.faults.current (.sensorLost sd) = false)
    ∧ (lost = true → (s.runs sd).recovery < 2 →
        t.runs sd = { s.runs sd with recovery := (s.runs sd).recovery + 1 } ∧ FaultSet.has t.faults.current (.sensorLost sd) = true)
    ∧ (lost = true → 2 ≤ (s.runs sd).recovery →
        t.runs sd = { s.runs sd with recovery := 0 } ∧ FaultSet.has t.faults.current (.sensorLost sd) = false)
    ∧ (settled = true → FaultSet.has t.faults.current (.sensorControl sd) = false)
    ∧ (settled = false → FaultSet.has t.faults.current (.sensorControl sd) = (control || decide (run = 16)))
    ∧ FaultsMove [.sensorLost sd, .sensorControl sd] s t
    ∧ t.queue = queueAfter s s.timebase (movedReport (.sensorLost sd) s t ++ movedReport (.sensorControl sd) s t)

/-- From s to t the side's pipeline has started a frame, `d` being its development: the pending EXPOSURE, TONE and GLARE copies applied, the
grid within A_max, E within the limits just applied, what is latched, and a changed E delivered to a port that stands at `port` with the
messages `sent` before it (R20, R39, R60, R68, R12). -/
def FrameStarts (sd : Side) (f : Frame) (port : Port) (sent : List Sent) (s t : State) (d : InDevelopment) : Prop :=
  let p := s.pipe sd
  let x := s.exposure sd
  let g := s.glare sd
  let act := p.expPend.apply p.expAct
  let tone := p.tonePend.apply p.toneAct
  let glare := g.pend.apply g.act
  let grid := g.grid.map (min · glare.aMax)
  let e := max act.eMin (min x.e act.eMax)
  let night := decide (s.night.state = .night)
  d.source = ⟨f, ⟨act.blackLevel, x.gainR, x.gainB, glare.brightThreshold, glare.knee, grid, g.tags, night,
      if night then tone.night else tone.day⟩⟩
    ∧ d.statsDone = false
    ∧ (t.pipe sd).buf d.buffer = .writing
    ∧ (t.pipe sd).expAct = act ∧ (t.pipe sd).expPend = .empty ∧ (t.pipe sd).toneAct = tone ∧ (t.pipe sd).tonePend = .empty
    ∧ t.glare sd = { g with act := glare, pend := .empty, grid := grid }
    ∧ t.exposure sd = { x with e := e }
    ∧ (if e = x.e ∨ port.link ≠ .streaming then t.sent = sent ∧ t.port sd = port
      else t.sent = sent ++ [.expose sd e act.ratioCode]
        ∧ t.port sd =
          { port with lastExpose := some ⟨e, act.ratioCode⟩, outstanding := true, resendDone := false, unsettledRun := 0 })

/-- From s to t the side's compositor has started a frame from this source: the pending VIEW copy applied, one pan step (both
PanMovesWithinTheRoom), its kind by the display state, and what it latches (R79, R80, R83). -/
def CompositionStarts (sd : Side) (source : Option (BufName × Developed)) (s t : State) : Prop :=
  let c := (s.comp sd).startFrame sd s.freshAngle
  let kind : Content := if (s.display sd).state = .blanked then .faultPattern else .normal
  let x := c.act.mainWindow.x
  t.comp sd =
    { c with
      inFlight := some ⟨kind, source, ⟨c.act.mainWindow, if c.act.plusX then x + c.panOffset else x - c.panOffset, c.act.wideWindow,
        c.act.mirror, c.act.palette, c.overlays⟩⟩
      blankRequest := if kind = .faultPattern then false else c.blankRequest }

/-- The law of the glare unit (R68), with the range of A_max (R60). -/
def GlareLaw (s : State) : Prop :=
  ∀ sd : Side,
    let g := s.glare sd
    (∀ x ∈ g.grid, x ≤ g.act.aMax) ∧ g.act.aMax ≤ 96 ∧ ∀ a, g.pend.aMax = some a → a ≤ 96

def Slot.isFilling : Slot → Bool
  | .filling => true
  | _ => false

def Slot.isReady : Slot → Bool
  | .ready _ => true
  | _ => false

def Slot.isShown : Slot → Bool
  | .shown _ => true
  | _ => false

def FrameStore.slots (x : FrameStore) : List Slot := [x.slot0, x.slot1, x.slot2]

/-- The slots with the FREE one of the lowest number FILLING (R88). -/
def claimFree : List Slot → List Slot
  | [] => []
  | .free :: rest => .filling :: rest
  | x :: rest => x :: claimFree rest

/-- The display's move to BLANKED, at a state u of the compositor, the pipeline and the store of its side: an IDLE compositor with a FREE
slot takes its frame start at once, of the waiting frame or of none (R79, R80, R88; within the event by log entry 11), and for a COMPOSING
one the blank request is set. R88's law gives an IDLE compositor a FREE slot. `stays` is off where the display leaves BLANKED again within
the event, which clears the request. -/
def BlankStarts (sd : Side) (stays : Bool) (u t : State) : Prop :=
  let c := u.comp sd
  let p := u.pipe sd
  let x := u.store sd
  (c.inFlight = none → Slot.free ∈ x.slots →
      CompositionStarts sd p.waiting (u.setDisplay sd { u.display sd with state := .blanked }) t
        ∧ (t.store sd).slots = claimFree x.slots
        ∧ t.store sd = { x with slot0 := (t.store sd).slot0, slot1 := (t.store sd).slot1, slot2 := (t.store sd).slot2 }
        ∧ (p.waiting = none → t.pipe sd = p)
        ∧ (∀ n d, p.waiting = some (n, d) →
            t.pipe sd = { p with bufA := if n = .a then .reading d else p.bufA, bufB := if n = .b then .reading d else p.bufB }))
    ∧ (c.inFlight ≠ none → t.comp sd = { c with blankRequest := stays } ∧ t.pipe sd = p ∧ t.store sd = x)

/-- The compositor, the pipeline and the store of a side are as they stood in u. -/
def ViewStands (sd : Side) (u t : State) : Prop := t.comp sd = u.comp sd ∧ t.pipe sd = u.pipe sd ∧ t.store sd = u.store sd

/-- The view blocks of a side after a raise of a view-loss identity that s holds or not and t holds (R103, R80): a LIVE display under a
hold_limit of 0 moves to BLANKED, with the frame start or the blank request that brings (log entry 11), and otherwise they stand. -/
def ViewAfterLoss (f : FaultId) (sd : Side) (s t : State) : Prop :=
  if FaultSet.has s.faults.current f = false ∧ (s.display sd).state = .live ∧ s.faults.group.holdLimit = 0 then BlankStarts sd true s t
  else ViewStands sd s t

/-- E after step 2 of a commit (R41 to R43): unchanged by an unsettled frame or an empty metered set, else one step from the error, and
the weight and the mean of the metered set. -/
def metersTo (g : ExposureGroup) (settled : Bool) (m : Metered) (x y : Exposure) : Prop :=
  let set := zones.filter fun n => m.clear n && decide (0 < g.metering.getD n 0)
  let weight := (set.map fun n => g.metering.getD n 0).sum
  let mean := (set.map fun n => g.metering.getD n 0 * (m.record n).meanY).sum / weight
  let err : Int := (logL g.tTarget : Int) - logL mean
  let next := clampInt (x.e + clampInt ((err * g.aeGain).tdiv 16) (-(g.maxStep : Int)) g.maxStep) g.eMin g.eMax
  (settled = false →
      y.e = x.e ∧ y.lastMean = x.lastMean ∧ y.lastWeight = x.lastWeight ∧ y.lastError = x.lastError
        ∧ y.unsettledCommits = satInc x.unsettledCommits ∧ y.settledCommits = x.settledCommits)
    ∧ (settled = true → y.settledCommits = satInc x.settledCommits ∧ y.unsettledCommits = x.unsettledCommits)
    ∧ (settled = true → weight = 0 → y.e = x.e ∧ y.lastMean = none ∧ y.lastWeight = 0 ∧ y.lastError = none)
    ∧ (settled = true → weight ≠ 0 →
        y.lastMean = some mean ∧ y.lastWeight = weight ∧ y.lastError = some err
          ∧ (-2 ≤ err → err ≤ 2 → y.e = x.e)
          ∧ (err < -2 ∨ 2 < err → (y.e : Int) = max 0 next))
    ∧ y.exposureChanges = (if y.e = x.e then x.exposureChanges else satInc x.exposureChanges)

/-- White balance at step 2 of a commit (R46, R47): the hold at NIGHT and on an empty set, else the two targets from the set's means and a
move of each gain by at most 4. -/
def BalancesTo (ns : NightState) (m : Metered) (x y : Exposure) : Prop :=
  let set := zones.filter fun n => m.clear n && decide (4096 ≤ (m.record n).meanY ∧ (m.record n).meanY ≤ 524288)
  let count := if ns = .night then 0 else set.length
  let mean (f : ZoneRecord → Nat) : Nat := (set.map fun n => f (m.record n)).sum / set.length
  let target (colour : Nat) : Nat := if colour = 0 then 1023 else max 128 (min (256 * mean ZoneRecord.meanG / colour) 1023)
  let toward (gain target gain' : Nat) : Prop :=
    (gain ≤ target → gain' = min target (gain + 4)) ∧ (target ≤ gain → gain' = max target (gain - 4))
  y.wbZones = count
    ∧ (count = 0 → y.gainR = x.gainR ∧ y.gainB = x.gainB ∧ y.wbTargetR = x.wbTargetR ∧ y.wbTargetB = x.wbTargetB)
    ∧ (count ≠ 0 →
        y.wbTargetR = some (target (mean ZoneRecord.meanR)) ∧ y.wbTargetB = some (target (mean ZoneRecord.meanB))
          ∧ toward x.gainR (target (mean ZoneRecord.meanR)) y.gainR ∧ toward x.gainB (target (mean ZoneRecord.meanB)) y.gainB)

/-- The condition of the transition from a night state to another, by the source and its value (R52). The settings that R51 accepts let at
most one of the two open from DUSK be true. -/
def Opens (g : NightGroup) (c : Chosen) (old new : NightState) : Prop :=
  match c, old, new with
  | .exposure e, .day, .dusk => g.eDusk ≤ e
  | .exposure e, .dusk, .night => g.eNight ≤ e
  | .exposure e, .night, .dusk => (e : Int) < g.eNight - g.hysteresis
  | .exposure e, .dusk, .day => (e : Int) < g.eDusk - g.hysteresis ∧ e < g.eNight
  | .lux v, .day, .dusk => v < g.luxDusk
  | .lux v, .dusk, .night => v < g.luxNight
  | .lux v, .night, .dusk => 2 * g.luxNight ≤ v
  | .lux v, .dusk, .day => 2 * g.luxDusk ≤ v ∧ g.luxNight ≤ v
  | _, _, _ => False

/-- The transitions judged and the dwell counted from a controller n to n', with its last source just set (R50, R52). -/
def Dwells (c : Chosen) (n n' : Night) : Prop :=
  let same := decide (n.lastSource = n'.lastSource)
  let count (dest : NightState) : Nat := if same ∧ n.dwellTarget = some dest then n.dwellCount + 1 else 1
  (∀ dest, Opens n'.nightAct c n.state dest →
      (n'.nightAct.dwell ≤ count dest → n'.state = dest ∧ n'.dwellCount = 0 ∧ n'.dwellTarget = none)
        ∧ (count dest < n'.nightAct.dwell → n'.state = n.state ∧ n'.dwellCount = count dest ∧ n'.dwellTarget = some dest))
    ∧ ((∀ dest, ¬Opens n'.nightAct c n.state dest) → n'.state = n.state ∧ n'.dwellCount = 0 ∧ n'.dwellTarget = none)

/-- VIEW_STALE and its clear run after step 6 of a scan that has handed this slot, the display judged in `judged` (R111). -/
def staleAfter (sd : Side) (handed : Option SlotRecord) (now : Time) (judged : State) : Bool × Nat :=
  let old := FaultSet.has judged.faults.current (.viewStale sd)
  let run := (judged.runs sd).staleClear
  match handed.bind SlotRecord.capture with
  | none => (old, run)
  | some c =>
    if judged.faults.group.latencyBudget < (now - c).toNat then (true, if old then 0 else run)
    else if old then (if run < 2 then (true, run + 1) else (false, 0))
    else (false, run)

/-- R98: the display port as one wake burst leaves it, sent at a moment with a given attempt. -/
def burst (d : Display) (attempt : Nat) (now : Time) : Display :=
  { d with
    link := .waking
    wakeAttempt := attempt
    wakeDeadline := some (now + 20000)
    wakeRetry := if attempt = 1 then none else d.wakeRetry
    counters := { d.counters with wakeBursts := satInc d.counters.wakeBursts } }

/-- An image holds the live values of a side as they stand in s, with these flags (R143). -/
def ImageOf (sd : Side) (settled resetAfter : Bool) (i : Image) (s : State) : Prop :=
  i.settled = settled ∧ i.resetAfter = resetAfter
    ∧ i.night = (s.context sd).committedNight
    ∧ i.e = (s.exposure sd).e
    ∧ (∀ x, (s.context sd).identityCopy = some x → i.identity = x)
    ∧ i.gainR = (s.exposure sd).gainR ∧ i.gainB = (s.exposure sd).gainB
    ∧ i.backlight = (s.display sd).backlight
    ∧ i.framesAdapted = (s.context sd).framesAdapted
    ∧ i.grid = (s.glare sd).grid ∧ i.tags = (s.glare sd).tags

/-- From u to t the default state of a side has been installed under reset_after, a changed E delivered to a STREAMING port (R146, R141,
R39, R12). That exposure_changes stands is log entry 22. -/
def DefaultInstalled (sd : Side) (u t : State) : Prop :=
  t.exposure sd =
      { u.exposure sd with e := clampNat 128 (u.pipe sd).expAct.eMin (u.pipe sd).expAct.eMax, gainR := 256, gainB := 256 }
    ∧ t.glare sd = { u.glare sd with grid := List.replicate 128 0, tags := List.replicate 128 false }
    ∧ t.display sd = { u.display sd with backlight := min (u.night.target.get sd) 1023 }
    ∧ (t.context sd).framesAdapted = 0
    ∧ (if (t.exposure sd).e = (u.exposure sd).e ∨ (u.port sd).link ≠ .streaming then t.sent = u.sent ∧ t.port sd = u.port sd
      else t.sent = u.sent ++ [.expose sd (t.exposure sd).e (u.pipe sd).expAct.ratioCode]
        ∧ t.port sd =
          { u.port sd with
            lastExpose := some ⟨(t.exposure sd).e, (u.pipe sd).expAct.ratioCode⟩
            outstanding := true
            resendDone := false
            unsettledRun := 0 })

/-- From u to t the save in flight of a side has ended with this image (R145, R146): the reply under the tag kept by busy, the count, no
save left, and the default state installed where reset_after is on. -/
def SaveEnds (sd : Side) (resetAfter : Bool) (tag : Byte) (image : List Byte) (u t : State) : Prop :=
  t.link =
      { u.link with
        busy := none
        busyDrop := false
        holder := some ⟨9, tag, 0, summaryAfter u t, image⟩
        reading := u.link.reading.map fun r => { r with held := false } }
    ∧ t.context sd =
      { u.context sd with
        save := none
        saves := satInc (u.context sd).saves
        framesAdapted := if resetAfter then 0 else (u.context sd).framesAdapted }
    ∧ (resetAfter = false → Unchanged [.context sd, .holder, .receiver] u t)
    ∧ (resetAfter = true → DefaultInstalled sd u t
        ∧ Unchanged [.port sd, .exposure sd, .glare sd, .display sd, .context sd, .holder, .receiver, .sent] u t)

/-- R108: the display port as the sleep-and-wake after a raise of DISPLAY_PATH leaves it. -/
def resynced (d : Display) (now : Time) : Display :=
  { burst d 1 now with
    nextScan := none
    state := .dark
    holdCount := 0
    counters :=
      { d.counters with
        wakeBursts := satInc d.counters.wakeBursts
        pathResyncs := satInc d.counters.pathResyncs } }

/-- Entry to STARTING from PARKED, in a state whose ports are DOWN and links HIBERNATE: what it changes (R154, R121), LEFT's messages before
RIGHT's within each order (log entry 38). -/
def startedFrom (s t : State) : Prop :=
  t.power.state = .starting
    ∧ t.night = { s.night with nextEval := some (s.timebase + 100000) }
    ∧ (∀ sd, (s.port sd).link = .down →
        t.port sd =
          { s.port sd with
            link := .training
            trainingDeadline := some (s.timebase + 50000)
            inProgress := none })
    ∧ (∀ sd, (s.display sd).link = .hibernate →
        t.display sd = if (s.display sd).enabled then burst (s.display sd) 1 s.timebase else s.display sd)
    ∧ ((s.port .left).link = .down → (s.port .right).link = .down →
        (s.display .left).link = .hibernate → (s.display .right).link = .hibernate →
        t.sent = s.sent ++ [.train .left, .train .right]
          ++ (if (s.display .left).enabled then [.wakeBurst .left] else [])
          ++ (if (s.display .right).enabled then [.wakeBurst .right] else []))
    ∧ t.queue = queueAfter s s.timebase
        (.powerChanged s.power.state .starting
          :: (if s.vehicleStale then raisedReport .vehicleInputStale s else clearedReport .vehicleInputStale s))
    ∧ (if s.vehicleStale then Raised .vehicleInputStale s t else Cleared .vehicleInputStale s t)

/-- The pieces that entry to STARTING touches. -/
def startParts : List Part :=
  [.power, .night, .port .left, .port .right, .display .left, .display .right, .faultSets, .queue, .sent]

/-- Everything but the retention domain stands at its value after power-on, the part held in OFF with its links OFF (R158 and the tables of
R1, R18, R38, R48, R59, R77, R88, R96, R113, R130, R140, R160). -/
def HeldInReset (s t : State) : Prop :=
  t.power.state = .off ∧ t.power.hold ≠ .released ∧ t.timebase = 0
    ∧ t.queue = ⟨[], false, 0⟩ ∧ t.link = .reset ∧ t.rdy = false
    ∧ (∀ sd, t.port sd = .reset ∧ t.pipe sd = .reset ∧ t.comp sd = .reset ∧ t.store sd = .reset ∧ t.runs sd = .zero
        ∧ t.faults.flatZones.get sd = 0
        ∧ t.display sd = { Display.reset with link := .off, backlight := (t.display sd).backlight }
        ∧ t.exposure sd =
          { Exposure.reset with
            e := (t.exposure sd).e, gainR := (t.exposure sd).gainR, gainB := (t.exposure sd).gainB }
        ∧ t.glare sd = { Glare.reset with grid := (t.glare sd).grid, tags := (t.glare sd).tags }
        ∧ (t.context sd).save = none ∧ (t.context sd).pendingRestore = none ∧ (t.context sd).saves = 0)
    ∧ t.night = { Night.reset with state := t.night.state }
    ∧ t.faults.current = 0 ∧ t.faults.masks = 0 ∧ t.faults.locked = false ∧ t.faults.group = .default
    ∧ t.faults.expiryAngle = none ∧ t.faults.expiryLux = none
    ∧ t.sent = s.sent ∧ t.raceCount = s.raceCount ∧ t.pending = s.pending

/-- R158, R140, R48, R113, R39: what the retention domain keeps through a part reset, the rest of the context store at its reset values. -/
def Retained (s t : State) : Prop :=
  (∀ sd, (t.exposure sd).e = clampNat (s.exposure sd).e 16 240
      ∧ (t.exposure sd).gainR = (s.exposure sd).gainR ∧ (t.exposure sd).gainB = (s.exposure sd).gainB
      ∧ (t.glare sd).grid = ((s.glare sd).grid.map fun v => min v 64) ∧ (t.glare sd).tags = (s.glare sd).tags
      ∧ (t.display sd).backlight = (s.display sd).backlight
      ∧ t.context sd =
        { framesAdapted := (s.context sd).framesAdapted
          committedNight := (s.context sd).committedNight
          identityCopy := (s.context sd).identityCopy
          pendingRestore := none, save := none, lastOutcome := .none
          saves := 0, loadsAccepted := 0, loadsRefused := 0, restoresApplied := 0, restoresRejected := 0, retainedDiscards := 0 })
    ∧ t.night.state = s.night.state
    ∧ t.faults.accrued = s.faults.accrued

/-- The retention domain at its defaults, as after a power-on (R158, R140, R48, R113). -/
def Forgotten (t : State) : Prop :=
  (∀ sd, t.exposure sd = .reset ∧ t.glare sd = .reset ∧ t.context sd = .reset ∧ (t.display sd).backlight = 1023)
    ∧ t.night.state = .day ∧ t.faults.accrued = 0

/-- The link as a discarded partial request leaves it (R162). -/
def partialDropped (l : HostLink) : HostLink :=
  { l with
    partialReq := none
    partialDeadline := none
    counters := { l.counters with framingErrors := satInc l.counters.framingErrors } }

/-- A raise of HOST_LINK_ERROR from s to t (R116). -/
def LinkErrorRaised (s t : State) (now : Time) : Prop :=
  t.faults.accrued = FaultSet.insert s.faults.accrued .hostLinkError ∧ t.faults.current = s.faults.current
    ∧ t.queue = queueAfter s now (if s.faults.unmasked .hostLinkError then [.faultRaised .hostLinkError false] else [])

/-- R84: what an OVERLAY item must be to be accepted. -/
def overlayAccepted (display id : Byte) (row x0 x1 : BitVec 16) (thickness palette : Byte) : Prop :=
  display.toNat ≤ 1 ∧ id.toNat ≤ 7 ∧ row.toNat ≤ 2047 ∧ x0.toNat ≤ 2047 ∧ x1.toNat ≤ 2047 ∧ x0.toNat ≤ x1.toNat
    ∧ 1 ≤ thickness.toNat ∧ thickness.toNat ≤ 8 ∧ palette.toNat ≤ 3

/-! ### The fields of a SET (R167) -/

/-- A numeric field: absent it stands; present it is written clamped to its range, with its bit in the clamped mask. -/
def NumericField (lo hi : Nat) (v old new : Option Nat) (clamped : Bool) : Prop :=
  (v = none → new = old ∧ clamped = false)
    ∧ ∀ x, v = some x → new = some (max lo (min x hi)) ∧ clamped = decide (x < lo ∨ hi < x)

/-- A signed numeric field. -/
def SignedField (lo hi : Int) (v old new : Option Int) (clamped : Bool) : Prop :=
  (v = none → new = old ∧ clamped = false)
    ∧ ∀ x, v = some x → new = some (max lo (min x hi)) ∧ clamped = decide (x < lo ∨ hi < x)

/-- A choice field: 0 and 1 are written, another code is ignored and the value kept. -/
def ChoiceField (v : Option Nat) (old new : Option Bool) (ignored : Bool) : Prop :=
  (v = none → new = old ∧ ignored = false)
    ∧ (v = some 0 → new = some false ∧ ignored = false)
    ∧ (v = some 1 → new = some true ∧ ignored = false)
    ∧ ∀ x, v = some x → 1 < x → new = old ∧ ignored = true

/-- The expiry moment of a received field under a new vehicle_input_timeout in milliseconds: one still present is recomputed, absent where
the field has already aged past the timeout (R121). -/
def momentUnder (timeoutMs : Nat) (now : Time) (arrival moment : Option Time) : Option Time :=
  match arrival, moment with
  | some a, some _ => if timeoutMs * 1000 < (now - a).toNat then none else some (a + BitVec.ofNat 32 (timeoutMs * 1000 + 1))
  | _, m => m

/-- The effects of a SET to FAULT that wrote these fields, with the new group in t (R122, R104, R121, R137): hold_limit judged at LEFT and
then at RIGHT (log entry 25), with the frame start that a move to BLANKED brings (log entry 11), the expiry moments and VEHICLE_INPUT_STALE,
the reports in that order, and ATTN. A field written with the value it has is no exception (log entry 41). -/
def FaultFieldsApplied (f : Fields) (s t : State) : Prop :=
  let g := t.faults.group
  let ends (sd : Side) : Bool :=
    (f.raw 1).isSome && decide ((s.display sd).state = .hold) && s.faults.viewLoss sd && decide (g.holdLimit ≤ (s.display sd).holdCount)
  let endReport (sd : Side) : List Report := if ends sd then [.displayChanged sd .hold .blanked] else []
  let judged : Bool := (f.raw 3).isSome && s.awake
  let stale : Bool :=
    (s.link.angle.isSome && t.faults.expiryAngle.isNone) || (s.link.lux.isSome && t.faults.expiryLux.isNone)
  let u : State := { s with faults := { s.faults with group := g } }
  let q := queueAfter u s.timebase
    (endReport .left ++ endReport .right ++ (if judged then movedReport .vehicleInputStale s t else []))
  (∀ sd, t.display sd = if ends sd then { s.display sd with state := .blanked } else s.display sd)
    ∧ (∀ sd, if ends sd then BlankStarts sd true s t else ViewStands sd s t)
    ∧ t.faults.expiryAngle =
      (if (f.raw 3).isSome then momentUnder g.vehicleTimeout s.timebase (s.link.angle.map Prod.snd) s.faults.expiryAngle
        else s.faults.expiryAngle)
    ∧ t.faults.expiryLux =
      (if (f.raw 3).isSome then momentUnder g.vehicleTimeout s.timebase (s.link.lux.map Prod.snd) s.faults.expiryLux
        else s.faults.expiryLux)
    ∧ FaultSet.has t.faults.current .vehicleInputStale =
      (if judged then stale else FaultSet.has s.faults.current .vehicleInputStale)
    ∧ FaultsMove [.vehicleInputStale] s t
    ∧ t.queue = (if (f.raw 4).isSome then { q with attn := attnLevel g.attentionThreshold q.entries } else q)

/-! ### The bytes of STATUS and GET, as Record Layouts lays them out (12.3, 12.5)

One definition a section or group, its values in the order of the rule it cites. The order and the widths are log entry 18, the bytes of
flags and levels log entry 36, and the byte of a state that has a name and no code is free (log entry 19). -/

/-- A value of 1 byte. -/
def Layout.u1 (n : Nat) : List Byte := [BitVec.ofNat 8 n]

/-- A value of 2 bytes. -/
def Layout.u2 (n : Nat) : List Byte := be16 (BitVec.ofNat 16 n)

/-- A value of 4 bytes. -/
def Layout.u4 (n : Nat) : List Byte := be32 (BitVec.ofNat 32 n)

/-- A signed value, two bytes of two's complement. -/
def Layout.s2 (z : Int) : List Byte := be16 (BitVec.ofInt 16 z)

/-- A flag or a level of two values. -/
def Layout.flag (b : Bool) : List Byte := [if b then 1 else 0]

/-- A state shown by its place in the list of its rule. -/
def Layout.named (item : Config.StatusItem) (place : Nat) : List Byte := [Config.statusCode item place]

/-- An optional value: 1 and its bytes, or 0 and as many bytes of 0 (R170). -/
def Layout.opt (width : Nat) : Option (List Byte) → List Byte
  | some l => 1 :: l
  | none => 0 :: List.replicate width 0

/-- A section: its number, its length in two bytes, its contents. -/
def Layout.part (number : Nat) (contents : List Byte) : List Byte := Layout.u1 number ++ Layout.u2 contents.length ++ contents

/-- The code of a night state: DAY 0, DUSK 1, NIGHT 2. -/
def Layout.nightState : NightState → List Byte
  | .day => [0]
  | .dusk => [1]
  | .night => [2]

/-- Section 1 (R152). -/
def Layout.power (s : State) : List Byte :=
  Layout.u1 (match s.power.state with | .off => 0 | .parked => 1 | .starting => 2 | .running => 3)
    ++ Layout.opt 1 (s.power.lastWake.map fun w =>
      Layout.named .wakeSource (match w with | .autostart => 1 | .request => 2 | .line => 3))
    ++ Layout.flag s.power.wakeLevel ++ Layout.flag s.power.autostart ++ be32 s.timebase

/-- Sections 2 and 3 (R16, R17). -/
def Layout.port (s : State) (sd : Side) : List Byte :=
  let p := s.port sd
  let c := p.counters
  [c.framesValid, c.discardHeader, c.discardLines, c.discardRepeat, c.discardIncomplete, c.crcFailures, c.linesRepaired, c.trainings,
      c.trainingFailures, c.losses, c.resends].flatMap Layout.u4
    ++ Layout.named .sensorLink (match p.link with | .down => 0 | .training => 1 | .streaming => 2 | .lost => 3)
    ++ Layout.opt 9 (p.trained.map fun x => be64 x.identity ++ [x.revision])
    ++ Layout.opt 2 (p.lastCounter.map be16)
    ++ Layout.opt 2 (p.lastExpose.map fun x => Layout.u1 x.e ++ Layout.u1 x.ratio) ++ Layout.flag p.outstanding
    ++ Layout.u2 p.unsettledRun
    ++ Layout.opt 5 (p.lastHeader.map fun h => be16 h.counter ++ [h.exposure, h.ratio] ++ Layout.flag h.healthy)
    ++ Layout.opt 4 (p.lastCapture.map be32) ++ Layout.opt 4 (p.lastCapture.map fun t => be32 (s.timebase - t))

/-- Sections 4 and 5 (R37). The tone curve in use is that of the frame in development, else the one the night state selects (log
entry 23). -/
def Layout.pipe (s : State) (sd : Side) : List Byte :=
  let p := s.pipe sd
  let frame (d : Option Developed) : List Byte :=
    Layout.opt 2 (d.map fun x => be16 x.frame.number) ++ Layout.opt 4 (d.map fun x => be32 x.frame.capture)
  let night : Bool :=
    match p.dev with
    | some d => d.source.latched.nightCurve
    | none => decide (s.night.state = .night)
  Layout.u4 p.framesDeveloped ++ Layout.u4 p.bufferDrops ++ Layout.u4 p.intakeDrops
    ++ Layout.named .pipelineActivity (if p.dev = none then 0 else 1)
    ++ frame (p.dev.map InDevelopment.source) ++ frame (p.waiting.map Prod.snd)
    ++ Layout.opt 4 (p.lastSignature.map be32) ++ Layout.u2 (s.runs sd).frozenSame ++ Layout.u2 (s.runs sd).frozenChange
    ++ Layout.named .toneCurve (if night then 1 else 0)

/-- Sections 6 and 7 (R56). -/
def Layout.exposure (s : State) (sd : Side) : List Byte :=
  let x := s.exposure sd
  Layout.u1 x.e ++ Layout.u2 x.gainR ++ Layout.u2 x.gainB ++ Layout.opt 2 (x.wbTargetR.map Layout.u2)
    ++ Layout.opt 2 (x.wbTargetB.map Layout.u2) ++ Layout.opt 4 (x.lastMean.map Layout.u4) ++ Layout.u2 x.lastWeight
    ++ Layout.opt 2 (x.lastError.map Layout.s2) ++ Layout.u2 x.wbZones ++ Layout.u4 x.settledCommits ++ Layout.u4 x.unsettledCommits
    ++ Layout.u4 x.exposureChanges ++ Layout.u2 (s.runs sd).limitRun ++ Layout.u2 (s.runs sd).limitClear

/-- Section 8 (R56). -/
def Layout.night (s : State) : List Byte :=
  let n := s.night
  Layout.nightState n.state ++ Layout.named .nightSource (match n.lastSource with | .none => 0 | .lux => 1 | .exposure => 2)
    ++ Layout.u2 n.dwellCount ++ Layout.opt 1 (n.dwellTarget.map Layout.nightState) ++ Layout.flag n.sourceSeen
    ++ Layout.u2 (n.target.get .left) ++ Layout.u2 (s.display .left).backlight
    ++ Layout.u2 (n.target.get .right) ++ Layout.u2 (s.display .right).backlight

/-- Sections 9 and 10 (R76). -/
def Layout.glare (s : State) (sd : Side) : List Byte :=
  let g := s.glare sd
  Layout.u2 (g.tags.filter (· = true)).length ++ Layout.u2 g.lastAttenuated ++ Layout.u2 g.lastAtMax ++ Layout.u2 (g.grid.foldl max 0)
    ++ Layout.u2 (s.runs sd).saturation ++ Layout.u2 (s.runs sd).satRelease

/-- Sections 11 and 12 (R95, R88). The signature of a FILLING slot is not yet formed: free (log entry 20). -/
def Layout.compositor (s : State) (sd : Side) : List Byte :=
  let c := s.comp sd
  let x := s.store sd
  let record (number : Option (BitVec 16)) (capture : Option Time) (kind : Content) (signature : BitVec 32) : List Byte :=
    Layout.opt 2 (number.map be16) ++ Layout.opt 4 (capture.map be32)
      ++ Layout.named .contentKind (match kind with | .normal => 0 | .faultPattern => 1) ++ be32 signature
  let source : Option Developed := (c.inFlight.bind Composition.source).map Prod.snd
  let filling : List Byte :=
    record (source.map fun d => d.frame.number) (source.map fun d => d.frame.capture) ((c.inFlight.map Composition.kind).getD .normal)
      (Config.unformedSignature s.timebase)
  let slot : Slot → List Byte
    | .free => Layout.named .slotState 0 ++ Layout.opt 13 none
    | .filling => Layout.named .slotState 1 ++ Layout.opt 13 (some filling)
    | .ready r => Layout.named .slotState 2 ++ Layout.opt 13 (some (record r.number r.capture r.kind r.signature))
    | .shown r => Layout.named .slotState 3 ++ Layout.opt 13 (some (record r.number r.capture r.kind r.signature))
  Layout.named .compositorActivity (if c.inFlight = none then 0 else 1) ++ Layout.flag c.blankRequest
    ++ Layout.u2 c.panOffset ++ Layout.u2 c.panTarget
    ++ Layout.u2 (if c.act.plusX then c.act.mainWindow.x + c.panOffset else c.act.mainWindow.x - c.panOffset) ++ Layout.flag c.angleFresh
    ++ Layout.u2 c.overlays.length ++ c.overlays.flatMap (fun o => Layout.u1 o.id) ++ slot x.slot0 ++ slot x.slot1 ++ slot x.slot2
    ++ Layout.u4 x.normalComposed ++ Layout.u4 x.faultComposed ++ Layout.u4 x.slotDrops ++ Layout.u4 x.scanRepeats
    ++ Layout.u4 x.emptyScans

/-- Sections 13 and 14 (R111, R109). -/
def Layout.display (s : State) (sd : Side) : List Byte :=
  let d := s.display sd
  let c := d.counters
  Layout.flag d.enabled ++ Layout.flag (s.wanted sd)
    ++ Layout.named .monitorLink (match d.link with | .off => 0 | .hibernate => 1 | .waking => 2 | .synced => 3)
    ++ Layout.u2 d.wakeAttempt
    ++ Layout.u1 (match d.state with | .dark => 0 | .priming => 1 | .live => 2 | .hold => 3 | .blanked => 4)
    ++ Layout.u2 d.holdCount ++ Layout.opt 4 (d.identity.map be32) ++ Layout.u2 d.echoList.length ++ Layout.u2 d.silence
    ++ Layout.u2 (s.runs sd).pathMatch ++ Layout.u2 (s.runs sd).staleClear ++ Layout.opt 4 (d.lastAge.map be32)
    ++ Layout.opt 7 (d.lastStatus.map fun m => Layout.flag m.fault ++ Layout.s2 m.temperature.toInt ++ be32 m.arrival)
    ++ Layout.opt 4 (d.lastStatus.map fun m => be32 (s.timebase - m.arrival))
    ++ Layout.u2 d.outQueue.length ++ Layout.u2 d.backlight
    ++ [c.framesSent, c.startPatternsSent, c.wakeBursts, c.wakeFailures, c.callsIgnored, c.echoesMatched, c.echoMismatches,
      c.echoSilences, c.pathResyncs, c.monitorReplies].flatMap Layout.u4

/-- Section 15 (R129; log entry 37). -/
def Layout.faults (s : State) : List Byte :=
  let f := s.faults
  let side (sd : Side) : List Byte :=
    Layout.u2 (s.runs sd).obscuredRaise ++ Layout.u2 (s.runs sd).obscuredClear ++ Layout.u2 (f.flatZones.get sd)
  let field (arrival moment : Option Time) : List Byte :=
    Layout.opt 5 (arrival.map fun a => be32 (s.timebase - a) ++ Layout.flag moment.isSome)
  be64 f.current ++ be64 f.accrued ++ be16 f.masks ++ Layout.flag f.locked ++ side .left ++ side .right
    ++ field (s.link.angle.map Prod.snd) f.expiryAngle ++ field (s.link.lux.map Prod.snd) f.expiryLux

/-- Section 16 (R139). -/
def Layout.queue (s : State) : List Byte :=
  let q := s.queue
  let lost (e : Entry) : Nat := match e.report with | .overrun n => n | _ => 0
  Layout.u2 q.entries.length ++ Layout.flag (q.entries.any fun e => e.report.isOverrun) ++ Layout.u2 (q.entries.map lost).sum
    ++ Layout.u4 q.lost ++ Layout.flag q.attn ++ Layout.u2 s.faults.group.attentionThreshold

/-- Section 17 (R151): LEFT, RIGHT, and the restart cause. A save in flight is SETTLED, code 1. -/
def Layout.context (s : State) : List Byte :=
  let side (sd : Side) : List Byte :=
    let c := s.context sd
    Layout.opt 8 (c.identityCopy.map be64) ++ Layout.u4 c.framesAdapted ++ Layout.nightState c.committedNight
      ++ Layout.opt 12 (c.pendingRestore.map fun i => be64 i.identity ++ Layout.u4 i.framesAdapted)
      ++ Layout.opt 5 (c.save.map fun v => 1 :: be32 v.deadline)
      ++ Layout.named .lastOutcome
        (match c.lastOutcome with | .none => 0 | .applied => 1 | .rejectedIdentity => 2 | .discardedRetained => 3)
      ++ Layout.u4 c.saves ++ Layout.u4 c.loadsAccepted ++ Layout.u4 c.loadsRefused ++ Layout.u4 c.restoresApplied
      ++ Layout.u4 c.restoresRejected ++ Layout.u4 c.retainedDiscards
  side .left ++ side .right ++ Layout.u1 (match s.restartCause with | .powerOn => 0 | .resetPin => 1 | .resetRequest => 2)

/-- Section 18 (R160). -/
def Layout.link (l : HostLink) : List Byte :=
  let c := l.counters
  [c.requestsTaken, c.crcFailures, c.framingErrors, c.requestsRefused, c.busyDrops, c.linkResets, c.emptyReads].flatMap Layout.u4
    ++ Layout.flag l.busy.isSome ++ Layout.flag l.busyDrop ++ Layout.flag l.partialReq.isSome
    ++ Layout.u2 ((l.partialReq.map List.length).getD 0) ++ Layout.flag l.holder.isSome ++ Layout.flag l.holder.isSome

/-- The eighteen sections (12.5). -/
def Layout.status (s : State) : List Byte :=
  Layout.part 1 (Layout.power s) ++ Layout.part 2 (Layout.port s .left) ++ Layout.part 3 (Layout.port s .right)
    ++ Layout.part 4 (Layout.pipe s .left) ++ Layout.part 5 (Layout.pipe s .right) ++ Layout.part 6 (Layout.exposure s .left)
    ++ Layout.part 7 (Layout.exposure s .right) ++ Layout.part 8 (Layout.night s) ++ Layout.part 9 (Layout.glare s .left)
    ++ Layout.part 10 (Layout.glare s .right) ++ Layout.part 11 (Layout.compositor s .left)
    ++ Layout.part 12 (Layout.compositor s .right) ++ Layout.part 13 (Layout.display s .left) ++ Layout.part 14 (Layout.display s .right)
    ++ Layout.part 15 (Layout.faults s) ++ Layout.part 16 (Layout.queue s) ++ Layout.part 17 (Layout.context s)
    ++ Layout.part 18 (Layout.link s.link)

/-- The fields of EXPOSURE (12.3): the weight of zone n at bits 7 − 2 × (n mod 4) and 6 − 2 × (n mod 4) of byte floor(n / 4). -/
def Layout.exposureGroup (g : ExposureGroup) : List Byte :=
  let weight (n : Nat) : Nat := g.metering.getD n 0
  Layout.u2 g.blackLevel ++ Layout.u1 g.ratioCode ++ Layout.u1 g.eMin ++ Layout.u1 g.eMax ++ Layout.u4 g.tTarget ++ Layout.u1 g.aeGain
    ++ Layout.u1 g.maxStep
    ++ (List.range 32).flatMap fun i =>
      Layout.u1 (64 * weight (4 * i) + 16 * weight (4 * i + 1) + 4 * weight (4 * i + 2) + weight (4 * i + 3))

/-- The fields of GLARE (12.3). -/
def Layout.glareGroup (g : GlareGroup) : List Byte :=
  Layout.flag g.enable ++ Layout.u4 g.knee ++ Layout.u1 g.strength ++ Layout.u1 g.aMax ++ Layout.u1 g.spreadDrop ++ Layout.u1 g.attack
    ++ Layout.u1 g.release ++ Layout.u4 g.brightThreshold ++ Layout.u2 g.countThreshold

/-- The fields of TONE (12.3). -/
def Layout.toneGroup (g : ToneGroup) : List Byte := g.day.flatMap Layout.u2 ++ g.night.flatMap Layout.u2

/-- The fields of VIEW (12.3). -/
def Layout.viewGroup (g : ViewGroup) : List Byte :=
  let window (w : Window) : List Byte := Layout.u2 w.x ++ Layout.u2 w.y ++ Layout.u2 w.w ++ Layout.u2 w.h
  window g.mainWindow ++ window g.wideWindow ++ Layout.flag g.mirror ++ Layout.flag g.plusX ++ Layout.u1 g.panGain ++ Layout.u2 g.panMax
    ++ Layout.u1 g.panRate ++ g.palette.flatMap fun c => Layout.u2 c.r ++ Layout.u2 c.g ++ Layout.u2 c.b

/-- The fields of NIGHT (12.3). -/
def Layout.nightGroup (g : NightGroup) : List Byte :=
  Layout.u1 g.eDusk ++ Layout.u1 g.eNight ++ Layout.u1 g.hysteresis ++ Layout.u2 g.luxDusk ++ Layout.u2 g.luxNight ++ Layout.u1 g.dwell

/-- The fields of BACKLIGHT (12.3). -/
def Layout.backlightGroup (g : BacklightGroup) : List Byte :=
  Layout.u2 g.day ++ Layout.u2 g.dusk ++ Layout.u2 g.night ++ Layout.s2 g.trimLeft ++ Layout.s2 g.trimRight

/-- The fields of FAULT (12.3). -/
def Layout.faultGroup (g : FaultGroup) : List Byte :=
  Layout.u1 g.frozenLimit ++ Layout.u1 g.holdLimit ++ Layout.u4 g.latencyBudget ++ Layout.u2 g.vehicleTimeout
    ++ Layout.u1 g.attentionThreshold

/-! ### The laws of the manual -/

/-- The law of the two sets (R125), and no event identity is ever current (R112). -/
def SetsLaw (s : State) : Prop :=
  s.faults.current &&& ~~~s.faults.accrued = 0
    ∧ ∀ f : FaultId, f.isEvent = true → FaultSet.has s.faults.current f = false

/-- Only the classes 6 … 13 are ever masked (R123). -/
def MaskLaw (s : State) : Prop := s.faults.masks &&& ~~~ClassSet.maskable = 0

/-- The law of the queue (R133), the level of ATTN (R137), and the longest detail (R131). -/
def QueueLaw (s : State) : Prop :=
  s.queue.entries.length ≤ 32
    ∧ (s.queue.entries.length = 32 → (s.queue.entries.getLast?.map fun e => e.report.isOverrun) = some true)
    ∧ s.queue.attn = attnLevel s.faults.group.attentionThreshold s.queue.entries
    ∧ ∀ e ∈ s.queue.entries, e.report.detail.length ≤ 32

/-- The law of the exposure controller (R39), with the pairs of limits in order (R40), and the range of the gains (R47). -/
def ExposureLaw (s : State) : Prop :=
  ∀ sd : Side,
    let g := (s.pipe sd).expAct
    let p := (s.pipe sd).expPend
    let x := s.exposure sd
    g.eMin ≤ x.e ∧ x.e ≤ g.eMax ∧ p.eMin.getD g.eMin ≤ p.eMax.getD g.eMax
      ∧ 128 ≤ x.gainR ∧ x.gainR ≤ 1023 ∧ 128 ≤ x.gainB ∧ x.gainB ≤ 1023

/-- The law of the slots (R88): one FILLING slot while the compositor is COMPOSING and none otherwise, at most one READY, at most one
SHOWN. -/
def SlotLaw (s : State) : Prop :=
  ∀ sd : Side,
    let l := (s.store sd).slots
    l.countP Slot.isFilling = (if (s.comp sd).inFlight.isSome then 1 else 0) ∧ l.countP Slot.isReady ≤ 1
      ∧ l.countP Slot.isShown ≤ 1

/-- The law of the development buffers (R31 to R33): the WRITING buffer is that of the frame in development, the READING buffer is that of
the composition in flight, at most one buffer is WAITING, and no frame waits at the intake of an IDLE pipeline (R19). -/
def BufferLaw (s : State) : Prop :=
  ∀ sd : Side,
    let p := s.pipe sd
    (∀ n, p.buf n = .writing ↔ ∃ d, p.dev = some d ∧ d.buffer = n)
      ∧ (∀ n d, p.buf n = .reading d ↔ ∃ c, (s.comp sd).inFlight = some c ∧ c.source = some (n, d))
      ∧ ¬((∃ d, p.bufA = .waiting d) ∧ ∃ d, p.bufB = .waiting d)
      ∧ (p.dev = none → p.intake = none)

/-- The law of the display port (R103) with DARK exactly where the link is not SYNCED (R102), its bounded lists (R105, R110), the range of
the level (R55), its link OFF while a reset is held (R158), the match run 0 while DISPLAY_PATH is not current (R106), and the clear run 0
while VIEW_STALE is not current or the display is DARK (R111). -/
def DisplayLaw (s : State) : Prop :=
  ∀ sd : Side,
    let d := s.display sd
    (d.state = .dark ↔ d.link ≠ .synced)
      ∧ (d.state = .live → s.faults.viewLoss sd = false)
      ∧ d.echoList.length ≤ 4 ∧ d.outQueue.length ≤ 4
      ∧ d.backlight ≤ 1023 ∧ s.night.target.get sd ≤ 1023
      ∧ (s.power.hold ≠ .released → d.link = .off)
      ∧ (FaultSet.has s.faults.current (.displayPath sd) = false → (s.runs sd).pathMatch = 0)
      ∧ (FaultSet.has s.faults.current (.viewStale sd) = false ∨ d.state = .dark → (s.runs sd).staleClear = 0)

/-- The law of the overlay lists (R84) and of the pan (R83): each id at most once, so at most 8 items; the offset within the room; the main
window within the sensor image. -/
def CompositorLaw (s : State) : Prop :=
  ∀ sd : Side,
    let c := s.comp sd
    (c.overlays.map Overlay.id).Nodup ∧ (∀ o ∈ c.overlays, o.id ≤ 7 ∧ o.ok = true)
      ∧ c.panOffset ≤ panRoom c.act ∧ c.act.mainWindow.x + c.act.mainWindow.w ≤ 1920
      ∧ ∀ w, c.pend.mainWindow = some w → w.x + w.w ≤ 1920

/-- The power state is OFF exactly while a reset is held (R158). -/
def PowerLaw (s : State) : Prop := s.power.state = .off ↔ s.power.hold ≠ .released

/-- All the laws together. -/
def Lawful (s : State) : Prop :=
  SetsLaw s ∧ MaskLaw s ∧ QueueLaw s ∧ ExposureLaw s ∧ GlareLaw s ∧ SlotLaw s ∧ BufferLaw s ∧ DisplayLaw s ∧ CompositorLaw s
    ∧ PowerLaw s

end Sys2Proof.Machine
end

