-- ==== Sys2Proof/Certificates/Slice0/Obligations.lean ====
section
/-! DEFINITION. The statements for the provers. -/

section Statements

open Sys2Proof Sys2Proof.Machine

/-! ### The step -/

/-- A step runs the command at the front of the queue on the state with the queue's rest. -/
def Obligations.StepRunsTheFrontCommand : Prop :=
  ∀ (c : Instr) (rest : List Instr) (s : State), s.pending = c :: rest → step s = exec c { s with pending := rest }

/-- The step of a block with nothing waiting (R159; the model's choices of log entries 1 and 2): nothing while the power state is OFF, one
microsecond where no moment is reached, else one of the events that are due, which are those whose moment the timebase has reached. -/
def Obligations.IdleStepKeepsTheTimebase : Prop :=
  ∀ s : State, s.pending = [] →
    (s.power.state = .off → step s = .next s)
      ∧ (s.power.state ≠ .off → dueNow s = [] → step s = .next { s with timebase := s.timebase + 1 })
      ∧ (s.power.state ≠ .off → ∀ c, dueNow s = [c] → step s = exec c s)
      ∧ (s.power.state ≠ .off → ∀ c d rest, dueNow s = c :: d :: rest →
          ∃ e ∈ dueNow s, step s = exec e { s with raceCount := s.raceCount + 1 })
      ∧ ∀ c, c ∈ dueNow s ↔ MomentReached s c

/-! ### The laws of the manual -/

/-- The state after reset meets every law. -/
def Obligations.ResetMeetsEveryLaw : Prop := Lawful State.reset

/-- R125, R112, R123: every current identity is accrued, no event identity is current, and no class but 6 … 13 is masked. Every step keeps
this. -/
def Obligations.StepKeepsTheFaultSets : Prop :=
  ∀ s t : State, SetsLaw s ∧ MaskLaw s → step s = .next t → SetsLaw t ∧ MaskLaw t

/-- R133: how a report handed to the queue is taken by the number of entries held, each lost report counted; and the law of the queue,
which every step keeps together with ATTN at its level (R137) and the longest detail (R131). -/
def Obligations.StepKeepsTheReportQueue : Prop :=
  (∀ (q : ReportQueue) (threshold : Nat) (e : Entry),
      (q.entries.length ≤ 30 → (q.arrive threshold e).entries = q.entries ++ [e] ∧ (q.arrive threshold e).lost = q.lost)
        ∧ (q.entries.length = 31 →
          (q.arrive threshold e).entries = q.entries ++ [⟨.overrun 1, e.time⟩] ∧ (q.arrive threshold e).lost = satInc q.lost)
        ∧ (∀ (older : List Entry) (n : Nat) (first : Time), q.entries = older ++ [⟨.overrun n, first⟩] → older.length = 31 →
          (q.arrive threshold e).entries = older ++ [⟨.overrun (min (n + 1) 255), first⟩]
            ∧ (q.arrive threshold e).lost = satInc q.lost))
    ∧ ∀ s t : State, QueueLaw s → step s = .next t → QueueLaw t

/-- R39, R40, R47, R68: E within its active limits, the gains within 128 … 1023, every glare gain within 0 … A_max. Every step keeps this.
-/
def Obligations.StepKeepsAdaptationInLimits : Prop :=
  ∀ s t : State, ExposureLaw s ∧ GlareLaw s → step s = .next t → ExposureLaw t ∧ GlareLaw t

/-- R88, R31 to R33, R19: the slots and the development buffers. Every step keeps this. -/
def Obligations.StepKeepsSlotsAndBuffers : Prop :=
  ∀ s t : State, SlotLaw s ∧ BufferLaw s → step s = .next t → SlotLaw t ∧ BufferLaw t

/-- R103, R102, R158, R106, R111: a LIVE display has its link SYNCED and no view-loss fault of its side current, a display is DARK exactly
where its link is not SYNCED, the power state is OFF exactly while a reset is held, and the match run and the clear run of a side are 0
while their identities are not current. Every step keeps this. -/
def Obligations.StepKeepsTheDisplayLaw : Prop :=
  ∀ s t : State, DisplayLaw s ∧ PowerLaw s → step s = .next t → DisplayLaw t ∧ PowerLaw t

/-- R84, R83: the overlay list cannot overflow, and the panned window stays within the sensor image. Every step keeps this. -/
def Obligations.StepKeepsOverlaysAndPan : Prop := ∀ s t : State, CompositorLaw s → step s = .next t → CompositorLaw t

/-- R127: while the lock is on, no command changes the FAULT group or a mask, and nothing but the beginning of a reset turns it off. -/
def Obligations.LockHoldsUntilReset : Prop :=
  ∀ (c : Instr) (s t : State), s.faults.locked = true → exec c s = .next t →
    (t.faults.locked = true ∧ t.faults.group = s.faults.group ∧ t.faults.masks = s.faults.masks)
      ∨ (t.faults.locked = false ∧ t.power.hold ≠ .released)

/-- 00, Block overview: the two copies share no state. An event of one side leaves every side-scoped block of the other as it was. -/
def Obligations.SidesShareNoState : Prop :=
  ∀ (c : Instr) (sd : Side) (s t : State), eventSide c = some sd → exec c s = .next t →
    ∀ p ∈ sideParts (Side.other sd), p.same s t

/-! ### The sensor port -/

/-- R3, R142, R149, R150, R156: an identity record in TRAINING completes the training; in every other link state it is ignored. E is that
of the context store's judgement, which TrainingJudgesTheContext states. -/
def Obligations.IdentityRecordCompletesTraining : Prop :=
  ∀ (sd : Side) (identity : BitVec 64) (revision : Byte) (s : State),
    ((s.port sd).link = .training →
      ∃ t : State, exec (.identityRecord sd identity revision) s = .next t
        ∧ t.port sd =
          { s.port sd with
            link := .streaming
            trained := some ⟨identity, revision⟩
            trainingDeadline := none
            lastCounter := none
            unsettledRun := 0
            lastExpose := some ⟨(t.exposure sd).e, (s.pipe sd).expAct.ratioCode⟩
            outstanding := true
            resendDone := false
            lossDeadline := some (s.timebase + 50000)
            counters := { (s.port sd).counters with trainings := satInc (s.port sd).counters.trainings } }
        ∧ t.sent = s.sent ++ [.stream sd, .expose sd (t.exposure sd).e (s.pipe sd).expAct.ratioCode]
        ∧ (t.context sd).identityCopy = some identity
        ∧ (t.context sd).pendingRestore = none
        ∧ t.power = powerAfterPort sd s
        ∧ t.runs sd =
          { s.runs sd with
            recovery := 0, frozenSame := 0, frozenChange := 0, frozenPrevious := none, limitRun := 0, limitClear := 0,
            saturation := 0, satRelease := 0, obscuredRaise := 0, obscuredClear := 0 }
        ∧ t.faults.current = s.faults.current
        ∧ t.queue = queueAfter s s.timebase (restoreReports sd identity s ++ runningReport sd s)
        ∧ Unchanged [.power, .port sd, .exposure sd, .glare sd, .night, .display sd, .context sd, .runs sd, .faultSets, .queue, .sent]
            s t)
      ∧ ((s.port sd).link ≠ .training → exec (.identityRecord sd identity revision) s = .next s)

/-- R141, R142, R149, R150: what a training completion does to the live adaptation state and to the report queue, by the identity copy and
the pending restore as they stood. That exposure_changes and the controller's other counts stand through an installation, as the equations
on t.exposure say, is the model's choice (DEDUCED, log entry 22). -/
def Obligations.TrainingJudgesTheContext : Prop :=
  ∀ (sd : Side) (identity : BitVec 64) (revision : Byte) (s : State), (s.port sd).link = .training →
    let c := s.context sd
    let x := s.exposure sd
    let g := s.glare sd
    let d := s.display sd
    let lo := (s.pipe sd).expAct.eMin
    let hi := (s.pipe sd).expAct.eMax
    ∃ t : State, exec (.identityRecord sd identity revision) s = .next t
      ∧ (c.pendingRestore = none → (c.identityCopy = none ∨ c.identityCopy = some identity) →
          t.exposure sd = x ∧ t.glare sd = g ∧ t.display sd = d ∧ t.night = s.night
            ∧ t.context sd = { c with identityCopy := some identity }
            ∧ t.faults.accrued = s.faults.accrued
            ∧ t.queue = queueAfter s s.timebase (runningReport sd s))
      ∧ (c.pendingRestore = none → ∀ old, c.identityCopy = some old → old ≠ identity →
          t.exposure sd = { x with e := clampNat 128 lo hi, gainR := 256, gainB := 256 }
            ∧ t.glare sd = { g with grid := List.replicate 128 0, tags := List.replicate 128 false }
            ∧ t.display sd = { d with backlight := min (s.night.target.get sd) 1023 }
            ∧ t.night = s.night
            ∧ t.context sd =
              { c with
                framesAdapted := 0
                identityCopy := some identity
                lastOutcome := .discardedRetained
                retainedDiscards := satInc c.retainedDiscards }
            ∧ t.faults.accrued = s.faults.accrued
            ∧ t.queue = queueAfter s s.timebase (runningReport sd s))
      ∧ (∀ i, c.pendingRestore = some i → i.identity = identity →
          t.exposure sd = { x with e := clampNat i.e lo hi, gainR := clampNat i.gainR 128 1023, gainB := clampNat i.gainB 128 1023 }
            ∧ t.glare sd =
              { g with
                grid := i.grid.map fun v => min v g.act.aMax
                tags := if i.framesAdapted < 30 then List.replicate 128 false else i.tags }
            ∧ t.display sd = { d with backlight := min i.backlight 1023 }
            ∧ t.night =
              (if s.night.sourceSeen then s.night
                else { s.night with state := i.night, dwellCount := 0, dwellTarget := none })
            ∧ t.context sd =
              { c with
                framesAdapted := i.framesAdapted
                committedNight := i.night
                identityCopy := some identity
                pendingRestore := none
                lastOutcome := .applied
                restoresApplied := satInc c.restoresApplied
                retainedDiscards :=
                  if c.identityCopy = none ∨ c.identityCopy = some identity then c.retainedDiscards else satInc c.retainedDiscards }
            ∧ t.faults.accrued = s.faults.accrued
            ∧ t.queue = queueAfter s s.timebase (.contextApplied sd :: runningReport sd s))
      ∧ (∀ i, c.pendingRestore = some i → i.identity ≠ identity →
          t.night = s.night
            ∧ t.context sd =
              { c with
                framesAdapted := if c.identityCopy = none ∨ c.identityCopy = some identity then c.framesAdapted else 0
                identityCopy := some identity
                pendingRestore := none
                lastOutcome := .rejectedIdentity
                restoresRejected := satInc c.restoresRejected
                retainedDiscards :=
                  if c.identityCopy = none ∨ c.identityCopy = some identity then c.retainedDiscards else satInc c.retainedDiscards }
            ∧ t.faults.accrued = FaultSet.insert s.faults.accrued (.contextRejected sd)
            ∧ t.queue = queueAfter s s.timebase
                ((if s.faults.unmasked (.contextRejected sd) then [.faultRaised (.contextRejected sd) false] else [])
                  ++ .contextRejected sd :: runningReport sd s)
            ∧ (c.identityCopy = none ∨ c.identityCopy = some identity →
                t.exposure sd = x ∧ t.glare sd = g ∧ t.display sd = d)
            ∧ (∀ old, c.identityCopy = some old → old ≠ identity →
                t.exposure sd = { x with e := clampNat 128 lo hi, gainR := 256, gainB := 256 }
                  ∧ t.glare sd = { g with grid := List.replicate 128 0, tags := List.replicate 128 false }
                  ∧ t.display sd = { d with backlight := min (s.night.target.get sd) 1023 }))

/-- R4, R15, R36, R103, R156: the training deadline of a port in TRAINING. Development goes on; the view blocks change only where the raise
of SENSOR_LOST moves a LIVE display to BLANKED under a hold_limit of 0, whose frame start within the event is the model's choice (DEDUCED,
log entry 11). -/
def Obligations.TrainingDeadlineFailsTheTraining : Prop :=
  ∀ (sd : Side) (s : State) (now : Time), (s.port sd).link = .training → (s.port sd).trainingDeadline = some now →
    ∃ t : State, exec (.trainingDeadline sd) s = .next t
      ∧ t.timebase = now
      ∧ t.port sd =
        { s.port sd with
          link := .lost
          trainingDeadline := none
          retrainTime := some (now + 200000)
          counters := { (s.port sd).counters with trainingFailures := satInc (s.port sd).counters.trainingFailures } }
      ∧ Raised (.sensorLost sd) s t
      ∧ t.display sd = displayAfterLoss (.sensorLost sd) sd s
      ∧ t.queue = queueAfter s now (raisedReport (.sensorLost sd) s ++ lossMove (.sensorLost sd) sd s ++ runningReport sd s)
      ∧ t.runs sd = { s.runs sd with recovery := 0 }
      ∧ t.power = powerAfterPort sd s
      ∧ t.sent = s.sent
      ∧ ViewAfterLoss (.sensorLost sd) sd s t
      ∧ FaultTouches sd [.timebase, .power, .port sd, .runs sd] s t

/-- R5, R2: the retrain time of a port in LOST while the part is STARTING or RUNNING; in any other state there is none to reach. -/
def Obligations.RetrainTimeBeginsTraining : Prop :=
  ∀ (sd : Side) (s : State),
    (∀ now : Time, (s.port sd).link = .lost → (s.port sd).retrainTime = some now →
        (s.power.state = .starting ∨ s.power.state = .running) →
      exec (.retrainTime sd) s = .next
        { s with
          timebase := now
          ports := s.ports.set sd
            { s.port sd with
              link := .training
              retrainTime := none
              trainingDeadline := some (now + 50000)
              inProgress := none }
          sent := s.sent ++ [.train sd] })
      ∧ ((s.port sd).link ≠ .lost ∨ (s.port sd).retrainTime = none ∨ s.power.state = .parked ∨ s.power.state = .off →
        exec (.retrainTime sd) s = .next s)

/-- R6, R15, R36, R103, R156: the loss deadline of a port in STREAMING. Development goes on; the view blocks change only where the raise of
SENSOR_LOST moves a LIVE display to BLANKED under a hold_limit of 0, whose frame start within the event is the model's choice (DEDUCED, log
entry 11). -/
def Obligations.LossDeadlineLosesTheLink : Prop :=
  ∀ (sd : Side) (s : State) (now : Time), (s.port sd).link = .streaming → (s.port sd).lossDeadline = some now →
    ∃ t : State, exec (.lossDeadline sd) s = .next t
      ∧ t.timebase = now
      ∧ t.port sd =
        { s.port sd with
          link := .lost
          inProgress := none
          lossDeadline := none
          lastCounter := none
          lastExpose := none
          outstanding := false
          resendDone := false
          unsettledRun := 0
          retrainTime := some (now + 200000)
          counters := { (s.port sd).counters with losses := satInc (s.port sd).counters.losses } }
      ∧ Raised (.sensorLost sd) s t
      ∧ t.display sd = displayAfterLoss (.sensorLost sd) sd s
      ∧ t.queue = queueAfter s now (raisedReport (.sensorLost sd) s ++ lossMove (.sensorLost sd) sd s ++ runningReport sd s)
      ∧ t.runs sd = { s.runs sd with recovery := 0 }
      ∧ t.power = powerAfterPort sd s
      ∧ t.sent = s.sent
      ∧ ViewAfterLoss (.sensorLost sd) sd s t
      ∧ FaultTouches sd [.timebase, .power, .port sd, .runs sd] s t

/-- R8, R9, R15, R17: a sensor header; a line that is not its frame's last; a line with no frame in progress or outside STREAMING; and, the
model's choice of log entry 27, a line of other than 1,920 samples, which no link carries. -/
def Obligations.HeadersAndLinesBuildTheFrame : Prop :=
  (∀ (sd : Side) (counter : BitVec 16) (exposure ratio : Byte) (healthy : Bool) (s : State),
    let p := s.port sd
    let h : Header := ⟨counter, exposure, ratio, healthy⟩
    let opened : Port := { p with lastHeader := some h, inProgress := some ⟨h, s.timebase, #[]⟩ }
    (p.link = .streaming → p.inProgress = none →
        exec (.sensorHeader sd counter exposure ratio healthy) s = .next { s with ports := s.ports.set sd opened })
      ∧ (p.link = .streaming → p.inProgress ≠ none →
        exec (.sensorHeader sd counter exposure ratio healthy) s = .next
          { s with
            ports := s.ports.set sd
              { opened with counters := { p.counters with discardIncomplete := satInc p.counters.discardIncomplete } }
            faults := { s.faults with runs := s.faults.runs.set sd { s.runs sd with recovery := 0 } } })
      ∧ (p.link ≠ .streaming → exec (.sensorHeader sd counter exposure ratio healthy) s = .next s))
    ∧ ∀ (sd : Side) (samples : Array Sample) (crc : BitVec 16) (s : State),
      let p := s.port sd
      (samples.size = 1920 → p.link = .streaming → ∀ f, p.inProgress = some f → f.lines.size + 1 ≠ 2160 →
          exec (.sensorLine sd samples crc) s = .next
            { s with
              ports := s.ports.set sd
                { p with inProgress := some (withLine f samples crc), counters := lineCounted p.counters samples crc } })
        ∧ (samples.size = 1920 → (p.link ≠ .streaming ∨ p.inProgress = none) → exec (.sensorLine sd samples crc) s = .next s)
        ∧ (samples.size ≠ 1920 → exec (.sensorLine sd samples crc) s = .fault .malformed)

/-- R11, R15: the 2,160th line of a frame that fails a check. The first check that fails decides, and the recovery run is broken. -/
def Obligations.LastLineDiscardsABadFrame : Prop :=
  ∀ (sd : Side) (samples : Array Sample) (crc : BitVec 16) (s : State) (f : FrameInProgress) (counted : PortCounters),
    let p := s.port sd
    samples.size = 1920 → p.link = .streaming → p.inProgress = some f → f.lines.size = 2159 →
      discardCounted (lineCounted p.counters samples crc) p.lastCounter (withLine f samples crc) = some counted →
      exec (.sensorLine sd samples crc) s = .next
        { s with
          ports := s.ports.set sd { p with inProgress := none, counters := counted }
          faults := { s.faults with runs := s.faults.runs.set sd { s.runs sd with recovery := 0 } } }

/-- R10, R11, R13 to R17, R19, R20, R31: the 2,160th line of a valid frame. The port's record and its judgement with the re-send, the
recovery run and SENSOR_CONTROL, in every case; an IDLE pipeline starts the frame, in a state that keeps the buffer law; where it is
DEVELOPING the frame becomes the intake frame. The order of the two fault reports is the model's choice (DEDUCED, log entry 24), and so is
exposure_changes standing through a change of E by the limits just applied (DEDUCED, log entry 22). -/
def Obligations.LastLineHandsOnAValidFrame : Prop :=
  ∀ (sd : Side) (samples : Array Sample) (crc : BitVec 16) (s : State) (f : FrameInProgress),
    let p := s.port sd
    let q := s.pipe sd
    let g := withLine f samples crc
    let settled : Bool := decide ((p.lastExpose.map fun x => x.e) = some f.header.exposure.toNat)
    let port := portAfterFrame p g (lineCounted p.counters samples crc) settled s.timebase
    let sent := s.sent ++ resent sd p settled
    samples.size = 1920 → p.link = .streaming → p.inProgress = some f → f.lines.size = 2159 →
      discardCounted (lineCounted p.counters samples crc) p.lastCounter g = none →
      ∃ t : State, exec (.sensorLine sd samples crc) s = .next t
        ∧ FrameCounts sd settled s t
        ∧ (q.dev ≠ none →
            t.port sd = port ∧ t.sent = sent
              ∧ t.pipe sd =
                { q with
                  intake := some (handedFrame g settled)
                  intakeDrops := if q.intake = none then q.intakeDrops else satInc q.intakeDrops }
              ∧ Unchanged [.port sd, .pipe sd, .runs sd, .faultSets, .queue, .sent] s t)
        ∧ (BufferLaw s → q.dev = none →
            (∃ d : InDevelopment, (t.pipe sd).dev = some d
                ∧ FrameStarts sd (handedFrame g settled) port sent s t d
                ∧ (q.bufA = .free → d.buffer = .a)
                ∧ (q.bufA ≠ .free → q.bufB = .free → d.buffer = .b)
                ∧ (q.bufA ≠ .free → q.bufB ≠ .free → (q.waiting.map Prod.fst) = some d.buffer)
                ∧ (t.pipe sd).buf d.buffer.other = q.buf d.buffer.other)
              ∧ (t.pipe sd).bufferDrops = (if q.bufA = .free ∨ q.bufB = .free then q.bufferDrops else satInc q.bufferDrops)
              ∧ (t.pipe sd).intake = none ∧ (t.pipe sd).intakeDrops = q.intakeDrops
              ∧ (t.pipe sd).framesDeveloped = q.framesDeveloped ∧ (t.pipe sd).lastSignature = q.lastSignature
              ∧ Unchanged [.port sd, .pipe sd, .exposure sd, .glare sd, .runs sd, .faultSets, .queue, .sent] s t)

/-- R10: each line after repair. A good line stands as received; a bad one takes the nearest good line above it, or, where there is none,
the nearest good line below it. -/
def Obligations.RepairTakesTheNearestGoodLine : Prop :=
  ∀ lines : List Line, (repair lines).length = lines.length
    ∧ ∀ (i : Nat) (l : Line), lines[i]? = some l →
      (l.good = true → (repair lines)[i]? = some l.samples)
        ∧ (l.good = false → ∀ (j : Nat) (m : Line), j < i → lines[j]? = some m → m.good = true →
            (∀ k n, j < k → k < i → lines[k]? = some n → n.good = false) → (repair lines)[i]? = some m.samples)
        ∧ (l.good = false → (∀ k n, k < i → lines[k]? = some n → n.good = false) →
            ∀ (j : Nat) (m : Line), i < j → lines[j]? = some m → m.good = true →
              (∀ k n, i < k → k < j → lines[k]? = some n → n.good = false) → (repair lines)[i]? = some m.samples)

/-! ### Development, statistics, composition -/

/-- R21 to R27: the merge of the two exposures, white balance, the demosaic of every pixel, mirrored at the frame's edges, and luma, with
their ranges; the pixels of a zone, the zone statistics record over them, and the 21 bytes of a record in the content signature. -/
def Obligations.EarlyStagesOfAPixel : Prop :=
  (∀ code lg sh : Nat,
      (lg ≤ 3328 → merge code lg sh = lg)
        ∧ (3584 ≤ lg → merge code lg sh = sh * 2 ^ code)
        ∧ (∀ w, w ≤ 256 → lg = 3328 + w → merge code lg sh = (lg * (256 - w) + sh * 2 ^ code * w) / 256)
        ∧ (code ≤ 8 → lg ≤ 4095 → sh ≤ 4095 → merge code lg sh ≤ 1048320))
    ∧ (∀ (d : Developed) (x y : Nat),
        d.merged x y =
            merge d.frame.ratio.toNat (sampleAt d.frame.long x y - d.latched.blackLevel)
              (sampleAt d.frame.short x y - d.latched.blackLevel)
          ∧ (y % 2 = 0 → x % 2 = 0 → d.balanced x y = min (d.merged x y * d.latched.gainR / 256) 1048575)
          ∧ (y % 2 ≠ x % 2 → d.balanced x y = d.merged x y)
          ∧ (y % 2 = 1 → x % 2 = 1 → d.balanced x y = min (d.merged x y * d.latched.gainB / 256) 1048575))
    ∧ (∀ (v : Nat → Nat → Nat) (x y : Nat), x < 1920 → y < 1080 →
        let left := if x = 0 then 1 else x - 1
        let right := if x = 1919 then 1918 else x + 1
        let up := if y = 0 then 1 else y - 1
        let down := if y = 1079 then 1078 else y + 1
        let beside := v left y + v right y
        let above := v x up + v x down
        let corners := v left up + v right up + v left down + v right down
        (y % 2 = 0 → x % 2 = 0 → demosaic v x y = ⟨v x y, (beside + above) / 4, corners / 4⟩)
          ∧ (y % 2 = 0 → x % 2 = 1 → demosaic v x y = ⟨beside / 2, v x y, above / 2⟩)
          ∧ (y % 2 = 1 → x % 2 = 0 → demosaic v x y = ⟨above / 2, v x y, beside / 2⟩)
          ∧ (y % 2 = 1 → x % 2 = 1 → demosaic v x y = ⟨corners / 4, (beside + above) / 4, v x y⟩))
    ∧ (∀ v : Nat → Nat → Nat,
        demosaic v 0 0 = ⟨v 0 0, (2 * v 1 0 + 2 * v 0 1) / 4, v 1 1⟩
          ∧ demosaic v 1919 1079 = ⟨v 1918 1078, (2 * v 1918 1079 + 2 * v 1919 1078) / 4, v 1919 1079⟩)
    ∧ (∀ (v : Nat → Nat → Nat) (m : Nat), (∀ x y, v x y ≤ m) → ∀ x y,
        (demosaic v x y).r ≤ m ∧ (demosaic v x y).g ≤ m ∧ (demosaic v x y).b ≤ m ∧ luma (demosaic v x y) ≤ m)
    ∧ (∀ (d : Developed) (x y : Nat), x < 1920 → y < 1080 →
        d.colour x y = demosaic d.balanced x y ∧ d.lumaAt x y = luma (d.colour x y))
    ∧ (∀ c : Colour, luma c = (77 * c.r + 150 * c.g + 29 * c.b) / 256)
    ∧ (∀ n x y : Nat, n < 128 →
        ((x, y) ∈ zonePixels n ↔
          120 * (n % 16) ≤ x ∧ x < 120 * (n % 16) + 120 ∧ 135 * (n / 16) ≤ y ∧ y < 135 * (n / 16) + 135))
    ∧ (∀ n : Nat, n < 128 → (zonePixels n).Nodup ∧ (zonePixels n).length = 16200)
    ∧ (∀ (d : Developed) (n : Nat), n < 128 → ∃ z, d.records[n]? = some z
        ∧ z.meanY = ((zonePixels n).map fun p => d.lumaAt p.1 p.2).sum / 16200
        ∧ (∀ p ∈ zonePixels n, d.lumaAt p.1 p.2 ≤ z.maxY ∧ z.minY ≤ d.lumaAt p.1 p.2)
        ∧ (∃ p ∈ zonePixels n, d.lumaAt p.1 p.2 = z.maxY)
        ∧ ((∀ p ∈ zonePixels n, d.lumaAt p.1 p.2 ≤ 1048575) → ∃ p ∈ zonePixels n, d.lumaAt p.1 p.2 = z.minY)
        ∧ z.bright = ((zonePixels n).filter fun p => d.latched.brightThreshold ≤ d.lumaAt p.1 p.2).length
        ∧ (z.flat = true ↔ z.maxY < z.minY + 2048)
        ∧ (let red := (zonePixels n).filter fun p => p.2 % 2 = 0 ∧ p.1 % 2 = 0
          let green := (zonePixels n).filter fun p => p.2 % 2 ≠ p.1 % 2
          let blue := (zonePixels n).filter fun p => p.2 % 2 = 1 ∧ p.1 % 2 = 1
          z.meanR = (red.map fun p => d.merged p.1 p.2).sum / red.length
            ∧ z.meanG = (green.map fun p => d.merged p.1 p.2).sum / green.length
            ∧ z.meanB = (blue.map fun p => d.merged p.1 p.2).sum / blue.length))
    ∧ (∀ d : Developed, d.records.length = 128)
    ∧ (∀ l : List ZoneRecord, contentSignature l = crc32 (l.flatMap ZoneRecord.bytes))
    ∧ ∀ z : ZoneRecord,
      let field (offset k : Nat) : Nat := ((z.bytes.drop offset).take k).foldl (fun n b => 256 * n + b.toNat) 0
      z.bytes.length = 21
        ∧ (z.meanY < 2 ^ 24 → field 0 3 = z.meanY) ∧ (z.maxY < 2 ^ 24 → field 3 3 = z.maxY) ∧ (z.minY < 2 ^ 24 → field 6 3 = z.minY)
        ∧ (z.bright < 2 ^ 16 → field 9 2 = z.bright) ∧ (z.meanR < 2 ^ 24 → field 11 3 = z.meanR)
        ∧ (z.meanG < 2 ^ 24 → field 14 3 = z.meanG) ∧ (z.meanB < 2 ^ 24 → field 17 3 = z.meanB)
        ∧ field 20 1 = (if z.flat then 1 else 0)

/-- R29, R30: the tone of a luma by its segment and fraction of the piecewise logarithm; through a curve that a SET accepts it lies between
two knots and never decreases; the output colour of a pixel divides by its uncompressed luma and is limited to 1023. -/
def Obligations.ToneAndColourOutput : Prop :=
  (∀ (curve : Curve) (y : Nat),
      let u := logL y
      let k := u / 16
      let fr := u % 16
      let knot (i : Nat) : Nat := curve.getD i 0
      tone curve y = knot k + (knot (k + 1) - knot k) * fr / 16)
    ∧
  (∀ curve : Curve, curve.length = 21 → curveOk curve = true →
      (∀ y, y ≤ 1048575 →
          curve.getD (logL y / 16) 0 ≤ tone curve y ∧ tone curve y ≤ curve.getD (logL y / 16 + 1) 0 ∧ tone curve y ≤ 1023)
        ∧ (∀ y z, y ≤ z → z ≤ 1048575 → tone curve y ≤ tone curve z)
        ∧ (∀ k, k < 20 → tone curve (2 ^ k) = curve.getD k 0))
    ∧ (∀ (d : Developed) (x y : Nat),
        let c := d.colour x y
        let l := luma c
        let gain := pixelGain d.latched.grid d.latched.tags x y
        let t := tone d.latched.curve (compress d.latched.knee gain l)
        (l = 0 → d.pixel x y = ⟨0, 0, 0⟩)
          ∧ (l ≠ 0 → d.pixel x y = ⟨min 1023 (c.r * t / l), min 1023 (c.g * t / l), min 1023 (c.b * t / l)⟩)
          ∧ (l ≤ d.latched.knee ∨ gain = 0 → t = tone d.latched.curve l))
    ∧ curveOk ToneGroup.default.day = true ∧ curveOk ToneGroup.default.night = true

/-- R69, R70: the gain of a pixel from its four corner zones, with the band outside the outer centres, the centres themselves, equal
corners, and the bounds of the mix. -/
def Obligations.PixelGainMixesTheCorners : Prop :=
  ∀ (grid : ZoneMap Nat) (tags : ZoneMap Bool),
    let g (c r : Nat) : Nat := if tags.getD (16 * r + c) false then grid.getD (16 * r + c) 0 else 0
    (∀ x y : Nat,
        let xq := max 60 (min x 1860)
        let yq := max 67 (min y 1012)
        let cl := (xq - 60) / 120
        let cr := min (cl + 1) 15
        let rt := (yq - 67) / 135
        let rb := min (rt + 1) 7
        let dx := xq - (120 * cl + 60)
        let dy := yq - (135 * rt + 67)
        pixelGain grid tags x y =
            (g cl rt * (120 - dx) * (135 - dy) + g cr rt * dx * (135 - dy) + g cl rb * (120 - dx) * dy + g cr rb * dx * dy + 8100)
              / 16200
          ∧ dx ≤ 119 ∧ dy ≤ 134 ∧ cl ≤ 15 ∧ rt ≤ 7
          ∧ min (min (g cl rt) (g cr rt)) (min (g cl rb) (g cr rb)) ≤ pixelGain grid tags x y
          ∧ pixelGain grid tags x y ≤ max (max (g cl rt) (g cr rt)) (max (g cl rb) (g cr rb))
          ∧ pixelGain grid tags x y = pixelGain grid tags xq yq)
      ∧ (∀ c r, c < 16 → r < 8 → pixelGain grid tags (120 * c + 60) (135 * r + 67) = g c r)
      ∧ (∀ m x y, (∀ n, n < 128 → grid.getD n 0 ≤ m) → pixelGain grid tags x y ≤ m)
      ∧ ∀ x y, (∀ n, n < 128 → tags.getD n false = false) → pixelGain grid tags x y = 0

/-- R57: the piecewise logarithm. -/
def Obligations.PiecewiseLogarithm : Prop :=
  logL 0 = 0
    ∧ (∀ x p : Nat, 2 ^ p ≤ x → x < 2 ^ (p + 1) →
        (4 ≤ p → logL x = 16 * p + x / 2 ^ (p - 4) % 16) ∧ (p < 4 → logL x = 16 * p + x * 2 ^ (4 - p) % 16))
    ∧ (∀ x, x ≤ 1048575 → logL x ≤ 319)
    ∧ (∀ x y, x ≤ y → logL x ≤ logL y)
    ∧ (∀ x, 1 ≤ x → logL (2 * x) = logL x + 16)
    ∧ (∀ p k j, 4 ≤ p → k < 16 → j < 2 ^ (p - 4) → logL (2 ^ p + k * 2 ^ (p - 4) + j) = 16 * p + k)
    ∧ [0, 1, 2, 3, 5, 4096, 16384, 65536, 146133, 393216, 524288, 1048575].map logL
      = [0, 0, 16, 24, 36, 192, 224, 256, 273, 296, 304, 319]

/-- R58, R71: the attenuation multiplier with the values of its table, and the compressed luma with the law of the compression. -/
def Obligations.AttenuationAndCompression : Prop :=
  (∀ a : Nat, attenM a = (65536 - 2048 * (a % 16)) / 2 ^ (a / 16))
    ∧ (∀ a b : Nat, a < b → b ≤ 96 → attenM b < attenM a)
    ∧ (∀ a : Nat, a ≤ 96 → 1024 ≤ attenM a ∧ attenM a ≤ 65536 ∧ attenM a * 2 ^ (a / 16) = 65536 - 2048 * (a % 16))
    ∧ [0, 15, 16, 24, 26, 32, 40, 64, 95, 96].map attenM
      = [65536, 34816, 32768, 24576, 22528, 16384, 12288, 4096, 1088, 1024]
    ∧ (∀ knee a y : Nat, y ≤ knee → compress knee a y = y)
    ∧ (∀ knee a y : Nat, knee < y → compress knee a y = knee + (y - knee) * attenM a / 65536)
    ∧ (∀ knee a y : Nat, min y knee ≤ compress knee a y ∧ compress knee a y ≤ y)
    ∧ (∀ knee y : Nat, compress knee 0 y = y)
    ∧ ∀ knee a y z : Nat, y ≤ z → compress knee a y ≤ compress knee a z

/-- R63 to R66: the raw target of a zone, 0 in each of its four cases; its spread target from its neighbours in the 16 × 8 grid; both
within 0 … A_max; and the temporal filter, which never passes its target. -/
def Obligations.GlareTargetsSpreadAndFilter : Prop :=
  (∀ (g : GlareGroup) (ns : NightState) (valid : Bool) (z : ZoneRecord),
      (g.enable = false ∨ ns = .day ∨ valid = false ∨ z.bright < g.countThreshold → rawTarget g ns valid z = 0)
        ∧ (g.enable = true → ns ≠ .day → valid = true → g.countThreshold ≤ z.bright →
          (z.maxY ≤ g.knee → rawTarget g ns valid z = 0)
            ∧ (∀ excess, logL z.maxY = logL g.knee + excess → rawTarget g ns valid z = min g.aMax (excess * g.strength / 16)))
        ∧ rawTarget g ns valid z ≤ g.aMax)
    ∧ (∀ n m : Nat, n < 128 →
        (m ∈ neighbours n ↔
          m < 128 ∧ m ≠ n ∧ m % 16 ≤ n % 16 + 1 ∧ n % 16 ≤ m % 16 + 1 ∧ m / 16 ≤ n / 16 + 1 ∧ n / 16 ≤ m / 16 + 1))
    ∧ (∀ (drop : Nat) (raw : ZoneMap Nat) (n : Nat),
      raw.getD n 0 ≤ spreadTarget drop raw n
        ∧ (∀ m ∈ neighbours n, raw.getD m 0 - drop ≤ spreadTarget drop raw n)
        ∧ (spreadTarget drop raw n = raw.getD n 0 ∨ ∃ m ∈ neighbours n, spreadTarget drop raw n = raw.getD m 0 - drop)
        ∧ ∀ aMax, (∀ m, raw.getD m 0 ≤ aMax) → spreadTarget drop raw n ≤ aMax)
    ∧ ∀ (g : GlareGroup) (target gain : Nat),
      (gain < target → filterGain g target gain = min target (gain + g.attack))
        ∧ (target < gain → filterGain g target gain = max target (gain - g.release))
        ∧ (target = gain → filterGain g target gain = gain)
        ∧ min target gain ≤ filterGain g target gain ∧ filterGain g target gain ≤ max target gain
        ∧ (∀ aMax, target ≤ aMax → gain ≤ aMax → filterGain g target gain ≤ aMax)
        ∧ (filterGain .default 40)^[3] 0 = 40 ∧ (filterGain .default 40)^[2] 0 < 40
        ∧ (filterGain .default 0)^[20] 40 = 0 ∧ 0 < (filterGain .default 0)^[19] 40

/-- R27, R61 to R67, R41 to R47, R34, R35, R73, R74, R117 to R120, R12, R140: the statistics completion of the frame in development, with
no save in flight, and what its adaptation commit does: the glare update by the targets and the filter of GlareTargetsSpreadAndFilter,
exposure and white balance, the four fault counts with their reports, what a FROZEN raise under a hold_limit of 0 brings to the view (R79,
R80, R103), and the exposure command; the compositor, the store and the rest of the pipeline stand otherwise. Of a frame whose statistics
are done, or of none, there is no completion. That the frame start of a move to BLANKED falls within the event is the model's choice
(DEDUCED, log entry 11). -/
def Obligations.StatisticsCompletionCommits : Prop :=
  ∀ (sd : Side) (s : State),
    (∀ d : InDevelopment, (s.pipe sd).dev = some d → d.statsDone = false → (s.context sd).save = none →
      let records := d.source.records
      let g := s.glare sd
      ∃ t : State, exec (.statisticsCompletion sd) s = .next t
        ∧ (t.pipe sd).dev = some { d with statsDone := true }
        ∧ (t.pipe sd).lastSignature = some (contentSignature records)
        ∧ t.context sd =
          { s.context sd with framesAdapted := satInc (s.context sd).framesAdapted, committedNight := s.night.state }
        ∧ t.glare sd =
          { g with
            grid := (t.glare sd).grid
            tags := List.replicate 128 true
            lastAttenuated := ((t.glare sd).grid.filter fun v => 0 < v).length
            lastAtMax := ((t.glare sd).grid.filter fun v => 0 < v && v == g.act.aMax).length }
        ∧ (t.glare sd).grid.length = 128
        ∧ (let raw := (List.range 128).map fun n =>
              rawTarget g.act s.night.state (g.tags.getD n false) (records.getD n ⟨0, 0, 0, 0, 0, 0, 0, false⟩)
          ∀ n, n < 128 →
            (t.glare sd).grid.getD n 0 = filterGain g.act (spreadTarget g.act.spreadDrop raw n) (g.grid.getD n 0))
        ∧ metersTo (s.pipe sd).expAct d.source.frame.settled ⟨records, (t.glare sd).grid, g.tags⟩ (s.exposure sd) (t.exposure sd)
        ∧ BalancesTo s.night.state ⟨records, (t.glare sd).grid, g.tags⟩ (s.exposure sd) (t.exposure sd)
        ∧ t.faults.flatZones.get sd = (records.filter ZoneRecord.flat).length
        ∧ CommitCounts sd d.source.frame.settled (contentSignature records) s t
        ∧ (let u := s.setPipe sd
              { s.pipe sd with dev := some { d with statsDone := true }, lastSignature := some (contentSignature records) }
          if FaultSet.has t.faults.current (.frozen sd) = true then ViewAfterLoss (.frozen sd) sd u t else ViewStands sd u t)
        ∧ (if (t.exposure sd).e = (s.exposure sd).e ∨ (s.port sd).link ≠ .streaming then t.sent = s.sent ∧ t.port sd = s.port sd
          else t.sent = s.sent ++ [.expose sd (t.exposure sd).e (s.pipe sd).expAct.ratioCode]
            ∧ t.port sd =
              { s.port sd with
                lastExpose := some ⟨(t.exposure sd).e, (s.pipe sd).expAct.ratioCode⟩
                outstanding := true
                resendDone := false
                unsettledRun := 0 })
        ∧ FaultTouches sd [.port sd, .exposure sd, .glare sd, .runs sd, .flatZones sd, .context sd, .sent] s t)
      ∧ ((s.pipe sd).dev = none → exec (.statisticsCompletion sd) s = .next s)
      ∧ (∀ d, (s.pipe sd).dev = some d → d.statsDone = true → exec (.statisticsCompletion sd) s = .next s)

/-- R32, R19, R20, R31, R79, R80: the development completion of a frame whose statistics are done, in a state that keeps the laws of slots
and buffers: the older waiting frame replaced, an intake frame started in the buffer R31 gives it, and the frame taken at once by an IDLE
compositor; with none in development, or its statistics still to come, there is no completion. That exposure_changes stands through a change
of E by the limits applied at a frame start is the model's choice (DEDUCED, log entry 22). -/
def Obligations.DevelopmentCompletionOffersTheFrame : Prop :=
  ∀ (sd : Side) (s : State),
    let p := s.pipe sd
    (∀ d : InDevelopment, p.dev = some d → d.statsDone = true → SlotLaw s → BufferLaw s →
      let n := d.buffer
      let reading := (s.comp sd).inFlight.bind Composition.source
      ∃ t : State, exec (.developmentCompletion sd) s = .next t
        ∧ (t.pipe sd).framesDeveloped = satInc p.framesDeveloped
        ∧ (t.pipe sd).intake = none ∧ (t.pipe sd).intakeDrops = p.intakeDrops ∧ (t.pipe sd).lastSignature = p.lastSignature
        ∧ (p.intake = none →
            t.pipe sd =
                { p with
                  dev := none
                  framesDeveloped := satInc p.framesDeveloped
                  bufferDrops := if p.waiting = none then p.bufferDrops else satInc p.bufferDrops
                  bufA := (t.pipe sd).bufA
                  bufB := (t.pipe sd).bufB }
              ∧ (t.pipe sd).buf n.other = (if reading = none then .free else p.buf n.other)
              ∧ Unchanged [.pipe sd, .comp sd, .store sd] s t)
        ∧ (∀ f, p.intake = some f →
            (∃ e, (t.pipe sd).dev = some e ∧ FrameStarts sd f (s.port sd) s.sent s t e
                ∧ e.buffer = (if reading = none then n.other else n))
              ∧ ((s.comp sd).inFlight ≠ none → reading = none → (t.pipe sd).buf n = .waiting d.source)
              ∧ (reading ≠ none → (t.pipe sd).buf n.other = p.buf n.other)
              ∧ (t.pipe sd).bufferDrops = (if p.buf n.other = .free then p.bufferDrops else satInc p.bufferDrops))
        ∧ ((s.comp sd).inFlight ≠ none →
            (p.intake = none → (t.pipe sd).buf n = .waiting d.source) ∧ t.comp sd = s.comp sd ∧ t.store sd = s.store sd)
        ∧ ((s.comp sd).inFlight = none →
            (t.pipe sd).buf n = .reading d.source
              ∧ CompositionStarts sd (some (n, d.source)) s t
              ∧ (t.store sd).slots = claimFree (s.store sd).slots
              ∧ t.store sd =
                { s.store sd with slot0 := (t.store sd).slot0, slot1 := (t.store sd).slot1, slot2 := (t.store sd).slot2 })
        ∧ Unchanged [.port sd, .pipe sd, .exposure sd, .glare sd, .comp sd, .store sd, .sent] s t)
      ∧ (p.dev = none → exec (.developmentCompletion sd) s = .next s)
      ∧ (∀ d, p.dev = some d → d.statsDone = false → exec (.developmentCompletion sd) s = .next s)

/-- R87, R89, R33, R79 to R81, R85, R86: the completion of the composition in flight, in a state that keeps the laws of slots and buffers:
its slot record with its raster, and the frame start that follows at once where a frame waits or a blank request stands in BLANKED; an
IDLE compositor has none. And the colour of every pixel of a raster: the start pattern, the fault pattern with its crosses, and the two
fields of a view under its overlays. That a NORMAL composition with no source, which no run reaches, makes the fault pattern is the
model's choice (DEDUCED, log entry 13). -/
def Obligations.CompositionCompletionFillsTheSlot : Prop :=
  (∀ (sd : Side) (s : State),
      (∀ c : Composition, (s.comp sd).inFlight = some c → SlotLaw s → BufferLaw s →
        let x := s.store sd
        let blank := decide ((s.comp sd).blankRequest = true ∧ (s.display sd).state = .blanked)
        ∃ t : State, exec (.compositionCompletion sd) s = .next t
          ∧ (∃ r, (t.store sd).ready = some r ∧ r.kind = c.kind ∧ r.number = c.source.map (fun x => x.2.frame.number)
              ∧ r.capture = c.source.map (fun x => x.2.frame.capture) ∧ r.signature = displaySignature r.raster
              ∧ (∀ n d, c.source = some (n, d) → c.kind = .normal → r.raster = .view d c.latched)
              ∧ (c.source = none ∨ c.kind = .faultPattern → r.raster = .fault (c.latched.palette.getD 0 ⟨0, 0, 0⟩))
              ∧ (let done := x.slots.map fun y => match y with | .filling => Slot.ready r | .ready _ => .free | z => z
                (t.store sd).slots = (if (s.pipe sd).waiting = none ∧ blank = false then done else claimFree done)))
          ∧ (t.store sd).shown = x.shown
          ∧ t.store sd =
            { x with
              slot0 := (t.store sd).slot0
              slot1 := (t.store sd).slot1
              slot2 := (t.store sd).slot2
              slotDrops := if x.ready = none then x.slotDrops else satInc x.slotDrops
              normalComposed := if c.kind = .normal then satInc x.normalComposed else x.normalComposed
              faultComposed := if c.kind = .normal then x.faultComposed else satInc x.faultComposed }
          ∧ t.pipe sd = { s.pipe sd with bufA := (t.pipe sd).bufA, bufB := (t.pipe sd).bufB }
          ∧ (∀ n d, c.source = some (n, d) → (t.pipe sd).buf n = .free)
          ∧ (∀ n, c.source.map Prod.fst ≠ some n → (s.pipe sd).waiting.map Prod.fst ≠ some n →
            (t.pipe sd).buf n = (s.pipe sd).buf n)
          ∧ (∀ w, (s.pipe sd).waiting = some w → CompositionStarts sd (some w) s t ∧ (t.pipe sd).buf w.1 = .reading w.2)
          ∧ ((s.pipe sd).waiting = none → blank = true → CompositionStarts sd none s t)
          ∧ ((s.pipe sd).waiting = none → blank = false → t.comp sd = { s.comp sd with inFlight := none })
          ∧ Unchanged [.pipe sd, .comp sd, .store sd] s t)
        ∧ ((s.comp sd).inFlight = none → exec (.compositionCompletion sd) s = .next s))
    ∧ (∀ row col : Nat, Raster.pixel .start row col = ⟨64, 64, 64⟩)
    ∧ (∀ (cross : Colour) (row col : Nat), row < 1280 → col < 800 →
        let th := if row < 960 then 960 else 320
        let ty : Int := if row < 960 then row else row - 960
        let down : Int := col * th / 800
        let up : Int := (799 - col) * th / 800
        Raster.pixel (.fault cross) row col =
          (if (-2 ≤ ty - down ∧ ty - down ≤ 2) ∨ (-2 ≤ ty - up ∧ ty - up ≤ 2) then cross else ⟨256, 256, 256⟩))
    ∧ ∀ (d : Developed) (v : LatchedView) (row col : Nat), row < 1280 → col < 800 →
      let on (o : Overlay) : Prop := o.row ≤ row ∧ row < o.row + o.thickness ∧ o.x0 ≤ col ∧ col ≤ o.x1
      let tx := if v.mirror then 799 - col else col
      (∀ before o after, v.overlays = before ++ o :: after → on o → (∀ a ∈ after, ¬on a) →
          Raster.pixel (.view d v) row col = v.palette.getD o.palette ⟨0, 0, 0⟩)
        ∧ ((∀ o ∈ v.overlays, ¬on o) → row < 960 →
          Raster.pixel (.view d v) row col =
            d.pixel (v.pannedX + tx * v.mainWindow.w / 800) (v.mainWindow.y + row * v.mainWindow.h / 960))
        ∧ ((∀ o ∈ v.overlays, ¬on o) → 960 ≤ row →
          Raster.pixel (.view d v) row col =
            d.pixel (v.wideWindow.x + tx * v.wideWindow.w / 800) (v.wideWindow.y + (row - 960) * v.wideWindow.h / 320))

/-- R79, R82, R83: one pan step at a compositor frame start, within the columns to the right of the main window or to its left by
pan_direction; the overlay list, the blank request and the composition in flight stand. -/
def Obligations.PanMovesWithinTheRoom : Prop :=
  ∀ (sd : Side) (angle : Option Int) (c : Compositor),
    let d := c.startFrame sd angle
    let window := d.act.mainWindow
    let room := if d.act.plusX = true then 1920 - window.x - window.w else window.x
    let kept := min c.panOffset room
    d = { c with act := d.act, pend := .empty, panTarget := d.panTarget, panOffset := d.panOffset, angleFresh := angle.isSome }
      ∧ d.act = c.pend.apply c.act
      ∧ panRoom d.act = room
      ∧ d.panTarget ≤ room ∧ d.panOffset ≤ room
      ∧ (angle = none → d.panTarget = 0)
      ∧ (∀ a, angle = some a → (sd = .left → a ≤ 0 → d.panTarget = 0) ∧ (sd = .right → 0 ≤ a → d.panTarget = 0))
      ∧ (∀ a, angle = some a → ((sd = .left ∧ 0 < a) ∨ (sd = .right ∧ a < 0)) →
          d.panTarget = min (min d.act.panMax (a.natAbs * d.act.panGain / 10)) room)
      ∧ (d.panTarget ≤ kept → d.panOffset = max d.panTarget (kept - d.act.panRate))
      ∧ (kept ≤ d.panTarget → d.panOffset = min d.panTarget (kept + d.act.panRate))

/-! ### The night state controller -/

/-- R49, R50, R52, R54, R55: one evaluation, while the timer runs, and none else: the source, the transitions open by it with the dwell
counted toward each, the targets and the ramp; the night state moves one state at a time, and only at the evaluation that brings the dwell
count of that move to the active dwell. -/
def Obligations.NightEvaluationRetargetsAndRamps : Prop :=
  (∀ s : State,
      (∀ now : Time, (s.power.state = .starting ∨ s.power.state = .running) → s.night.nextEval = some now →
        ∃ t : State, exec .nightEvaluation s = .next t
          ∧ t.timebase = now
          ∧ t.night.nextEval = some (now + 100000)
          ∧ t.night.nightAct = s.night.nightPend.apply s.night.nightAct ∧ t.night.nightPend = .empty
          ∧ t.night.backAct = s.night.backPend.apply s.night.backAct ∧ t.night.backPend = .empty
          ∧ (∀ v, s.freshLux = some v →
              t.night.lastSource = .lux ∧ t.night.sourceSeen = true ∧ Dwells (.lux v) s.night t.night)
          ∧ (s.freshLux = none → ((s.port .left).link = .streaming ∨ (s.port .right).link = .streaming) →
              t.night.lastSource = .exposure ∧ t.night.sourceSeen = true
                ∧ Dwells (.exposure
                    (if (s.port .left).link ≠ .streaming then (s.exposure .right).e
                      else if (s.port .right).link ≠ .streaming then (s.exposure .left).e
                      else ((s.exposure .left).e + (s.exposure .right).e) / 2)) s.night t.night)
          ∧ (s.freshLux = none → (s.port .left).link ≠ .streaming → (s.port .right).link ≠ .streaming →
              t.night.lastSource = .none ∧ t.night.sourceSeen = s.night.sourceSeen ∧ t.night.state = s.night.state
                ∧ t.night.dwellCount = 0)
          ∧ (∀ sd, ((t.night.target.get sd : Nat) : Int) =
              max 0 (min ((match t.night.state with
                  | .day => (t.night.backAct.day : Int)
                  | .dusk => t.night.backAct.dusk
                  | .night => t.night.backAct.night)
                + (match sd with | .left => t.night.backAct.trimLeft | .right => t.night.backAct.trimRight)) 1023))
          ∧ (∀ sd, t.display sd =
              { s.display sd with
                backlight :=
                  if (s.display sd).backlight < t.night.target.get sd then
                    min (t.night.target.get sd) ((s.display sd).backlight + 32)
                  else max (t.night.target.get sd) ((s.display sd).backlight - 32) })
          ∧ Unchanged [.timebase, .night, .display .left, .display .right] s t)
        ∧ (s.power.state = .parked ∨ s.power.state = .off ∨ s.night.nextEval = none → exec .nightEvaluation s = .next s))
    ∧ ∀ s t : State, exec .nightEvaluation s = .next t → t.night.state ≠ s.night.state →
      t.night.dwellCount = 0 ∧ t.night.dwellTarget = none
        ∧ (s.night.state = .dusk ∨ t.night.state = .dusk)
        ∧ (t.night.nightAct.dwell ≤ 1
          ∨ (s.night.dwellTarget = some t.night.state ∧ t.night.nightAct.dwell ≤ s.night.dwellCount + 1))

/-! ### The display port -/

/-- R99, R98: the wake deadline with a retry left, the fourth deadline, and the wake retry time; each only where it can be reached. -/
def Obligations.WakeDeadlinesRetryThenFail : Prop :=
  ∀ (sd : Side) (s : State),
    let d := s.display sd
    (∀ now, d.link = .waking → d.wakeDeadline = some now → 1 ≤ d.wakeAttempt → d.wakeAttempt < 4 →
        exec (.wakeDeadline sd) s = .next
          { s with
            timebase := now
            displays := s.displays.set sd (burst d (d.wakeAttempt + 1) now)
            sent := s.sent ++ [.wakeBurst sd] })
      ∧ (∀ now, d.link = .waking → d.wakeDeadline = some now → d.wakeAttempt = 4 →
        ∃ t : State, exec (.wakeDeadline sd) s = .next t
          ∧ t.timebase = now
          ∧ t.display sd =
            { d with
              link := .hibernate
              wakeAttempt := 0
              wakeDeadline := none
              wakeRetry := some (now + 1000000)
              counters := { d.counters with wakeFailures := satInc d.counters.wakeFailures } }
          ∧ Raised (.displayLink sd) s t
          ∧ t.queue = queueAfter s now (raisedReport (.displayLink sd) s)
          ∧ Unchanged [.timebase, .display sd, .faultSets, .queue] s t)
      ∧ (d.link ≠ .waking ∨ d.wakeDeadline = none → exec (.wakeDeadline sd) s = .next s)
      ∧ (∀ now, d.link = .hibernate → d.wakeRetry = some now → s.wanted sd = true →
        exec (.wakeRetryTime sd) s = .next
          { s with timebase := now, displays := s.displays.set sd (burst d 1 now), sent := s.sent ++ [.wakeBurst sd] })
      ∧ (d.link ≠ .hibernate ∨ d.wakeRetry = none ∨ s.wanted sd = false → exec (.wakeRetryTime sd) s = .next s)

/-- R100, R102, R109, R110: READY, call, a status and a reply from a monitor, each in the link states where it acts and where it is
ignored; and, the model's choice of log entry 27, a reply of more than 32 bytes, which no link carries. That a call in HIBERNATE while the
display is not wanted is only counted, against R100's closing sentences, is the model's choice (DEDUCED, log entry 40). -/
def Obligations.MonitorMessagesActByTheLinkState : Prop :=
  (∀ (sd : Side) (identity : BitVec 32) (s : State),
      let d := s.display sd
      (d.link = .waking → d.state = .dark →
          ∃ t : State, exec (.ready sd identity) s = .next t
            ∧ t.display sd =
              { d with
                identity := some identity
                wakeDeadline := none
                wakeAttempt := 0
                echoList := []
                silence := 0
                nextScan := some (s.timebase + 16667)
                link := .synced
                state := .priming }
            ∧ t.runs sd = { s.runs sd with pathMatch := 0, staleClear := 0 }
            ∧ Cleared (.displayLink sd) s t
            ∧ t.queue = queueAfter s s.timebase (clearedReport (.displayLink sd) s ++ [.displayChanged sd .dark .priming])
            ∧ Unchanged [.display sd, .runs sd, .faultSets, .queue] s t)
        ∧ (d.link ≠ .waking → exec (.ready sd identity) s = .next s)
        ∧ (d.link = .hibernate → s.wanted sd = true →
          exec (.call sd) s = .next
            { s with displays := s.displays.set sd (burst d 1 s.timebase), sent := s.sent ++ [.wakeBurst sd] })
        ∧ (d.link = .hibernate → s.wanted sd = false →
          exec (.call sd) s = .next
            { s with
              displays := s.displays.set sd { d with counters := { d.counters with callsIgnored := satInc d.counters.callsIgnored } } })
        ∧ (d.link ≠ .hibernate → exec (.call sd) s = .next s))
    ∧ ∀ (sd : Side) (fault : Bool) (temperature : Byte) (bytes : List Byte) (s : State),
      let d := s.display sd
      (d.link = .synced →
          ∃ t : State, exec (.monitorStatus sd fault temperature) s = .next t
            ∧ t.display sd = { d with lastStatus := some ⟨fault, temperature, s.timebase⟩ }
            ∧ (fault = true → Raised (.monitorFault sd) s t
                ∧ t.queue = queueAfter s s.timebase (raisedReport (.monitorFault sd) s))
            ∧ (fault = false → Cleared (.monitorFault sd) s t
                ∧ t.queue = queueAfter s s.timebase (clearedReport (.monitorFault sd) s))
            ∧ Unchanged [.display sd, .faultSets, .queue] s t)
        ∧ (d.link = .synced → bytes.length ≤ 32 →
          exec (.monitorReply sd bytes) s = .next
            { s with
              displays := s.displays.set sd
                { d with counters := { d.counters with monitorReplies := satInc d.counters.monitorReplies } }
              queue := queueAfter s s.timebase [.monitorReply sd bytes] })
        ∧ (d.link ≠ .synced → exec (.monitorStatus sd fault temperature) s = .next s)
        ∧ (d.link ≠ .synced → bytes.length ≤ 32 → exec (.monitorReply sd bytes) s = .next s)
        ∧ (32 < bytes.length → exec (.monitorReply sd bytes) s = .fault .malformed)

/-- R102, R104, R80, R90 to R92: the display state judged at step 1 of a scan start, with the hold count, which a move to LIVE sets to 0,
the report and the blank request with the frame start it may bring; and what the frame store then hands for that state and what becomes of
the store, whole: in LIVE a NORMAL slot that is READY becomes SHOWN and the old SHOWN slot FREE, else the SHOWN slot is repeated; in
BLANKED only a fault pattern is handed; in HOLD the SHOWN slot; in PRIMING nothing. ScanStartSendsOneFrame states the scan start that
begins with this judgement. That a HOLD scan with nothing SHOWN counts nothing (DESIGN CHOICE, log entry 12), and that the frame start of
a move to BLANKED falls within the event, before step 2 (DEDUCED, log entry 11), are the model's choices. -/
def Obligations.ScanJudgesThenHandsASlot : Prop :=
  (∀ (sd : Side) (s : State),
      let old := (s.display sd).state
      let new := ((judgeDisplay sd s).display sd).state
      let loss := s.faults.viewLoss sd
      let count := (s.display sd).holdCount
      let limit := s.faults.group.holdLimit
      (old = .dark → new = .dark) ∧ (old = .live → new = .live)
        ∧ (old = .priming →
            new = (if loss then .blanked else if ((s.store sd).ready.map SlotRecord.kind) = some .normal then .live else .priming))
        ∧ (old = .hold → new = (if loss then (if limit ≤ count then .blanked else .hold) else .live))
        ∧ (old = .blanked → new = (if loss then .blanked else .live))
        ∧ (judgeDisplay sd s).display sd =
          { s.display sd with
            state := new
            holdCount := if new = old then (if old = .hold then count + 1 else count) else if new = .live then 0 else count }
        ∧ (judgeDisplay sd s).queue = (if new = old then s.queue else queueAfter s s.timebase [.displayChanged sd old new])
        ∧ (if new = .blanked ∧ old ≠ .blanked then BlankStarts sd true s (judgeDisplay sd s)
          else ViewStands sd
            (s.setComp sd { s.comp sd with blankRequest := if old = .blanked ∧ new ≠ .blanked then false else (s.comp sd).blankRequest })
            (judgeDisplay sd s))
        ∧ Unchanged [.display sd, .queue, .comp sd, .pipe sd, .store sd] s (judgeDisplay sd s))
    ∧ ∀ x : FrameStore,
      let drop : FrameStore :=
        { x with
          slot0 := match x.slot0 with | .ready _ => .free | y => y
          slot1 := match x.slot1 with | .ready _ => .free | y => y
          slot2 := match x.slot2 with | .ready _ => .free | y => y
          slotDrops := satInc x.slotDrops }
      let taken (y : Slot) : Slot := match y with | .ready r => .shown r | .shown _ => .free | z => z
      let shows : FrameStore := { x with slot0 := taken x.slot0, slot1 := taken x.slot1, slot2 := taken x.slot2 }
      let repeats (y : FrameStore) : FrameStore := { y with scanRepeats := satInc x.scanRepeats }
      let empty (y : FrameStore) : FrameStore := { y with emptyScans := satInc x.emptyScans }
      let kind := x.ready.map SlotRecord.kind
      let rest := if kind = none then x else drop
      (kind = some .normal → x.scan .live = ⟨shows, x.ready⟩)
        ∧ (kind ≠ some .normal → x.scan .live = (if x.shown = none then ⟨empty rest, none⟩ else ⟨repeats rest, x.shown⟩))
        ∧ (kind = some .faultPattern → x.scan .blanked = ⟨shows, x.ready⟩)
        ∧ (kind ≠ some .faultPattern → x.scan .blanked =
            (if (x.shown.map SlotRecord.kind) = some .faultPattern then ⟨repeats rest, x.shown⟩ else ⟨empty rest, none⟩))
        ∧ (x.shown ≠ none → x.scan .hold = ⟨repeats x, x.shown⟩)
        ∧ (x.shown = none → x.scan .hold = ⟨x, none⟩)
        ∧ x.scan .priming = (if kind = some .faultPattern then ⟨drop, none⟩ else ⟨x, none⟩)

/-- R105, R103, R107, R108, R111: a scan start of a SYNCED link completes. The display state is judged first, as ScanJudgesThenHandsASlot
states; one frame is sent with the level in its header, the raster handed for that state or the start pattern, then the oldest outbound
entry, and nothing else but the sleep-and-wake where the echo silence count reaches 6 with DISPLAY_PATH not current. VIEW_STALE is judged by
the age of the slot handed, and its raise moves a LIVE display. The display port, the view blocks and the report queue are stated whole.
That the frame start of a move to BLANKED falls within the event, at step 1 before step 2 and at step 6 after it, is the model's choice
(DEDUCED, log entry 11). -/
def Obligations.ScanStartSendsOneFrame : Prop :=
  ∀ (sd : Side) (s : State),
    (∀ now : Time, (s.display sd).link = .synced → (s.display sd).nextScan = some now →
      let judged := judgeDisplay sd { s with timebase := now }
      let d := judged.display sd
      let scanned := (judged.store sd).scan d.state
      let handed := scanned.handed
      let path := FaultSet.has s.faults.current (.displayPath sd)
      let silent : Bool := decide (5 ≤ d.silence)
      let resync : Bool := silent && !path
      let stale := (staleAfter sd handed now judged).1
      let moves : Bool := stale && !FaultSet.has s.faults.current (.viewStale sd) && decide (d.state = .live)
      let limit := s.faults.group.holdLimit
      let state : DisplayState := if moves then (if 0 < limit then .hold else .blanked) else d.state
      let shown : Display :=
        { d with
          state := state
          holdCount := if state = .hold ∧ moves then 0 else d.holdCount
          nextScan := some (now + 16667)
          echoList :=
            (if 4 ≤ d.echoList.length then d.echoList.drop 1 else d.echoList) ++ [(handed.map SlotRecord.signature).getD startSignature]
          outQueue := d.outQueue.drop 1
          silence := if silent then 0 else d.silence + 1
          lastAge := ((handed.bind SlotRecord.capture).map (now - ·) <|> d.lastAge)
          counters :=
            { d.counters with
              framesSent := satInc d.counters.framesSent
              startPatternsSent := if handed = none then satInc d.counters.startPatternsSent else d.counters.startPatternsSent
              echoSilences := if silent then satInc d.counters.echoSilences else d.counters.echoSilences } }
      let presented := judged.setStore sd scanned.store
      ∃ t : State, exec (.scanStart sd) s = .next t
        ∧ t.timebase = now
        ∧ t.display sd =
          (if resync then { resynced shown now with holdCount := if state = .dark then shown.holdCount else 0 } else shown)
        ∧ t.sent =
            s.sent ++ [.frame sd d.backlight ((handed.map SlotRecord.raster).getD .start)]
              ++ (d.outQueue.take 1).map (Sent.passThrough sd) ++ (if resync then [.sleepNotice sd, .wakeBurst sd] else [])
        ∧ (if moves ∧ limit = 0 then BlankStarts sd (!resync) presented t
          else ViewStands sd
            (presented.setComp sd
              { presented.comp sd with
                blankRequest := if resync = true ∧ d.state = .blanked then false else (presented.comp sd).blankRequest }) t)
        ∧ FaultSet.has t.faults.current (.viewStale sd) = stale
        ∧ FaultSet.has t.faults.current (.displayPath sd) = (path || silent)
        ∧ FaultsMove [.viewStale sd, .displayPath sd] s t
        ∧ t.runs sd =
          { s.runs sd with
            staleClear := if resync = true ∧ state ≠ .dark then 0 else (staleAfter sd handed now judged).2
            pathMatch := if silent = true ∧ path = true then 0 else (s.runs sd).pathMatch }
        ∧ t.queue = queueAfter judged now
            (movedReport (.viewStale sd) judged t ++ (if moves then [.displayChanged sd .live state] else [])
              ++ (if resync then raisedReport (.displayPath sd) judged else [])
              ++ (if resync = true ∧ state ≠ .dark then [.displayChanged sd state .dark] else []))
        ∧ FaultTouches sd [.timebase, .sent, .runs sd] s t)
      ∧ ((s.display sd).link ≠ .synced ∨ (s.display sd).nextScan = none → exec (.scanStart sd) s = .next s)

/-- R104, R107, R108: the two judgements of a scan start taken on their own (log entries 7 and 8): HOLD at its limit, and an echo silence
count of 6; with nothing to judge neither has an effect. That the frame start of the move to BLANKED falls within the event is the model's
choice too (DEDUCED, log entry 11). -/
def Obligations.HoldExpiryAndEchoSilenceAct : Prop :=
  ∀ (sd : Side) (s : State),
    let d := s.display sd
    (d.state = .hold → s.faults.viewLoss sd = true → s.faults.group.holdLimit ≤ d.holdCount →
        ∃ t : State, exec (.holdExpiry sd) s = .next t
          ∧ t.timebase = d.nextScan.getD s.timebase
          ∧ t.display sd = { d with state := .blanked }
          ∧ t.queue = queueAfter s (d.nextScan.getD s.timebase) [.displayChanged sd .hold .blanked]
          ∧ BlankStarts sd true s t
          ∧ Unchanged [.timebase, .display sd, .queue, .comp sd, .pipe sd, .store sd] s t)
      ∧ (d.state ≠ .hold ∨ s.faults.viewLoss sd = false ∨ d.holdCount < s.faults.group.holdLimit →
        exec (.holdExpiry sd) s = .next s)
      ∧ (d.link = .synced → 6 ≤ d.silence → FaultSet.has s.faults.current (.displayPath sd) = true →
        exec (.echoSilence sd) s = .next
          { s with
            displays := s.displays.set sd
              { d with silence := 0, counters := { d.counters with echoSilences := satInc d.counters.echoSilences } }
            faults := { s.faults with runs := s.faults.runs.set sd { s.runs sd with pathMatch := 0 } } })
      ∧ (d.link = .synced → d.state ≠ .dark → 6 ≤ d.silence → FaultSet.has s.faults.current (.displayPath sd) = false →
        ∃ t : State, exec (.echoSilence sd) s = .next t
          ∧ t.display sd =
            resynced
              { d with silence := 0, counters := { d.counters with echoSilences := satInc d.counters.echoSilences } } s.timebase
          ∧ Raised (.displayPath sd) s t
          ∧ t.queue = queueAfter s s.timebase (raisedReport (.displayPath sd) s ++ [.displayChanged sd d.state .dark])
          ∧ t.sent = s.sent ++ [.sleepNotice sd, .wakeBurst sd]
          ∧ t.runs sd = { s.runs sd with staleClear := 0 }
          ∧ t.comp sd =
            { s.comp sd with blankRequest := if d.state = .blanked then false else (s.comp sd).blankRequest }
          ∧ Unchanged [.display sd, .comp sd, .runs sd, .faultSets, .queue, .sent] s t)
      ∧ (d.link ≠ .synced ∨ d.silence < 6 → exec (.echoSilence sd) s = .next s)

/-- R106, R108, R102, R80, R111: an echo that matches, one that does not, and one outside SYNCED. -/
def Obligations.EchoIsMatchedAgainstTheList : Prop :=
  ∀ (sd : Side) (x : BitVec 32) (s : State),
    let d := s.display sd
    let r := s.runs sd
    let path := FaultSet.has s.faults.current (.displayPath sd)
    (d.link = .synced → ∀ before after : List (BitVec 32), d.echoList = before ++ x :: after → x ∉ before →
        ∃ t : State, exec (.echo sd x) s = .next t
          ∧ t.display sd =
            { d with
              silence := 0
              echoList := after
              counters := { d.counters with echoesMatched := satInc d.counters.echoesMatched } }
          ∧ (path = false → Unchanged [.display sd] s t)
          ∧ (path = true → r.pathMatch < 2 →
              t.runs sd = { r with pathMatch := r.pathMatch + 1 } ∧ Unchanged [.display sd, .runs sd] s t)
          ∧ (path = true → 2 ≤ r.pathMatch →
              t.runs sd = { r with pathMatch := 0 } ∧ Cleared (.displayPath sd) s t
                ∧ t.queue = queueAfter s s.timebase (clearedReport (.displayPath sd) s)
                ∧ Unchanged [.display sd, .runs sd, .faultSets, .queue] s t))
      ∧ (d.link = .synced → x ∉ d.echoList →
        let missed : Display :=
          { d with silence := 0, counters := { d.counters with echoMismatches := satInc d.counters.echoMismatches } }
        (path = true →
            exec (.echo sd x) s = .next
              { s with
                displays := s.displays.set sd missed
                faults := { s.faults with runs := s.faults.runs.set sd { r with pathMatch := 0 } } })
          ∧ (path = false → d.state ≠ .dark →
            ∃ t : State, exec (.echo sd x) s = .next t
              ∧ t.display sd = resynced missed s.timebase
              ∧ Raised (.displayPath sd) s t
              ∧ t.queue = queueAfter s s.timebase (raisedReport (.displayPath sd) s ++ [.displayChanged sd d.state .dark])
              ∧ t.sent = s.sent ++ [.sleepNotice sd, .wakeBurst sd]
              ∧ t.runs sd = { r with pathMatch := 0, staleClear := 0 }
              ∧ t.comp sd =
                { s.comp sd with blankRequest := if d.state = .blanked then false else (s.comp sd).blankRequest }
              ∧ Unchanged [.display sd, .comp sd, .runs sd, .faultSets, .queue, .sent] s t))
      ∧ (d.link ≠ .synced → exec (.echo sd x) s = .next s)

/-! ### Timers -/

/-- R121: a vehicle expiry moment: it becomes absent, and the condition is judged but in PARKED. -/
def Obligations.VehicleExpiryMakesTheFieldStale : Prop :=
  ∀ (field : VehicleField) (s : State),
    (∀ now : Time, s.faults.expiry field = some now →
      ∃ t : State, exec (.vehicleExpiry field) s = .next t
        ∧ t.timebase = now
        ∧ t.faults.expiry field = none
        ∧ (∀ other, other ≠ field → t.faults.expiry other = s.faults.expiry other)
        ∧ ((s.power.state = .starting ∨ s.power.state = .running) →
            (field = .angle → s.link.angle ≠ none → Raised .vehicleInputStale s t
              ∧ t.queue = queueAfter s now (raisedReport .vehicleInputStale s))
              ∧ (field = .lux → s.link.lux ≠ none → Raised .vehicleInputStale s t
                ∧ t.queue = queueAfter s now (raisedReport .vehicleInputStale s)))
        ∧ ((s.power.state = .parked ∨ s.power.state = .off) → Unchanged [.timebase, .expiries] s t)
        ∧ Unchanged [.timebase, .expiries, .faultSets, .queue] s t)
      ∧ (s.faults.expiry field = none → exec (.vehicleExpiry field) s = .next s)

/-- R145, R146, R143: the two ends of a save in flight. At its deadline the reply, under the tag kept by busy, carries the image of the
live state as it stands with settled flag 0; at the side's next commit, with settled flag 1, the image of the live state `u` that the same
commit leaves where no save is in flight. Where reset_after is on, the whole default state is installed in that state, with the EXPOSE of a
changed E. That exposure_changes stands through the installation is the model's choice (DEDUCED, log entry 22). -/
def Obligations.SettledSavesEnd : Prop :=
  (∀ (sd : Side) (s : State),
      (∀ (v : Save) (tag : Byte), (s.context sd).save = some v → s.link.busy = some tag →
        let i := takeImage sd false v.resetAfter s
        ∃ t : State, exec (.saveDeadline sd) s = .next t
          ∧ ImageOf sd false v.resetAfter i s
          ∧ SaveEnds sd v.resetAfter tag (i.bytes sd) { s with timebase := v.deadline } t)
        ∧ ((s.context sd).save = none → exec (.saveDeadline sd) s = .next s))
    ∧ ∀ (sd : Side) (s u : State) (d : InDevelopment) (v : Save) (tag : Byte),
      (s.pipe sd).dev = some d → d.statsDone = false → (s.context sd).save = some v → s.link.busy = some tag →
        exec (.statisticsCompletion sd) (s.setContext sd { s.context sd with save := none }) = .next u →
        let i := takeImage sd true v.resetAfter u
        ∃ t : State, exec (.statisticsCompletion sd) s = .next t
          ∧ ImageOf sd true v.resetAfter i u
          ∧ SaveEnds sd v.resetAfter tag (i.bytes sd) u t

/-! ### Power and resets -/

/-- R155, R154: the two wake sources. A move of the WAKE line, which is not seen while a reset is held; and the POWER request with argument
WAKE, from PARKED and when already awake. That LEFT's TRAIN and wake burst stand before RIGHT's is the model's choice (DESIGN CHOICE, log
entry 38). -/
def Obligations.WakeSourcesWakeAParkedPart : Prop :=
  (∀ (high : Bool) (s : State),
      (s.power.state = .parked → high = true → s.power.wakeLevel = false →
          ∃ t : State, exec (.wakeLineEdge high) s = .next t
            ∧ startedFrom s t
            ∧ t.power = { s.power with state := .starting, lastWake := some .line, wakeLevel := true }
            ∧ Unchanged startParts s t)
        ∧ (s.power.state = .parked → high = false ∨ s.power.wakeLevel = true →
          exec (.wakeLineEdge high) s = .next { s with power := { s.power with wakeLevel := high } })
        ∧ (s.power.state = .starting ∨ s.power.state = .running →
          exec (.wakeLineEdge high) s = .next { s with power := { s.power with wakeLevel := high } })
        ∧ (s.power.state = .off → exec (.wakeLineEdge high) s = .next s))
    ∧ ∀ (head : ReqHead) (s : State), Reaches 13 head [1] s →
      ∃ t : State, exec (.powerWake head) s = .next t
        ∧ (s.power.state = .parked →
            Replied .power head 0 [0] s t ∧ startedFrom s t
              ∧ t.power = { s.power with state := .starting, lastWake := some .request }
              ∧ AnswerTouches startParts s t)
        ∧ (s.power.state = .starting ∨ s.power.state = .running →
            Replied .power head 0 [1] s t ∧ Unchanged answerParts s t)

/-- R158, R140: the beginnings of the resets. A loss of supply holds the part in OFF from every state and ends the retention; supply
applied begins a power-on; nRST asserted begins a part reset, or marks the one being held; the
POWER request with argument RESET begins a part reset and forms no reply. That every value stands already while the reset is held is the
model's choice (DEDUCED, log entry 14), and so is what SUPPLY_ON and NRST_ASSERTED do during other holds (DEDUCED, log entry 26). -/
def Obligations.ResetsHoldThePartInOff : Prop :=
  ∀ s : State,
    (∃ t : State, exec .supplyLoss s = .next t ∧ HeldInReset s t ∧ Forgotten t ∧ t.power.hold = .noSupply)
      ∧ (s.power.hold = .noSupply →
        ∃ t : State, exec .supplyOn s = .next t ∧ HeldInReset s t ∧ Forgotten t ∧ t.power.hold = .powerOn)
      ∧ (s.power.hold ≠ .noSupply → exec .supplyOn s = .next s)
      ∧ (s.power.hold = .released →
        ∃ t : State, exec .nrstAsserted s = .next t ∧ HeldInReset s t ∧ Retained s t ∧ t.power.hold = .partReset true)
      ∧ (∀ pin, s.power.hold = .partReset pin →
        exec .nrstAsserted s = .next { s with power := { s.power with hold := .partReset true } })
      ∧ (s.power.hold = .noSupply ∨ s.power.hold = .powerOn → exec .nrstAsserted s = .next s)
      ∧ ∀ head : ReqHead, Reaches 13 head [2] s →
        ∃ t : State, exec (.powerReset head) s = .next t
          ∧ HeldInReset s t ∧ Retained s t ∧ t.power.hold = .partReset false ∧ t.link.holder = none

/-- R153, R138, R154, R158: the end of the reset being held, from a state that such a hold leaves; with none held there is no end.
That LEFT's TRAIN and wake burst stand before RIGHT's is the model's choice (DESIGN CHOICE, log entry 38). -/
def Obligations.ResetEndLeavesOff : Prop :=
  ∀ (autostart wakeHigh : Bool) (s : State),
    (∀ cause : RestartCause,
        ((s.power.hold = .powerOn ∧ cause = .powerOn) ∨ (s.power.hold = .partReset true ∧ cause = .resetPin)
          ∨ (s.power.hold = .partReset false ∧ cause = .resetRequest)) →
        s.power.state = .off → HeldInReset s s →
        ∃ t : State, exec (.resetEnd autostart wakeHigh) s = .next t
          ∧ t.timebase = 0
          ∧ t.restartCause = cause
          ∧ t.queue.attn = true
          ∧ t.queue.lost = 0
          ∧ t.power.hold = .released ∧ t.power.wakeLevel = wakeHigh ∧ t.power.autostart = autostart
          ∧ (autostart = false →
              t.power.state = .parked ∧ t.power.lastWake = none
                ∧ t.queue.entries = [⟨.restarted cause, 0⟩, ⟨.powerChanged .off .parked, 0⟩]
                ∧ (∀ sd, t.display sd = { s.display sd with link := .hibernate })
                ∧ Unchanged [.timebase, .power, .restartCause, .queue, .display .left, .display .right] s t)
          ∧ (autostart = true →
              t.power.state = .starting ∧ t.power.lastWake = some .autostart
                ∧ t.queue.entries = [⟨.restarted cause, 0⟩, ⟨.powerChanged .off .starting, 0⟩]
                ∧ t.night = { s.night with nextEval := some 100000 }
                ∧ t.faults.current = 0 ∧ t.faults.accrued = s.faults.accrued
                ∧ (∀ sd, t.port sd = { s.port sd with link := .training, trainingDeadline := some 50000 }
                    ∧ t.display sd = burst { s.display sd with link := .hibernate } 1 0)
                ∧ t.sent = s.sent ++ [.train .left, .train .right, .wakeBurst .left, .wakeBurst .right]
                ∧ Unchanged (.timebase :: .restartCause :: startParts) s t))
      ∧ (s.power.hold = .released ∨ s.power.hold = .noSupply → exec (.resetEnd autostart wakeHigh) s = .next s)

/-! ### The host link -/

/-- R162, R163: a release of chip select, the partial deadline, and the link reset. That the row LINK_RESET is the link reset whatever the
0xFF run held stands at is the model's choice (DESIGN CHOICE, log entry 16). -/
def Obligations.PartialRequestsEnd : Prop :=
  ∀ s : State,
    (∀ now, s.link.partialDeadline = some now →
        ∃ t : State, exec .partialDeadline s = .next t ∧ t.timebase = now ∧ t.link = partialDropped s.link
          ∧ LinkErrorRaised s t now
          ∧ Unchanged [.timebase, .receiver, .linkCounters, .faultSets, .queue] s t)
      ∧ (s.link.partialDeadline = none → exec .partialDeadline s = .next s)
      ∧ (s.power.state ≠ .off →
        exec (.chipSelectRelease false) s = .next { s with link := { s.link with ffRun := 0, reading := none } })
      ∧ (s.power.state ≠ .off → s.link.partialReq = none →
        exec (.chipSelectRelease true) s = .next { s with link := { s.link with ffRun := 0, reading := none } })
      ∧ (s.power.state ≠ .off → s.link.partialReq ≠ none →
        ∃ t : State, exec (.chipSelectRelease true) s = .next t
          ∧ t.link = partialDropped { s.link with ffRun := 0, reading := none }
          ∧ LinkErrorRaised s t s.timebase
          ∧ Unchanged [.receiver, .linkCounters, .faultSets, .queue] s t)
      ∧ (s.power.state ≠ .off →
        exec .linkReset s = .next
          { s with
            link :=
              { s.link with
                partialReq := none
                partialDeadline := none
                ffRun := 0
                reading := none
                holder := none
                busyDrop := false
                counters := { s.link.counters with linkResets := satInc s.link.counters.linkResets } } })
      ∧ (s.power.state = .off →
        exec .linkReset s = .next s ∧ exec (.chipSelectRelease true) s = .next s ∧ exec (.chipSelectRelease false) s = .next s)

/-- R165: a read transaction opened outside a request and its end, the holder emptied only where it still holds the reply shifted out. A
0xC3 inside a request is a data byte (R161), during a shift-out it is not interpreted, and while OFF it is not received; the last byte of a
request and an overlong length are LastByteCompletesTheRequest's. That the row READ_TRANSACTION is the byte 0xC3, and that the row
REPLY_READ shifts out every byte still to come in one command, are the model's choices (DESIGN CHOICE, log entry 28). -/
def Obligations.ReadsShiftOutTheHeldReply : Prop :=
  ∀ s : State,
    (Receives 0xC3 s → s.link.partialReq = none → ∀ r, s.link.holder = some r →
        exec .readTransaction s = .next
          { s with link := { s.link with ffRun := 0, reading := some ⟨r.bytes, 0, true⟩ } })
      ∧ (Receives 0xC3 s → s.link.partialReq = none → s.link.holder = none →
        exec .readTransaction s = .next
          { s with
            link :=
              { s.link with
                ffRun := 0
                reading := some ⟨(⟨0, 0, 9, summaryAfter s s, []⟩ : Reply).bytes, 0, false⟩
                counters := { s.link.counters with emptyReads := satInc s.link.counters.emptyReads } } })
      ∧ (Receives 0xC3 s → ∀ p, s.link.partialReq = some p → p.length < 4 →
        exec .readTransaction s = .next { s with link := { s.link with ffRun := 0, partialReq := some (p ++ [0xC3]) } })
      ∧ (Receives 0xC3 s → ∀ p high, s.link.partialReq = some p → p.length = 4 → p[3]? = some high → 256 * high.toNat + 0xC3 ≤ 1024 →
        exec .readTransaction s = .next { s with link := { s.link with ffRun := 0, partialReq := some (p ++ [0xC3]) } })
      ∧ (Receives 0xC3 s → ∀ p high low, s.link.partialReq = some p → p[3]? = some high → p[4]? = some low →
        p.length + 1 < 256 * high.toNat + low.toNat + 7 →
        exec .readTransaction s = .next { s with link := { s.link with ffRun := 0, partialReq := some (p ++ [0xC3]) } })
      ∧ (s.power.state ≠ .off → ∀ r, s.link.reading = some r → r.pos + 1 < r.bytes.length →
        exec .readTransaction s = .next
          { s with
            link := { s.link with reading := some { r with pos := r.pos + 1 } }
            sent := s.sent ++ [.hostBytes ((r.bytes.drop r.pos).take 1)] })
      ∧ (s.power.state ≠ .off → ∀ r, s.link.reading = some r → r.bytes.length = r.pos + 1 →
        exec .readTransaction s = exec .replyRead s)
      ∧ (s.power.state = .off → exec .readTransaction s = .next s)
      ∧ exec .readTransaction s = exec (.requestByte 0xC3) s
      ∧ (∀ r, s.link.reading = some r →
        exec .replyRead s = .next
          { s with
            link := { s.link with reading := none, holder := if r.held then none else s.link.holder }
            sent := s.sent ++ [.hostBytes (r.bytes.drop r.pos)] })
      ∧ (s.link.reading = none → exec .replyRead s = .next s)

/-- R161, R163, R165: one byte, by what the interface holds; inside a request each byte up to the last, the fifth with a length of at most
1,024 (the last byte and an overlong length are LastByteCompletesTheRequest's). That the 64th 0xFF is a link reset and nothing else, where
it is a request's last byte too, is the model's choice (DESIGN CHOICE, log entry 15). -/
def Obligations.EachByteIsTakenByTheLink : Prop :=
  ∀ (b : Byte) (s : State),
    (s.power.state = .off → exec (.requestByte b) s = .next s)
      ∧ (s.power.state ≠ .off → s.link.reading = none → b = 0xFF → 63 ≤ s.link.ffRun →
        exec (.requestByte b) s = exec .linkReset s)
      ∧ (s.power.state ≠ .off → ∀ r, s.link.reading = some r → r.pos + 1 < r.bytes.length →
        exec (.requestByte b) s = .next
          { s with
            link := { s.link with reading := some { r with pos := r.pos + 1 } }
            sent := s.sent ++ [.hostBytes ((r.bytes.drop r.pos).take 1)] })
      ∧ (s.power.state ≠ .off → ∀ r, s.link.reading = some r → r.bytes.length = r.pos + 1 →
        exec (.requestByte b) s = exec .replyRead s)
      ∧ (Receives b s → s.link.partialReq = none → b = 0xA5 →
        exec (.requestByte b) s = .next
          { s with
            link :=
              { s.link with ffRun := 0, partialReq := some [0xA5], partialDeadline := some (s.timebase + 50000) } })
      ∧ (Receives b s → s.link.partialReq = none → b = 0xC3 → exec (.requestByte b) s = exec .readTransaction s)
      ∧ (Receives b s → s.link.partialReq = none → b ≠ 0xA5 → b ≠ 0xC3 →
        exec (.requestByte b) s = .next { s with link := { s.link with ffRun := runAfter b s } })
      ∧ (Receives b s → ∀ p, s.link.partialReq = some p → p.length < 4 →
        exec (.requestByte b) s = .next { s with link := { s.link with ffRun := runAfter b s, partialReq := some (p ++ [b]) } })
      ∧ (Receives b s → ∀ p high, s.link.partialReq = some p → p.length = 4 → p[3]? = some high → 256 * high.toNat + b.toNat ≤ 1024 →
        exec (.requestByte b) s = .next { s with link := { s.link with ffRun := runAfter b s, partialReq := some (p ++ [b]) } })
      ∧ (Receives b s → ∀ p high low, s.link.partialReq = some p → p[3]? = some high → p[4]? = some low →
        p.length + 1 < 256 * high.toNat + low.toNat + 7 →
        exec (.requestByte b) s = .next { s with link := { s.link with ffRun := runAfter b s, partialReq := some (p ++ [b]) } })

/-- R161, R164, R170: the last byte of a frame given byte by byte has the effect of the request command with that kind, tag, payload and
CRC, and the low length byte of an overlong one that of OVERLONG_REQUEST; the last byte of a frame that no row spells is answered
BAD_LENGTH for a length unsuited to its kind and BAD_ARGUMENT for an argument code without a meaning; what a length above 1,024 brings; a
kind that is none of the fourteen; and, the model's choice of log entry 27, command operands that no link carries. A request row as its
completing byte is the model's choice (DESIGN CHOICE, log entry 17). For the overlong reply, that requests_refused stands and that the
raise comes before the reply's summary are the model's choice (DEDUCED, log entries 33 and 35); so is an unknown CTX_SAVE mode refused
with BAD_ARGUMENT before the identity copy is looked at (DEDUCED, log entry 31). -/
def Obligations.LastByteCompletesTheRequest : Prop :=
  (∀ (c : Instr) (kind : Byte) (head : ReqHead) (payload : List Byte) (s : State),
      requestOf c = some (kind, head, payload) → c.wellFormed = true →
      s.link.partialReq =
        some ([0xA5, kind, head.tag] ++ be16 (BitVec.ofNat 16 payload.length) ++ payload ++ [(head.crc >>> 8).setWidth 8]) →
      exec (.requestByte (lowByte head.crc)) s = exec c s)
    ∧ (∀ (kind tag : Byte) (length : BitVec 16) (s : State), 1024 < length.toNat →
      s.link.partialReq = some [0xA5, kind, tag, (length >>> 8).setWidth 8] →
      exec (.requestByte (lowByte length)) s = exec (.overlongRequest kind tag length) s)
    ∧ (∀ (kind : Byte) (head : ReqHead) (payload : List Byte) (s : State),
      payload.length ≤ 1024 → Reaches kind head payload s →
      s.link.partialReq =
        some ([0xA5, kind, head.tag] ++ be16 (BitVec.ofNat 16 payload.length) ++ payload ++ [(head.crc >>> 8).setWidth 8]) →
      (LengthUnsuited kind payload.length →
          ∃ t : State, exec (.requestByte (lowByte head.crc)) s = .next t
            ∧ Answered false true kind head 6 [] s t ∧ Unchanged answerParts s t)
        ∧ (ArgumentUnknown kind payload →
          ∃ t : State, exec (.requestByte (lowByte head.crc)) s = .next t
            ∧ Answered true true kind head 7 [] s t ∧ Unchanged answerParts s t))
    ∧ (∀ (head : ReqHead) (kind : Byte) (payload : List Byte) (s : State),
      knownKind kind = false → payload.length ≤ 1024 → Reaches kind head payload s →
      ∃ t : State, exec (.unknownKindRequest head kind payload) s = .next t
        ∧ Answered false true kind head 5 [] s t ∧ Unchanged answerParts s t)
    ∧ ∀ (kind tag : Byte) (length : BitVec 16) (s : State),
      (1024 < length.toNat → Receives (lowByte length) s → s.link.busy = none →
          ∃ t : State, exec (.overlongRequest kind tag length) s = .next t
            ∧ t.link =
              { s.link with
                partialReq := none
                partialDeadline := none
                ffRun := runAfter (lowByte length) s
                holder := some ⟨kind, tag, 6, summaryAfter s t, []⟩
                busyDrop := false
                counters := { s.link.counters with framingErrors := satInc s.link.counters.framingErrors } }
            ∧ LinkErrorRaised s t s.timebase
            ∧ AnswerTouches [.faultSets, .queue] s t)
        ∧ (1024 < length.toNat → Receives (lowByte length) s → s.link.busy ≠ none →
          exec (.overlongRequest kind tag length) s = .next
            { s with
              link :=
                { s.link with
                  partialReq := none
                  partialDeadline := none
                  ffRun := runAfter (lowByte length) s
                  busyDrop := true
                  counters := { s.link.counters with busyDrops := satInc s.link.counters.busyDrops } } })
        ∧ (length.toNat ≤ 1024 → exec (.overlongRequest kind tag length) s = .fault .malformed)
        ∧ ∀ c : Instr, c.wellFormed = false → exec c s = .fault .malformed

/-- R164 steps 1 and 2, R161, R163, R158: every request command where it is not judged by its kind: while a reset is held, while a reply
is shifted out, where its last byte is the 64th 0xFF, while busy, and with a wrong CRC. That a last byte which is the 64th 0xFF is a link
reset and the request is not judged is the model's choice (DESIGN CHOICE, log entry 15), and so is a request row as its completing byte
(DESIGN CHOICE, log entry 17); that a BAD_CRC counts in crc_failures alone, and that the raise comes before its
reply's summary, are DEDUCED (log entries 33 and 35). -/
def Obligations.RequestsMeetTheLinkFirst : Prop :=
  ∀ (c : Instr) (kind : Byte) (head : ReqHead) (payload : List Byte) (s : State),
    requestOf c = some (kind, head, payload) → c.wellFormed = true →
    (s.power.state = .off → exec c s = .next s)
      ∧ (s.power.state ≠ .off → s.link.reading ≠ none → exec c s = exec (.requestByte (lowByte head.crc)) s)
      ∧ (s.power.state ≠ .off → s.link.reading = none → lowByte head.crc = 0xFF → 63 ≤ s.link.ffRun →
        exec c s = exec .linkReset s)
      ∧ (Receives (lowByte head.crc) s → s.link.busy ≠ none →
        exec c s = .next
          { s with
            link :=
              { s.link with
                partialReq := none
                partialDeadline := none
                ffRun := runAfter (lowByte head.crc) s
                busyDrop := true
                counters := { s.link.counters with busyDrops := satInc s.link.counters.busyDrops } } })
      ∧ (Receives (lowByte head.crc) s → s.link.busy = none → head.crc ≠ requestCrc kind head.tag payload →
        ∃ t : State, exec c s = .next t
          ∧ t.link =
            { s.link with
              partialReq := none
              partialDeadline := none
              ffRun := runAfter (lowByte head.crc) s
              holder := some ⟨0, 0, 8, summaryAfter s t, []⟩
              busyDrop := false
              counters := { s.link.counters with crcFailures := satInc s.link.counters.crcFailures } }
          ∧ LinkErrorRaised s t s.timebase
          ∧ AnswerTouches [.faultSets, .queue] s t)

/-! ### Requests -/

/-- R166, R170: IDENT, STATUS and GET reply with what they read and change nothing else. That STATUS shows the link before its own reply is
placed, with the request counted as taken and its partial request absent, is the model's choice (DEDUCED, log entry 32); so are the order
and widths of its values and of the sections that Layout lays out (log entry 18), the bytes without a code (log entries 19, 20 and 36), the
tone curve in use (log entry 23) and the runs that section 15 does not repeat (log entry 37). -/
def Obligations.ReadingRequestsChangeNothing : Prop :=
  ∀ (head : ReqHead) (s : State),
    (Reaches 1 head [] s →
        let side (sd : Side) : List Byte :=
          BitVec.ofNat 8 ((if (s.port sd).trained = none then 0 else 1) + (if (s.display sd).identity = none then 0 else 2))
            :: (match (s.port sd).trained with
                | some x => be64 x.identity ++ [x.revision]
                | none => List.replicate 9 0)
            ++ (match (s.display sd).identity with
                | some m => be32 m
                | none => List.replicate 4 0)
        let payload : List Byte := [0x0A, 0x71, 0x00, 0x42, 1] ++ side .left ++ side .right
        ∃ t : State, exec (.ident head) s = .next t ∧ payload.length = 33
          ∧ Replied .ident head 0 payload s t ∧ Unchanged answerParts s t)
      ∧ (Reaches 4 head [] s →
        ∃ t u : State, exec (.status head) s = .next t
          ∧ u.link =
            { s.link with
              partialReq := none
              partialDeadline := none
              ffRun := runAfter (lowByte head.crc) s
              counters := countersAfter true false s.link.counters }
          ∧ Unchanged [.receiver, .linkCounters] s u
          ∧ Replied .status head 0 (Layout.status u) s t ∧ Unchanged answerParts s t)
      ∧ ∀ group scope : Byte, Reaches 3 head [group, scope] s →
        ∃ t : State, exec (.get head group scope) s = .next t
          ∧ Unchanged answerParts s t
          ∧ (group.toNat ≤ 3 → 1 < scope.toNat → Refused .get head 7 [] s t)
          ∧ (4 ≤ group.toNat → group.toNat ≤ 6 → scope ≠ 2 → Refused .get head 7 [] s t)
          ∧ (6 < group.toNat → Refused .get head 7 [] s t)
          ∧ (∀ sd, scope.toNat = sideCode sd →
              (group = 0 → Replied .get head 0 (group :: scope :: Layout.exposureGroup (s.pipe sd).expAct) s t)
                ∧ (group = 1 → Replied .get head 0 (group :: scope :: Layout.glareGroup (s.glare sd).act) s t)
                ∧ (group = 2 → Replied .get head 0 (group :: scope :: Layout.toneGroup (s.pipe sd).toneAct) s t)
                ∧ (group = 3 → Replied .get head 0 (group :: scope :: Layout.viewGroup (s.comp sd).act) s t))
          ∧ (scope = 2 →
              (group = 4 → Replied .get head 0 (group :: scope :: Layout.nightGroup s.night.nightAct) s t)
                ∧ (group = 5 → Replied .get head 0 (group :: scope :: Layout.backlightGroup s.night.backAct) s t)
                ∧ (group = 6 → Replied .get head 0 (group :: scope :: Layout.faultGroup s.faults.group) s t))

/-- R167, R170, R122, R127: when a SET is refused, by its group, its mask, its length, its scope, and for the FAULT group by the lock; else
what each group's write leaves in the pending copy of each side named, or in the active FAULT group with the effects of the fields written,
and the reply: its result code and its masks, at scope BOTH the union of the sides' masks. What is written where is stated of the fields by
SetFieldsFollowTheirKind. But for the FAULT group nothing else changes; that group's SET touches its expiry moments, VEHICLE_INPUT_STALE,
the displays in HOLD with what their move to BLANKED brings, and the queue. The order in which arguments are judged, LEFT before RIGHT at
hold_limit, the frame start of a move to BLANKED falling within the request, and the effects of a FAULT field written with the value it has
are the model's choice (DEDUCED, log entries 31, 25, 11 and 41). -/
def Obligations.SetIsJudgedThenWritten : Prop :=
  ∀ (head : ReqHead) (group scope : Byte) (mask : BitVec 32) (values : List Byte) (s : State),
    6 + values.length ≤ 1024 → Reaches 2 head (setPayload group scope mask values) s →
    ∃ t : State, exec (.set head group scope mask values) s = .next t
      ∧ (6 < group.toNat → Answered false true 2 head 7 [] s t ∧ Unchanged answerParts s t)
      ∧ ∀ g, groupOf group = some g →
        let f : Fields := ⟨splitFields g.widths 0 mask values⟩
        (2 ^ g.widths.length ≤ mask.toNat → Answered false true 2 head 7 [] s t ∧ Unchanged answerParts s t)
          ∧ (mask.toNat < 2 ^ g.widths.length → values.length ≠ presentWidth g.widths 0 mask →
            Answered false true 2 head 6 [] s t ∧ Unchanged answerParts s t)
          ∧ (mask.toNat < 2 ^ g.widths.length → values.length = presentWidth g.widths 0 mask →
            ((g = .exposure ∨ g = .glare ∨ g = .tone ∨ g = .view) → scope = 2 ∨ 3 < scope.toNat → Refused .set head 7 [] s t)
              ∧ ((g = .night ∨ g = .backlight ∨ g = .fault) → scope ≠ 2 → Refused .set head 7 [] s t)
              ∧ (g = .fault → scope = 2 → s.faults.locked = true → Refused .set head 3 [] s t)
              ∧ (g = .fault → scope = 2 → s.faults.locked = false →
                t.faults.group = (writeFault f s.faults.group).value
                  ∧ FaultFieldsApplied f s t
                  ∧ Replied .set head (if (writeFault f s.faults.group).clamped = 0 then 0 else 1)
                      (be32 (writeFault f s.faults.group).clamped ++ be32 0) s t
                  ∧ AnswerTouches (.faultGroup :: .expiries :: bothFaultParts) s t)
              ∧ (g = .night → scope = 2 →
                let w := writeNight f s.night.nightAct s.night.nightPend
                t.night = { s.night with nightPend := w.value }
                  ∧ Replied .set head (if w.clamped = 0 ∧ w.ignored = 0 then 0 else 1) (be32 w.clamped ++ be32 w.ignored) s t
                  ∧ AnswerTouches [.night] s t)
              ∧ (g = .backlight → scope = 2 →
                let w := writeBacklight f s.night.backPend
                t.night = { s.night with backPend := w.value }
                  ∧ Replied .set head (if w.clamped = 0 ∧ w.ignored = 0 then 0 else 1) (be32 w.clamped ++ be32 w.ignored) s t
                  ∧ AnswerTouches [.night] s t)
              ∧ (∀ sd, scope.toNat = sideCode sd ∨ scope = 3 →
                (g = .exposure →
                  let w := writeExposure f (s.pipe sd).expAct (s.pipe sd).expPend
                  t.pipe sd = { s.pipe sd with expPend := w.value }
                    ∧ (scope ≠ 3 → Replied .set head (if w.clamped = 0 ∧ w.ignored = 0 then 0 else 1)
                        (be32 w.clamped ++ be32 w.ignored) s t)
                    ∧ AnswerTouches [.pipe .left, .pipe .right] s t)
                  ∧ (g = .glare →
                    let w := writeGlare f (s.glare sd).pend
                    t.glare sd = { s.glare sd with pend := w.value }
                      ∧ (scope ≠ 3 → Replied .set head (if w.clamped = 0 ∧ w.ignored = 0 then 0 else 1)
                          (be32 w.clamped ++ be32 w.ignored) s t)
                      ∧ AnswerTouches [.glare .left, .glare .right] s t)
                  ∧ (g = .tone →
                    let w := writeTone f (s.pipe sd).tonePend
                    t.pipe sd = { s.pipe sd with tonePend := w.value }
                      ∧ (scope ≠ 3 → Replied .set head (if w.clamped = 0 ∧ w.ignored = 0 then 0 else 1)
                          (be32 w.clamped ++ be32 w.ignored) s t)
                      ∧ AnswerTouches [.pipe .left, .pipe .right] s t)
                  ∧ (g = .view →
                    let w := writeView f (s.comp sd).pend
                    t.comp sd = { s.comp sd with pend := w.value }
                      ∧ (scope ≠ 3 → Replied .set head (if w.clamped = 0 ∧ w.ignored = 0 then 0 else 1)
                          (be32 w.clamped ++ be32 w.ignored) s t)
                      ∧ AnswerTouches [.comp .left, .comp .right] s t))
              ∧ (scope = 3 → g.isSideGroup = true →
                let masks (sd : Side) : BitVec 32 × BitVec 32 :=
                  match g with
                  | .exposure => let w := writeExposure f (s.pipe sd).expAct (s.pipe sd).expPend; (w.clamped, w.ignored)
                  | .glare => let w := writeGlare f (s.glare sd).pend; (w.clamped, w.ignored)
                  | .tone => let w := writeTone f (s.pipe sd).tonePend; (w.clamped, w.ignored)
                  | _ => let w := writeView f (s.comp sd).pend; (w.clamped, w.ignored)
                let clamped := (masks .left).1 ||| (masks .right).1
                let ignored := (masks .left).2 ||| (masks .right).2
                Replied .set head (if clamped = 0 ∧ ignored = 0 then 0 else 1) (be32 clamped ++ be32 ignored) s t)
              ∧ (∀ sd, g.isSideGroup = true → scope.toNat = sideCode sd → ∀ p ∈ sideParts (Side.other sd), p.same s t))

/-- R167, R20, R29, R40, R51, R54, R60, R78, R122: what a SET leaves of every field of every group, by the field's kind, with its bit in the
clamped or the ignored mask: a numeric field is clamped to its range, a choice field outside its codes and a structural field that fails its
check are ignored and kept, and an absent field stands. The metering map is taken as it is, and of the palette each channel is clamped to
1023. -/
def Obligations.SetFieldsFollowTheirKind : Prop :=
  ∀ f : Fields,
    (∀ (act : ExposureGroup) (p : ExposurePending),
        let w := writeExposure f act p
        let lo := (f.num 2).getD (p.eMin.getD act.eMin)
        let hi := (f.num 3).getD (p.eMax.getD act.eMax)
        NumericField 0 512 (f.num 0) p.blackLevel w.value.blackLevel (w.clamped.getLsbD 0)
          ∧ NumericField 4 8 (f.num 1) p.ratioCode w.value.ratioCode (w.clamped.getLsbD 1)
          ∧ (lo ≤ hi → w.value.eMin.getD act.eMin = lo ∧ w.value.eMax.getD act.eMax = hi ∧ w.ignored = 0)
          ∧ (hi < lo → w.value.eMin = p.eMin ∧ w.value.eMax = p.eMax
              ∧ w.ignored.getLsbD 2 = (f.num 2).isSome ∧ w.ignored.getLsbD 3 = (f.num 3).isSome)
          ∧ NumericField 1024 262143 (f.num 4) p.tTarget w.value.tTarget (w.clamped.getLsbD 4)
          ∧ NumericField 1 16 (f.num 5) p.aeGain w.value.aeGain (w.clamped.getLsbD 5)
          ∧ NumericField 1 32 (f.num 6) p.maxStep w.value.maxStep (w.clamped.getLsbD 6)
          ∧ (f.raw 7 = none → w.value.metering = p.metering)
          ∧ (∀ b, f.raw 7 = some b → ∃ m, w.value.metering = some m ∧ m.length = 128
              ∧ ∀ n, n < 128 → m.getD n 0 = (b.getD (n / 4) 0).toNat / 2 ^ (6 - 2 * (n % 4)) % 4))
      ∧ (∀ p : GlarePending,
        let w := writeGlare f p
        ChoiceField (f.num 0) p.enable w.value.enable (w.ignored.getLsbD 0)
          ∧ NumericField 4096 524288 (f.num 1) p.knee w.value.knee (w.clamped.getLsbD 1)
          ∧ NumericField 0 32 (f.num 2) p.strength w.value.strength (w.clamped.getLsbD 2)
          ∧ NumericField 0 96 (f.num 3) p.aMax w.value.aMax (w.clamped.getLsbD 3)
          ∧ NumericField 0 32 (f.num 4) p.spreadDrop w.value.spreadDrop (w.clamped.getLsbD 4)
          ∧ NumericField 1 96 (f.num 5) p.attack w.value.attack (w.clamped.getLsbD 5)
          ∧ NumericField 1 16 (f.num 6) p.release w.value.release (w.clamped.getLsbD 6)
          ∧ NumericField 65536 1048575 (f.num 7) p.brightThreshold w.value.brightThreshold (w.clamped.getLsbD 7)
          ∧ NumericField 1 16200 (f.num 8) p.countThreshold w.value.countThreshold (w.clamped.getLsbD 8))
      ∧ (∀ p : TonePending,
        let w := writeTone f p
        (f.raw 0 = none → w.value.day = p.day ∧ w.ignored.getLsbD 0 = false)
          ∧ (f.raw 1 = none → w.value.night = p.night ∧ w.ignored.getLsbD 1 = false)
          ∧ (∀ b, f.raw 0 = some b →
            (curveOk (words16 21 b) = true → w.value.day = some (words16 21 b) ∧ w.ignored.getLsbD 0 = false)
              ∧ (curveOk (words16 21 b) = false → w.value.day = p.day ∧ w.ignored.getLsbD 0 = true))
          ∧ (∀ b, f.raw 1 = some b →
            (curveOk (words16 21 b) = true → w.value.night = some (words16 21 b) ∧ w.ignored.getLsbD 1 = false)
              ∧ (curveOk (words16 21 b) = false → w.value.night = p.night ∧ w.ignored.getLsbD 1 = true)))
      ∧ (∀ p : ViewPending,
        let w := writeView f p
        (f.raw 0 = none → w.value.mainWindow = p.mainWindow ∧ w.ignored.getLsbD 0 = false)
          ∧ (∀ b, f.raw 0 = some b →
            let v := windowOf b
            (v.x + v.w ≤ 1920 → v.y + v.h ≤ 1080 → 400 ≤ v.w → 480 ≤ v.h →
                w.value.mainWindow = some v ∧ w.ignored.getLsbD 0 = false)
              ∧ (1920 < v.x + v.w ∨ 1080 < v.y + v.h ∨ v.w < 400 ∨ v.h < 480 →
                w.value.mainWindow = p.mainWindow ∧ w.ignored.getLsbD 0 = true))
          ∧ (f.raw 1 = none → w.value.wideWindow = p.wideWindow ∧ w.ignored.getLsbD 1 = false)
          ∧ (∀ b, f.raw 1 = some b →
            let v := windowOf b
            (v.x + v.w ≤ 1920 → v.y + v.h ≤ 1080 → 400 ≤ v.w → 160 ≤ v.h →
                w.value.wideWindow = some v ∧ w.ignored.getLsbD 1 = false)
              ∧ (1920 < v.x + v.w ∨ 1080 < v.y + v.h ∨ v.w < 400 ∨ v.h < 160 →
                w.value.wideWindow = p.wideWindow ∧ w.ignored.getLsbD 1 = true))
          ∧ ChoiceField (f.num 2) p.mirror w.value.mirror (w.ignored.getLsbD 2)
          ∧ ChoiceField (f.num 3) p.plusX w.value.plusX (w.ignored.getLsbD 3)
          ∧ NumericField 0 32 (f.num 4) p.panGain w.value.panGain (w.clamped.getLsbD 4)
          ∧ NumericField 0 600 (f.num 5) p.panMax w.value.panMax (w.clamped.getLsbD 5)
          ∧ NumericField 1 32 (f.num 6) p.panRate w.value.panRate (w.clamped.getLsbD 6)
          ∧ (f.raw 7 = none → w.value.palette = p.palette ∧ w.clamped.getLsbD 7 = false)
          ∧ (∀ b, f.raw 7 = some b →
            let v (i : Nat) : Nat := min ((words16 12 b).getD i 0) 1023
            w.value.palette = some ((List.range 4).map fun i => ⟨v (3 * i), v (3 * i + 1), v (3 * i + 2)⟩)
              ∧ w.clamped.getLsbD 7 = decide (∃ x ∈ words16 12 b, 1023 < x)))
      ∧ (∀ (act : NightGroup) (p : NightPending),
        let w := writeNight f act p
        let dusk := (f.num 0).getD (p.eDusk.getD act.eDusk)
        let night := (f.num 1).getD (p.eNight.getD act.eNight)
        let luxDusk := (f.num 3).getD (p.luxDusk.getD act.luxDusk)
        let luxNight := (f.num 4).getD (p.luxNight.getD act.luxNight)
        (dusk < night →
          w.value.eDusk.getD act.eDusk = dusk ∧ w.value.eNight.getD act.eNight = night
            ∧ w.ignored.getLsbD 0 = false ∧ w.ignored.getLsbD 1 = false)
          ∧ (night ≤ dusk → w.value.eDusk = p.eDusk ∧ w.value.eNight = p.eNight
              ∧ w.ignored.getLsbD 0 = (f.num 0).isSome ∧ w.ignored.getLsbD 1 = (f.num 1).isSome)
          ∧ NumericField 0 64 (f.num 2) p.hysteresis w.value.hysteresis (w.clamped.getLsbD 2)
          ∧ (luxNight < luxDusk →
            w.value.luxDusk.getD act.luxDusk = luxDusk ∧ w.value.luxNight.getD act.luxNight = luxNight
              ∧ w.ignored.getLsbD 3 = false ∧ w.ignored.getLsbD 4 = false)
          ∧ (luxDusk ≤ luxNight → w.value.luxDusk = p.luxDusk ∧ w.value.luxNight = p.luxNight
              ∧ w.ignored.getLsbD 3 = (f.num 3).isSome ∧ w.ignored.getLsbD 4 = (f.num 4).isSome)
          ∧ NumericField 1 50 (f.num 5) p.dwell w.value.dwell (w.clamped.getLsbD 5))
      ∧ (∀ p : BacklightPending,
        let w := writeBacklight f p
        NumericField 0 1023 (f.num 0) p.day w.value.day (w.clamped.getLsbD 0)
          ∧ NumericField 0 1023 (f.num 1) p.dusk w.value.dusk (w.clamped.getLsbD 1)
          ∧ NumericField 0 1023 (f.num 2) p.night w.value.night (w.clamped.getLsbD 2)
          ∧ SignedField (-128) 127 (f.signed 3) p.trimLeft w.value.trimLeft (w.clamped.getLsbD 3)
          ∧ SignedField (-128) 127 (f.signed 4) p.trimRight w.value.trimRight (w.clamped.getLsbD 4))
      ∧ ∀ g : FaultGroup,
        let w := writeFault f g
        NumericField 2 16 (f.num 0) (some g.frozenLimit) (some w.value.frozenLimit) (w.clamped.getLsbD 0)
          ∧ NumericField 0 240 (f.num 1) (some g.holdLimit) (some w.value.holdLimit) (w.clamped.getLsbD 1)
          ∧ NumericField 20000 100000 (f.num 2) (some g.latencyBudget) (some w.value.latencyBudget) (w.clamped.getLsbD 2)
          ∧ NumericField 100 2000 (f.num 3) (some g.vehicleTimeout) (some w.value.vehicleTimeout) (w.clamped.getLsbD 3)
          ∧ NumericField 0 15 (f.num 4) (some g.attentionThreshold) (some w.value.attentionThreshold) (w.clamped.getLsbD 4)

/-- R168, R121: a VEHICLE request: each field carried is clamped, stored with its arrival, and given its expiry moment; VEHICLE_INPUT_STALE
is then judged but in PARKED, raised where a received field is not fresh and cleared where every one is, with its report; a presence bit
where the layout has no field is refused. -/
def Obligations.VehicleStoresItsFields : Prop :=
  ∀ (head : ReqHead) (presence : Byte) (angle : BitVec 16) (lux : BitVec 32) (s : State),
    Reaches 5 head (presence :: be16 angle ++ be32 lux) s →
    ∃ t : State, exec (.vehicle head presence angle lux) s = .next t
      ∧ (3 < presence.toNat → Refused .vehicle head 7 [] s t)
      ∧ (presence.toNat ≤ 3 →
          let a := presence.getLsbD 0
          let l := presence.getLsbD 1
          let clampedAngle : Bool := a && (decide (angle.toInt < -900) || decide (900 < angle.toInt))
          let clampedLux : Bool := l && decide (65535 < lux.toNat)
          let expiry : Time := s.timebase + BitVec.ofNat 32 (s.faults.group.vehicleTimeout * 1000 + 1)
          t.link.angle = (if a then some (max (-900) (min angle.toInt 900), s.timebase) else s.link.angle)
            ∧ t.link.lux = (if l then some (min lux.toNat 65535, s.timebase) else s.link.lux)
            ∧ t.faults.expiryAngle = (if a then some expiry else s.faults.expiryAngle)
            ∧ t.faults.expiryLux = (if l then some expiry else s.faults.expiryLux)
            ∧ Replied .vehicle head (if clampedAngle || clampedLux then 1 else 0)
                [(if clampedAngle then 1 else 0) + (if clampedLux then 2 else 0)] s t
            ∧ (presence = 0 → Unchanged answerParts s t)
            ∧ (s.power.state = .parked →
              t.faults.current = s.faults.current ∧ t.faults.accrued = s.faults.accrued ∧ t.queue = s.queue)
            ∧ ((s.power.state = .starting ∨ s.power.state = .running) → presence ≠ 0 →
              let stale : Bool :=
                (t.link.angle.isSome && t.faults.expiryAngle.isNone) || (t.link.lux.isSome && t.faults.expiryLux.isNone)
              (stale = true → Raised .vehicleInputStale s t ∧ t.queue = queueAfter s s.timebase (raisedReport .vehicleInputStale s))
                ∧ (stale = false →
                  Cleared .vehicleInputStale s t ∧ t.queue = queueAfter s s.timebase (clearedReport .vehicleInputStale s)))
            ∧ ((s.power.state = .starting ∨ s.power.state = .running) → a = true → l = true → Cleared .vehicleInputStale s t)
            ∧ AnswerTouches [.vehicle, .expiries, .faultSets, .queue] s t)

/-- R84, R170: an item replaces the entry of its id in its place or is appended at the end; a deletion removes the entry of its id and
reads no item byte; a value outside what the request accepts is refused and the list is unchanged. -/
def Obligations.OverlayRequestsEditTheList : Prop :=
  ∀ (head : ReqHead) (display id : Byte) (row x0 x1 : BitVec 16) (thickness palette : Byte) (s : State),
    let item : Overlay := ⟨id.toNat, row.toNat, x0.toNat, x1.toNat, thickness.toNat, palette.toNat⟩
    (Reaches 6 head (overlayPayload 0 display id row x0 x1 thickness palette) s →
        ∃ t : State, exec (.overlaySet head display id row x0 x1 thickness palette) s = .next t
          ∧ (overlayAccepted display id row x0 x1 thickness palette → ∀ sd, display.toNat = sideCode sd →
              Replied .overlay head 0 [] s t
                ∧ AnswerTouches [.comp sd] s t
                ∧ (∀ before old after, (s.comp sd).overlays = before ++ old :: after → old.id = id.toNat →
                    (∀ o ∈ before ++ after, o.id ≠ id.toNat) →
                    t.comp sd = { s.comp sd with overlays := before ++ item :: after })
                ∧ ((∀ o ∈ (s.comp sd).overlays, o.id ≠ id.toNat) →
                    t.comp sd = { s.comp sd with overlays := (s.comp sd).overlays ++ [item] }))
          ∧ (¬overlayAccepted display id row x0 x1 thickness palette → Refused .overlay head 7 [] s t))
      ∧ (Reaches 6 head (overlayPayload 1 display id row x0 x1 thickness palette) s →
        ∃ t : State, exec (.overlayDelete head display id row x0 x1 thickness palette) s = .next t
          ∧ (id.toNat ≤ 7 → ∀ sd, display.toNat = sideCode sd →
              Replied .overlay head 0 [] s t
                ∧ t.comp sd = { s.comp sd with overlays := (s.comp sd).overlays.filter fun o => o.id ≠ id.toNat }
                ∧ AnswerTouches [.comp sd] s t)
          ∧ (1 < display.toNat ∨ 7 < id.toNat → Refused .overlay head 7 [] s t))

/-- R123 to R127, R170: a FAULTCTL, with the law of the masks and the acknowledgement of accrued identities; and LOCK.
That a FAULTCTL with bit 13, 14 or 15 of the mask values set is refused is the model's choice (DEDUCED, log entry 29). -/
def Obligations.FaultctlAndLockActOnTheSupervisor : Prop :=
  ∀ (head : ReqHead) (presence values : BitVec 16) (clear : BitVec 64) (s : State),
    let named : BitVec 16 := presence &&& 0x1FE0
    let masks : BitVec 16 := (s.faults.masks &&& ~~~named) ||| (values &&& named)
    let ignored : BitVec 16 := presence &&& 0x001F
    let kept : BitVec 64 := clear &&& s.faults.current
    let bad : Prop := 0x1FFF < presence.toNat ∨ 0x1FFF < values.toNat ∨ clear &&& ~~~FaultSet.every ≠ 0
    (Reaches 7 head (be16 presence ++ be16 values ++ be64 clear) s →
        ∃ t : State, exec (.faultctl head presence values clear) s = .next t
          ∧ (bad → Refused .faultctl head 7 [] s t)
          ∧ (¬bad → s.faults.locked = true → masks ≠ s.faults.masks → Refused .faultctl head 3 [] s t)
          ∧ (¬bad → (s.faults.locked = false ∨ masks = s.faults.masks) →
              t.faults.masks = masks
                ∧ t.faults.current = s.faults.current
                ∧ t.faults.accrued = s.faults.accrued &&& ~~~(clear &&& ~~~s.faults.current)
                ∧ t.queue = queueAfter s s.timebase
                    ((FaultId.all.filter fun f =>
                        s.faults.masks.getLsbD (f.cls - 1) && !masks.getLsbD (f.cls - 1) && FaultSet.has s.faults.current f).map
                      fun f => .faultRaised f true)
                ∧ Replied .faultctl head (if ignored = 0 ∧ kept = 0 then 0 else 1) (be16 masks ++ be16 ignored ++ be64 kept) s t
                ∧ AnswerTouches [.faultSets, .masks, .queue] s t))
      ∧ (Reaches 14 head [] s →
        ∃ t : State, exec (.lock head) s = .next t
          ∧ t.faults.locked = true ∧ Replied .lock head 0 [] s t ∧ AnswerTouches [.lock] s t)

/-- R135, R137, R170: a COLLECT of 1 … 16 returns and removes the oldest entries, and ATTN is judged; any other count is refused. -/
def Obligations.CollectReturnsTheOldestEntries : Prop :=
  ∀ (head : ReqHead) (n : Byte) (s : State), Reaches 8 head [n] s →
    ∃ t : State, exec (.collect head n) s = .next t
      ∧ (1 ≤ n.toNat → n.toNat ≤ 16 →
          t.queue.entries = s.queue.entries.drop n.toNat
            ∧ t.queue.lost = s.queue.lost
            ∧ (t.queue.attn = true ↔ ∃ e ∈ t.queue.entries,
                e.report.isOverrun = true ∨ s.faults.group.attentionThreshold ≤ e.report.urgency)
            ∧ Replied .collect head 0
                (BitVec.ofNat 8 (min n.toNat s.queue.entries.length)
                  :: (s.queue.entries.take n.toNat).flatMap Entry.bytes) s t
            ∧ AnswerTouches [.queue] s t)
      ∧ (n.toNat = 0 ∨ 16 < n.toNat → Refused .collect head 7 [] s t)

/-- R144, R143, R145, R146, R165, R170: a CTX_SAVE in either mode. An IMMEDIATE save replies with the image of the state as it stands, and
under reset_after installs the default state and delivers a changed E; a SETTLED save becomes the save in flight, sets busy and empties the
holder. That a side or a reset_after without a meaning is refused with BAD_ARGUMENT before the identity copy is looked at is the model's
choice (DEDUCED, log entry 31), and so is exposure_changes standing through the installation (DEDUCED, log entry 22). -/
def Obligations.ContextSavesTakeTheImage : Prop :=
  ∀ (head : ReqHead) (side resetAfter : Byte) (s : State),
    (Reaches 9 head [side, 0, resetAfter] s →
        ∃ t : State, exec (.ctxSaveImmediate head side resetAfter) s = .next t
          ∧ (1 < side.toNat ∨ 1 < resetAfter.toNat → Refused .ctxSave head 7 [] s t)
          ∧ (∀ sd, side.toNat = sideCode sd → resetAfter.toNat ≤ 1 →
              ((s.context sd).identityCopy = none → Refused .ctxSave head 2 [] s t)
                ∧ ((s.context sd).identityCopy ≠ none →
                  ImageOf sd false (decide (resetAfter = 1)) (takeImage sd false (decide (resetAfter = 1)) s) s
                    ∧ Replied .ctxSave head 0 ((takeImage sd false (decide (resetAfter = 1)) s).bytes sd) s t
                    ∧ t.context sd =
                      { s.context sd with
                        saves := satInc (s.context sd).saves
                        framesAdapted := if resetAfter = 1 then 0 else (s.context sd).framesAdapted }
                    ∧ (resetAfter = 0 → AnswerTouches [.context sd] s t)
                    ∧ (resetAfter = 1 → DefaultInstalled sd s t
                        ∧ AnswerTouches [.port sd, .exposure sd, .glare sd, .display sd, .context sd, .sent] s t))))
      ∧ (Reaches 9 head [side, 1, resetAfter] s →
        ∃ t : State, exec (.ctxSaveSettled head side resetAfter) s = .next t
          ∧ (1 < side.toNat ∨ 1 < resetAfter.toNat → Refused .ctxSave head 7 [] s t)
          ∧ (∀ sd, side.toNat = sideCode sd → resetAfter.toNat ≤ 1 →
              ((s.context sd).identityCopy = none → Refused .ctxSave head 2 [] s t)
                ∧ ((s.context sd).identityCopy ≠ none →
                  t.context sd = { s.context sd with save := some ⟨decide (resetAfter = 1), s.timebase + 100000⟩ }
                    ∧ t.link =
                      { s.link with
                        partialReq := none
                        partialDeadline := none
                        ffRun := runAfter (lowByte head.crc) s
                        holder := none
                        busy := some head.tag
                        counters := countersAfter true false s.link.counters }
                    ∧ AnswerTouches [.context sd] s t)))

/-- R147, R148, R143, R170: a CTX_LOAD of 171 image bytes, with every field of an accepted image as it is read. That a load which names no
side is counted in neither side's loads_refused is the model's choice (DEDUCED, log entry 21). -/
def Obligations.ContextLoadsAreJudgedInOrder : Prop :=
  ∀ (head : ReqHead) (side : Byte) (image : List Byte) (s : State), image.length = 171 → Reaches 10 head (side :: image) s →
    ∃ t : State, exec (.ctxLoad head side image) s = .next t
      ∧ (1 < side.toNat → Refused .ctxLoad head 7 [1] s t)
      ∧ (∀ sd, side.toNat = sideCode sd →
          let refused : Context := { s.context sd with loadsRefused := satInc (s.context sd).loadsRefused }
          let number (offset k : Nat) : Nat := ((image.drop offset).take k).foldl (fun n b => 256 * n + b.toNat) 0
          let crcBad : Prop := (crc32 (image.take 167)).toNat ≠ number 167 4
          let formatBad : Prop := 2 < number 3 1 ∨ ∃ b ∈ (image.drop 23).take 128, 96 < b.toNat
          let rejected (why : Byte) : Prop :=
            t.context sd = refused
              ∧ Answered true true 10 head 7 [why] s t
              ∧ t.faults.accrued = FaultSet.insert s.faults.accrued (.contextRejected sd)
              ∧ t.faults.current = s.faults.current
              ∧ t.queue = queueAfter s s.timebase
                  (if s.faults.unmasked (.contextRejected sd) then [.faultRaised (.contextRejected sd) false] else [])
              ∧ AnswerTouches [.context sd, .faultSets, .queue] s t
          (s.power.state = .running →
              t.context sd = refused ∧ Answered true true 10 head 2 [] s t ∧ AnswerTouches [.context sd] s t)
            ∧ (s.power.state ≠ .running → crcBad → rejected 2)
            ∧ (s.power.state ≠ .running → ¬crcBad → number 0 1 ≠ 1 → rejected 3)
            ∧ (s.power.state ≠ .running → ¬crcBad → number 0 1 = 1 → number 1 1 ≠ side.toNat → rejected 1)
            ∧ (s.power.state ≠ .running → ¬crcBad → number 0 1 = 1 → number 1 1 = side.toNat → formatBad → rejected 4)
            ∧ (s.power.state ≠ .running → ¬crcBad → number 0 1 = 1 → number 1 1 = side.toNat → ¬formatBad →
              (∃ i : Image, (t.context sd).pendingRestore = some i ∧ i.identity.toNat = number 5 8 ∧ i.e = number 4 1
                  ∧ i.gainR = number 13 2 ∧ i.gainB = number 15 2 ∧ i.backlight = number 17 2
                  ∧ i.framesAdapted = number 19 4 ∧ i.grid = ((image.drop 23).take 128).map BitVec.toNat
                  ∧ i.night.code.toNat = number 3 1
                  ∧ i.settled = (image.getD 2 0).getLsbD 0 ∧ i.resetAfter = (image.getD 2 0).getLsbD 1
                  ∧ i.tags.length = 128
                  ∧ ∀ n, n < 128 → i.tags.getD n false = (image.getD (151 + n / 8) 0).getLsbD (7 - n % 8))
                ∧ t.context sd =
                  { s.context sd with
                    pendingRestore := (t.context sd).pendingRestore
                    loadsAccepted := satInc (s.context sd).loadsAccepted }
                ∧ Replied .ctxLoad head 0 [1] s t
                ∧ AnswerTouches [.context sd] s t))

/-- A saved image, loaded for its side while the part is not RUNNING, becomes that side's pending restore as it was taken (R143, R147,
R148), for values within the fields' ranges. -/
def Obligations.SavedImageLoadsBack : Prop :=
  ∀ (head : ReqHead) (sd : Side) (i : Image) (s : State),
    i.e < 256 → i.gainR < 65536 → i.gainB < 65536 → i.backlight < 65536 → i.framesAdapted < 4294967296 →
    i.grid.length = 128 → (∀ g ∈ i.grid, g ≤ 96) → i.tags.length = 128 →
    s.power.state ≠ .running →
    Reaches 10 head (BitVec.ofNat 8 (sideCode sd) :: i.bytes sd) s →
    ∃ t : State, exec (.ctxLoad head (BitVec.ofNat 8 (sideCode sd)) (i.bytes sd)) s = .next t
      ∧ (i.bytes sd).length = 171
      ∧ t.context sd =
        { s.context sd with pendingRestore := some i, loadsAccepted := satInc (s.context sd).loadsAccepted }
      ∧ Replied .ctxLoad head 0 [1] s t
      ∧ AnswerTouches [.context sd] s t

/-- R110, R170: a MONITOR request: appended to a queue of fewer than 4, refused by a full one, by another display, and by a length
outside 1 … 32 bytes. -/
def Obligations.MonitorRequestsQueueTheirBytes : Prop :=
  ∀ (head : ReqHead) (display : Byte) (bytes : List Byte) (s : State),
    bytes.length ≤ 1023 → Reaches 11 head (display :: bytes) s →
    ∃ t : State, exec (.monitor head display bytes) s = .next t
      ∧ (bytes.length = 0 ∨ 32 < bytes.length → Answered false true 11 head 6 [] s t ∧ Unchanged answerParts s t)
      ∧ (1 ≤ bytes.length → bytes.length ≤ 32 → 1 < display.toNat → Refused .monitor head 7 [] s t)
      ∧ (1 ≤ bytes.length → bytes.length ≤ 32 → ∀ sd, display.toNat = sideCode sd →
          (4 ≤ (s.display sd).outQueue.length → Refused .monitor head 4 [] s t)
            ∧ ((s.display sd).outQueue.length < 4 →
              t.display sd = { s.display sd with outQueue := (s.display sd).outQueue ++ [bytes] }
                ∧ Replied .monitor head 0 [] s t ∧ AnswerTouches [.display sd] s t))

/-- R97, R101, R102, R80, R106, R111: DISPLAY on and off: no change where the enable is as asked; an enable while awake wakes a link in
HIBERNATE; a disable while awake sends the link to sleep and then clears the view path's faults, with the match run at 0. -/
def Obligations.DisplayRequestsSetTheEnable : Prop :=
  ∀ (head : ReqHead) (display : Byte) (s : State),
    (Reaches 12 head [display, 1] s →
        ∃ t : State, exec (.displayEnable head display) s = .next t
          ∧ (1 < display.toNat → Refused .display head 7 [] s t)
          ∧ (∀ sd, display.toNat = sideCode sd → Replied .display head 0 [] s t
              ∧ ((s.display sd).enabled = true → Unchanged answerParts s t)
              ∧ ((s.display sd).enabled = false → s.awake = false ∨ (s.display sd).link ≠ .hibernate →
                t.display sd = { s.display sd with enabled := true } ∧ AnswerTouches [.display sd] s t)
              ∧ ((s.display sd).enabled = false → s.awake = true → (s.display sd).link = .hibernate →
                t.display sd = burst { s.display sd with enabled := true } 1 s.timebase ∧ t.sent = s.sent ++ [.wakeBurst sd]
                  ∧ AnswerTouches [.display sd, .sent] s t)))
      ∧ (Reaches 12 head [display, 0] s →
        ∃ t : State, exec (.displayDisable head display) s = .next t
          ∧ (1 < display.toNat → Refused .display head 7 [] s t)
          ∧ (∀ sd, display.toNat = sideCode sd → Replied .display head 0 [] s t
              ∧ ((s.display sd).enabled = false → Unchanged answerParts s t)
              ∧ ((s.display sd).enabled = true → s.awake = false →
                t.display sd = { s.display sd with enabled := false } ∧ AnswerTouches [.display sd] s t)
              ∧ ((s.display sd).enabled = true → s.awake = true →
                t.display sd =
                    { s.display sd with
                      enabled := false
                      link :=
                        if (s.display sd).link = .waking ∨ (s.display sd).link = .synced then .hibernate else (s.display sd).link
                      state := .dark
                      holdCount := if (s.display sd).state = .dark then (s.display sd).holdCount else 0
                      wakeAttempt := 0
                      wakeDeadline := none
                      wakeRetry := none
                      nextScan := none }
                  ∧ t.sent =
                    s.sent
                      ++ (if (s.display sd).link = .waking ∨ (s.display sd).link = .synced then [.sleepNotice sd] else [])
                  ∧ t.comp sd =
                    { s.comp sd with
                      blankRequest := if (s.display sd).state = .blanked then false else (s.comp sd).blankRequest }
                  ∧ t.faults.current =
                    FaultSet.erase (FaultSet.erase (FaultSet.erase s.faults.current (.viewStale sd)) (.displayLink sd)) (.displayPath sd)
                  ∧ t.faults.accrued = s.faults.accrued
                  ∧ t.runs sd =
                    { s.runs sd with
                      pathMatch := 0
                      staleClear := if (s.display sd).state = .dark then (s.runs sd).staleClear else 0 }
                  ∧ t.queue = queueAfter s s.timebase
                    ((if (s.display sd).state = .dark then [] else [.displayChanged sd (s.display sd).state .dark])
                      ++ clearedReport (.viewStale sd) s ++ clearedReport (.displayLink sd) s ++ clearedReport (.displayPath sd) s)
                  ∧ AnswerTouches [.display sd, .comp sd, .runs sd, .faultSets, .queue, .sent] s t)))

/-- R157, R7, R36, R94, R49, R101: POWER PARK while STARTING or RUNNING, and while PARKED. Every setting, active and pending, every counter
and the adaptation state are kept; HALT and the sleep notices are sent. That LEFT's HALT stands before RIGHT's is the model's choice (DESIGN
CHOICE, log entry 38). -/
def Obligations.PowerParkStopsEverything : Prop :=
  ∀ (head : ReqHead) (s : State), Reaches 13 head [0] s →
    ∃ t : State, exec (.powerPark head) s = .next t
      ∧ (s.power.state = .parked → Replied .power head 0 [1] s t ∧ Unchanged answerParts s t)
      ∧ (s.power.state = .starting ∨ s.power.state = .running →
          Replied .power head 0 [0] s t
            ∧ t.power = { s.power with state := .parked }
            ∧ (∀ sd, (t.port sd).link = .down
                ∧ ((s.port sd).link = .down → t.port sd = s.port sd)
                ∧ ((s.port sd).link ≠ .down →
                    t.port sd =
                      { s.port sd with
                        link := .down, inProgress := none, trainingDeadline := none, retrainTime := none, lossDeadline := none,
                        lastExpose := none, outstanding := false, resendDone := false, unsettledRun := 0, lastCounter := none })
                ∧ t.pipe sd = { s.pipe sd with dev := none, intake := none, bufA := (t.pipe sd).bufA, bufB := (t.pipe sd).bufB }
                ∧ (BufferLaw s → (t.pipe sd).bufA = .free ∧ (t.pipe sd).bufB = .free)
                ∧ t.comp sd =
                  { s.comp sd with inFlight := none, blankRequest := false, panOffset := 0, panTarget := 0 }
                ∧ t.store sd = { s.store sd with slot0 := .free, slot1 := .free, slot2 := .free }
                ∧ t.display sd =
                  { s.display sd with
                    link := if (s.display sd).link = .off then .off else .hibernate
                    state := .dark
                    holdCount := if (s.display sd).state = .dark then (s.display sd).holdCount else 0
                    nextScan := none, wakeRetry := none, wakeDeadline := none, wakeAttempt := 0, silence := 0 }
                ∧ t.runs sd = .zero)
            ∧ t.night = { s.night with nextEval := none, dwellCount := 0, dwellTarget := none, lastSource := .none }
            ∧ t.sent = s.sent
                ++ (if (s.port .left).link = .down then [] else [.halt .left])
                ++ (if (s.port .right).link = .down then [] else [.halt .right])
                ++ (if (s.display .left).link = .waking ∨ (s.display .left).link = .synced then [.sleepNotice .left] else [])
                ++ (if (s.display .right).link = .waking ∨ (s.display .right).link = .synced then [.sleepNotice .right] else [])
            ∧ t.faults.current = 0 ∧ t.faults.accrued = s.faults.accrued
            ∧ t.queue = queueAfter s s.timebase
                (.powerChanged s.power.state .parked
                  :: ((if (s.display .left).state = .dark then [] else [.displayChanged .left (s.display .left).state .dark])
                    ++ (if (s.display .right).state = .dark then [] else [.displayChanged .right (s.display .right).state .dark])))
            ∧ (∀ sd, t.context sd = s.context sd ∧ t.exposure sd = s.exposure sd ∧ t.glare sd = s.glare sd)
            ∧ ∀ p ∈ [Part.timebase, .restartCause, .masks, .lock, .faultGroup, .expiries, .vehicle, .flatZones .left, .flatZones .right,
                .raceCount, .pending], p.same s t)

end Statements
end

