-- ==== Sys2Proof/Laws/State.lean ====
section
/-! SUPPORT. What each update of the state leaves of each field: one lemma per field per update, by `rfl`. -/

namespace Sys2Proof

variable {α : Type}

@[simp] theorem Sides.get_set_same (p : Sides α) (sd : Side) (a : α) : (p.set sd a).get sd = a := by cases sd <;> rfl

theorem Sides.get_set (p : Sides α) (sd sd' : Side) (a : α) : (p.set sd a).get sd' = if sd' = sd then a else p.get sd' := by
  cases sd <;> cases sd' <;> rfl

@[simp] theorem Sides.get_set_ne (p : Sides α) {sd sd' : Side} (a : α) (h : sd' ≠ sd) : (p.set sd a).get sd' = p.get sd' := by
  rw [Sides.get_set, if_neg h]

@[simp] theorem Sides.get_both (a : α) (sd : Side) : (Sides.both a).get sd = a := by cases sd <;> rfl

@[simp] theorem Sides.set_set (p : Sides α) (sd : Side) (a b : α) : (p.set sd a).set sd b = p.set sd b := by cases sd <;> rfl

end Sys2Proof

namespace Sys2Proof.Machine

variable (s : State) (sd sd' : Side)

/-! ### Reading back the copy just written -/

@[simp] theorem State.setPort_port (v : Port) : (s.setPort sd v).port sd = v := Sides.get_set_same _ _ _
theorem State.setPort_port_at (v : Port) : (s.setPort sd v).port sd' = if sd' = sd then v else s.port sd' := Sides.get_set _ _ _ _
@[simp] theorem State.setPort_port_ne {sd sd' : Side} (v : Port) (h : sd' ≠ sd) : (s.setPort sd v).port sd' = s.port sd' := Sides.get_set_ne _ _ h
@[simp] theorem State.setPipe_pipe (v : Pipeline) : (s.setPipe sd v).pipe sd = v := Sides.get_set_same _ _ _
theorem State.setPipe_pipe_at (v : Pipeline) : (s.setPipe sd v).pipe sd' = if sd' = sd then v else s.pipe sd' := Sides.get_set _ _ _ _
@[simp] theorem State.setPipe_pipe_ne {sd sd' : Side} (v : Pipeline) (h : sd' ≠ sd) : (s.setPipe sd v).pipe sd' = s.pipe sd' := Sides.get_set_ne _ _ h
@[simp] theorem State.setExposure_exposure (v : Exposure) : (s.setExposure sd v).exposure sd = v := Sides.get_set_same _ _ _
theorem State.setExposure_exposure_at (v : Exposure) : (s.setExposure sd v).exposure sd' = if sd' = sd then v else s.exposure sd' := Sides.get_set _ _ _ _
@[simp] theorem State.setExposure_exposure_ne {sd sd' : Side} (v : Exposure) (h : sd' ≠ sd) : (s.setExposure sd v).exposure sd' = s.exposure sd' := Sides.get_set_ne _ _ h
@[simp] theorem State.setGlare_glare (v : Glare) : (s.setGlare sd v).glare sd = v := Sides.get_set_same _ _ _
theorem State.setGlare_glare_at (v : Glare) : (s.setGlare sd v).glare sd' = if sd' = sd then v else s.glare sd' := Sides.get_set _ _ _ _
@[simp] theorem State.setGlare_glare_ne {sd sd' : Side} (v : Glare) (h : sd' ≠ sd) : (s.setGlare sd v).glare sd' = s.glare sd' := Sides.get_set_ne _ _ h
@[simp] theorem State.setComp_comp (v : Compositor) : (s.setComp sd v).comp sd = v := Sides.get_set_same _ _ _
theorem State.setComp_comp_at (v : Compositor) : (s.setComp sd v).comp sd' = if sd' = sd then v else s.comp sd' := Sides.get_set _ _ _ _
@[simp] theorem State.setComp_comp_ne {sd sd' : Side} (v : Compositor) (h : sd' ≠ sd) : (s.setComp sd v).comp sd' = s.comp sd' := Sides.get_set_ne _ _ h
@[simp] theorem State.setStore_store (v : FrameStore) : (s.setStore sd v).store sd = v := Sides.get_set_same _ _ _
theorem State.setStore_store_at (v : FrameStore) : (s.setStore sd v).store sd' = if sd' = sd then v else s.store sd' := Sides.get_set _ _ _ _
@[simp] theorem State.setStore_store_ne {sd sd' : Side} (v : FrameStore) (h : sd' ≠ sd) : (s.setStore sd v).store sd' = s.store sd' := Sides.get_set_ne _ _ h
@[simp] theorem State.setDisplay_display (v : Display) : (s.setDisplay sd v).display sd = v := Sides.get_set_same _ _ _
theorem State.setDisplay_display_at (v : Display) : (s.setDisplay sd v).display sd' = if sd' = sd then v else s.display sd' := Sides.get_set _ _ _ _
@[simp] theorem State.setDisplay_display_ne {sd sd' : Side} (v : Display) (h : sd' ≠ sd) : (s.setDisplay sd v).display sd' = s.display sd' := Sides.get_set_ne _ _ h
@[simp] theorem State.setContext_context (v : Context) : (s.setContext sd v).context sd = v := Sides.get_set_same _ _ _
theorem State.setContext_context_at (v : Context) : (s.setContext sd v).context sd' = if sd' = sd then v else s.context sd' := Sides.get_set _ _ _ _
@[simp] theorem State.setContext_context_ne {sd sd' : Side} (v : Context) (h : sd' ≠ sd) : (s.setContext sd v).context sd' = s.context sd' := Sides.get_set_ne _ _ h
@[simp] theorem State.setRuns_runs (v : Runs) : (s.setRuns sd v).runs sd = v := Sides.get_set_same _ _ _
theorem State.setRuns_runs_at (v : Runs) : (s.setRuns sd v).runs sd' = if sd' = sd then v else s.runs sd' := Sides.get_set _ _ _ _
@[simp] theorem State.setRuns_runs_ne {sd sd' : Side} (v : Runs) (h : sd' ≠ sd) : (s.setRuns sd v).runs sd' = s.runs sd' := Sides.get_set_ne _ _ h
@[simp] theorem State.setTimebase_timebase (v : Time) : (s.setTimebase v).timebase = v := rfl
@[simp] theorem State.setPower_power (v : Power) : (s.setPower v).power = v := rfl
@[simp] theorem State.setNight_night (v : Night) : (s.setNight v).night = v := rfl
@[simp] theorem State.setFaults_faults (v : Faults) : (s.setFaults v).faults = v := rfl
@[simp] theorem State.setQueue_queue (v : ReportQueue) : (s.setQueue v).queue = v := rfl
@[simp] theorem State.setLink_link (v : HostLink) : (s.setLink v).link = v := rfl
@[simp] theorem State.emit_sent (m : Sent) : (s.emit m).sent = s.sent ++ [m] := rfl
theorem State.report_queue (r : Report) :
    (s.report r).queue = s.queue.arrive s.faults.group.attentionThreshold ⟨r, s.timebase⟩ := rfl

/-! ### Every other field -/

@[simp] theorem State.setPort_get_pipe (v : Port) : (s.setPort sd v).pipe sd' = s.pipe sd' := rfl
@[simp] theorem State.setPort_get_exposure (v : Port) : (s.setPort sd v).exposure sd' = s.exposure sd' := rfl
@[simp] theorem State.setPort_get_glare (v : Port) : (s.setPort sd v).glare sd' = s.glare sd' := rfl
@[simp] theorem State.setPort_get_comp (v : Port) : (s.setPort sd v).comp sd' = s.comp sd' := rfl
@[simp] theorem State.setPort_get_store (v : Port) : (s.setPort sd v).store sd' = s.store sd' := rfl
@[simp] theorem State.setPort_get_display (v : Port) : (s.setPort sd v).display sd' = s.display sd' := rfl
@[simp] theorem State.setPort_get_context (v : Port) : (s.setPort sd v).context sd' = s.context sd' := rfl
@[simp] theorem State.setPort_get_runs (v : Port) : (s.setPort sd v).runs sd' = s.runs sd' := rfl
@[simp] theorem State.setPort_get_timebase (v : Port) : (s.setPort sd v).timebase = s.timebase := rfl
@[simp] theorem State.setPort_get_power (v : Port) : (s.setPort sd v).power = s.power := rfl
@[simp] theorem State.setPort_get_night (v : Port) : (s.setPort sd v).night = s.night := rfl
@[simp] theorem State.setPort_get_faults (v : Port) : (s.setPort sd v).faults = s.faults := rfl
@[simp] theorem State.setPort_get_queue (v : Port) : (s.setPort sd v).queue = s.queue := rfl
@[simp] theorem State.setPort_get_link (v : Port) : (s.setPort sd v).link = s.link := rfl
@[simp] theorem State.setPort_get_restartCause (v : Port) : (s.setPort sd v).restartCause = s.restartCause := rfl
@[simp] theorem State.setPort_get_sent (v : Port) : (s.setPort sd v).sent = s.sent := rfl
@[simp] theorem State.setPort_get_raceCount (v : Port) : (s.setPort sd v).raceCount = s.raceCount := rfl
@[simp] theorem State.setPort_get_pending (v : Port) : (s.setPort sd v).pending = s.pending := rfl
@[simp] theorem State.setPipe_get_port (v : Pipeline) : (s.setPipe sd v).port sd' = s.port sd' := rfl
@[simp] theorem State.setPipe_get_exposure (v : Pipeline) : (s.setPipe sd v).exposure sd' = s.exposure sd' := rfl
@[simp] theorem State.setPipe_get_glare (v : Pipeline) : (s.setPipe sd v).glare sd' = s.glare sd' := rfl
@[simp] theorem State.setPipe_get_comp (v : Pipeline) : (s.setPipe sd v).comp sd' = s.comp sd' := rfl
@[simp] theorem State.setPipe_get_store (v : Pipeline) : (s.setPipe sd v).store sd' = s.store sd' := rfl
@[simp] theorem State.setPipe_get_display (v : Pipeline) : (s.setPipe sd v).display sd' = s.display sd' := rfl
@[simp] theorem State.setPipe_get_context (v : Pipeline) : (s.setPipe sd v).context sd' = s.context sd' := rfl
@[simp] theorem State.setPipe_get_runs (v : Pipeline) : (s.setPipe sd v).runs sd' = s.runs sd' := rfl
@[simp] theorem State.setPipe_get_timebase (v : Pipeline) : (s.setPipe sd v).timebase = s.timebase := rfl
@[simp] theorem State.setPipe_get_power (v : Pipeline) : (s.setPipe sd v).power = s.power := rfl
@[simp] theorem State.setPipe_get_night (v : Pipeline) : (s.setPipe sd v).night = s.night := rfl
@[simp] theorem State.setPipe_get_faults (v : Pipeline) : (s.setPipe sd v).faults = s.faults := rfl
@[simp] theorem State.setPipe_get_queue (v : Pipeline) : (s.setPipe sd v).queue = s.queue := rfl
@[simp] theorem State.setPipe_get_link (v : Pipeline) : (s.setPipe sd v).link = s.link := rfl
@[simp] theorem State.setPipe_get_restartCause (v : Pipeline) : (s.setPipe sd v).restartCause = s.restartCause := rfl
@[simp] theorem State.setPipe_get_sent (v : Pipeline) : (s.setPipe sd v).sent = s.sent := rfl
@[simp] theorem State.setPipe_get_raceCount (v : Pipeline) : (s.setPipe sd v).raceCount = s.raceCount := rfl
@[simp] theorem State.setPipe_get_pending (v : Pipeline) : (s.setPipe sd v).pending = s.pending := rfl
@[simp] theorem State.setExposure_get_port (v : Exposure) : (s.setExposure sd v).port sd' = s.port sd' := rfl
@[simp] theorem State.setExposure_get_pipe (v : Exposure) : (s.setExposure sd v).pipe sd' = s.pipe sd' := rfl
@[simp] theorem State.setExposure_get_glare (v : Exposure) : (s.setExposure sd v).glare sd' = s.glare sd' := rfl
@[simp] theorem State.setExposure_get_comp (v : Exposure) : (s.setExposure sd v).comp sd' = s.comp sd' := rfl
@[simp] theorem State.setExposure_get_store (v : Exposure) : (s.setExposure sd v).store sd' = s.store sd' := rfl
@[simp] theorem State.setExposure_get_display (v : Exposure) : (s.setExposure sd v).display sd' = s.display sd' := rfl
@[simp] theorem State.setExposure_get_context (v : Exposure) : (s.setExposure sd v).context sd' = s.context sd' := rfl
@[simp] theorem State.setExposure_get_runs (v : Exposure) : (s.setExposure sd v).runs sd' = s.runs sd' := rfl
@[simp] theorem State.setExposure_get_timebase (v : Exposure) : (s.setExposure sd v).timebase = s.timebase := rfl
@[simp] theorem State.setExposure_get_power (v : Exposure) : (s.setExposure sd v).power = s.power := rfl
@[simp] theorem State.setExposure_get_night (v : Exposure) : (s.setExposure sd v).night = s.night := rfl
@[simp] theorem State.setExposure_get_faults (v : Exposure) : (s.setExposure sd v).faults = s.faults := rfl
@[simp] theorem State.setExposure_get_queue (v : Exposure) : (s.setExposure sd v).queue = s.queue := rfl
@[simp] theorem State.setExposure_get_link (v : Exposure) : (s.setExposure sd v).link = s.link := rfl
@[simp] theorem State.setExposure_get_restartCause (v : Exposure) : (s.setExposure sd v).restartCause = s.restartCause := rfl
@[simp] theorem State.setExposure_get_sent (v : Exposure) : (s.setExposure sd v).sent = s.sent := rfl
@[simp] theorem State.setExposure_get_raceCount (v : Exposure) : (s.setExposure sd v).raceCount = s.raceCount := rfl
@[simp] theorem State.setExposure_get_pending (v : Exposure) : (s.setExposure sd v).pending = s.pending := rfl
@[simp] theorem State.setGlare_get_port (v : Glare) : (s.setGlare sd v).port sd' = s.port sd' := rfl
@[simp] theorem State.setGlare_get_pipe (v : Glare) : (s.setGlare sd v).pipe sd' = s.pipe sd' := rfl
@[simp] theorem State.setGlare_get_exposure (v : Glare) : (s.setGlare sd v).exposure sd' = s.exposure sd' := rfl
@[simp] theorem State.setGlare_get_comp (v : Glare) : (s.setGlare sd v).comp sd' = s.comp sd' := rfl
@[simp] theorem State.setGlare_get_store (v : Glare) : (s.setGlare sd v).store sd' = s.store sd' := rfl
@[simp] theorem State.setGlare_get_display (v : Glare) : (s.setGlare sd v).display sd' = s.display sd' := rfl
@[simp] theorem State.setGlare_get_context (v : Glare) : (s.setGlare sd v).context sd' = s.context sd' := rfl
@[simp] theorem State.setGlare_get_runs (v : Glare) : (s.setGlare sd v).runs sd' = s.runs sd' := rfl
@[simp] theorem State.setGlare_get_timebase (v : Glare) : (s.setGlare sd v).timebase = s.timebase := rfl
@[simp] theorem State.setGlare_get_power (v : Glare) : (s.setGlare sd v).power = s.power := rfl
@[simp] theorem State.setGlare_get_night (v : Glare) : (s.setGlare sd v).night = s.night := rfl
@[simp] theorem State.setGlare_get_faults (v : Glare) : (s.setGlare sd v).faults = s.faults := rfl
@[simp] theorem State.setGlare_get_queue (v : Glare) : (s.setGlare sd v).queue = s.queue := rfl
@[simp] theorem State.setGlare_get_link (v : Glare) : (s.setGlare sd v).link = s.link := rfl
@[simp] theorem State.setGlare_get_restartCause (v : Glare) : (s.setGlare sd v).restartCause = s.restartCause := rfl
@[simp] theorem State.setGlare_get_sent (v : Glare) : (s.setGlare sd v).sent = s.sent := rfl
@[simp] theorem State.setGlare_get_raceCount (v : Glare) : (s.setGlare sd v).raceCount = s.raceCount := rfl
@[simp] theorem State.setGlare_get_pending (v : Glare) : (s.setGlare sd v).pending = s.pending := rfl
@[simp] theorem State.setComp_get_port (v : Compositor) : (s.setComp sd v).port sd' = s.port sd' := rfl
@[simp] theorem State.setComp_get_pipe (v : Compositor) : (s.setComp sd v).pipe sd' = s.pipe sd' := rfl
@[simp] theorem State.setComp_get_exposure (v : Compositor) : (s.setComp sd v).exposure sd' = s.exposure sd' := rfl
@[simp] theorem State.setComp_get_glare (v : Compositor) : (s.setComp sd v).glare sd' = s.glare sd' := rfl
@[simp] theorem State.setComp_get_store (v : Compositor) : (s.setComp sd v).store sd' = s.store sd' := rfl
@[simp] theorem State.setComp_get_display (v : Compositor) : (s.setComp sd v).display sd' = s.display sd' := rfl
@[simp] theorem State.setComp_get_context (v : Compositor) : (s.setComp sd v).context sd' = s.context sd' := rfl
@[simp] theorem State.setComp_get_runs (v : Compositor) : (s.setComp sd v).runs sd' = s.runs sd' := rfl
@[simp] theorem State.setComp_get_timebase (v : Compositor) : (s.setComp sd v).timebase = s.timebase := rfl
@[simp] theorem State.setComp_get_power (v : Compositor) : (s.setComp sd v).power = s.power := rfl
@[simp] theorem State.setComp_get_night (v : Compositor) : (s.setComp sd v).night = s.night := rfl
@[simp] theorem State.setComp_get_faults (v : Compositor) : (s.setComp sd v).faults = s.faults := rfl
@[simp] theorem State.setComp_get_queue (v : Compositor) : (s.setComp sd v).queue = s.queue := rfl
@[simp] theorem State.setComp_get_link (v : Compositor) : (s.setComp sd v).link = s.link := rfl
@[simp] theorem State.setComp_get_restartCause (v : Compositor) : (s.setComp sd v).restartCause = s.restartCause := rfl
@[simp] theorem State.setComp_get_sent (v : Compositor) : (s.setComp sd v).sent = s.sent := rfl
@[simp] theorem State.setComp_get_raceCount (v : Compositor) : (s.setComp sd v).raceCount = s.raceCount := rfl
@[simp] theorem State.setComp_get_pending (v : Compositor) : (s.setComp sd v).pending = s.pending := rfl
@[simp] theorem State.setStore_get_port (v : FrameStore) : (s.setStore sd v).port sd' = s.port sd' := rfl
@[simp] theorem State.setStore_get_pipe (v : FrameStore) : (s.setStore sd v).pipe sd' = s.pipe sd' := rfl
@[simp] theorem State.setStore_get_exposure (v : FrameStore) : (s.setStore sd v).exposure sd' = s.exposure sd' := rfl
@[simp] theorem State.setStore_get_glare (v : FrameStore) : (s.setStore sd v).glare sd' = s.glare sd' := rfl
@[simp] theorem State.setStore_get_comp (v : FrameStore) : (s.setStore sd v).comp sd' = s.comp sd' := rfl
@[simp] theorem State.setStore_get_display (v : FrameStore) : (s.setStore sd v).display sd' = s.display sd' := rfl
@[simp] theorem State.setStore_get_context (v : FrameStore) : (s.setStore sd v).context sd' = s.context sd' := rfl
@[simp] theorem State.setStore_get_runs (v : FrameStore) : (s.setStore sd v).runs sd' = s.runs sd' := rfl
@[simp] theorem State.setStore_get_timebase (v : FrameStore) : (s.setStore sd v).timebase = s.timebase := rfl
@[simp] theorem State.setStore_get_power (v : FrameStore) : (s.setStore sd v).power = s.power := rfl
@[simp] theorem State.setStore_get_night (v : FrameStore) : (s.setStore sd v).night = s.night := rfl
@[simp] theorem State.setStore_get_faults (v : FrameStore) : (s.setStore sd v).faults = s.faults := rfl
@[simp] theorem State.setStore_get_queue (v : FrameStore) : (s.setStore sd v).queue = s.queue := rfl
@[simp] theorem State.setStore_get_link (v : FrameStore) : (s.setStore sd v).link = s.link := rfl
@[simp] theorem State.setStore_get_restartCause (v : FrameStore) : (s.setStore sd v).restartCause = s.restartCause := rfl
@[simp] theorem State.setStore_get_sent (v : FrameStore) : (s.setStore sd v).sent = s.sent := rfl
@[simp] theorem State.setStore_get_raceCount (v : FrameStore) : (s.setStore sd v).raceCount = s.raceCount := rfl
@[simp] theorem State.setStore_get_pending (v : FrameStore) : (s.setStore sd v).pending = s.pending := rfl
@[simp] theorem State.setDisplay_get_port (v : Display) : (s.setDisplay sd v).port sd' = s.port sd' := rfl
@[simp] theorem State.setDisplay_get_pipe (v : Display) : (s.setDisplay sd v).pipe sd' = s.pipe sd' := rfl
@[simp] theorem State.setDisplay_get_exposure (v : Display) : (s.setDisplay sd v).exposure sd' = s.exposure sd' := rfl
@[simp] theorem State.setDisplay_get_glare (v : Display) : (s.setDisplay sd v).glare sd' = s.glare sd' := rfl
@[simp] theorem State.setDisplay_get_comp (v : Display) : (s.setDisplay sd v).comp sd' = s.comp sd' := rfl
@[simp] theorem State.setDisplay_get_store (v : Display) : (s.setDisplay sd v).store sd' = s.store sd' := rfl
@[simp] theorem State.setDisplay_get_context (v : Display) : (s.setDisplay sd v).context sd' = s.context sd' := rfl
@[simp] theorem State.setDisplay_get_runs (v : Display) : (s.setDisplay sd v).runs sd' = s.runs sd' := rfl
@[simp] theorem State.setDisplay_get_timebase (v : Display) : (s.setDisplay sd v).timebase = s.timebase := rfl
@[simp] theorem State.setDisplay_get_power (v : Display) : (s.setDisplay sd v).power = s.power := rfl
@[simp] theorem State.setDisplay_get_night (v : Display) : (s.setDisplay sd v).night = s.night := rfl
@[simp] theorem State.setDisplay_get_faults (v : Display) : (s.setDisplay sd v).faults = s.faults := rfl
@[simp] theorem State.setDisplay_get_queue (v : Display) : (s.setDisplay sd v).queue = s.queue := rfl
@[simp] theorem State.setDisplay_get_link (v : Display) : (s.setDisplay sd v).link = s.link := rfl
@[simp] theorem State.setDisplay_get_restartCause (v : Display) : (s.setDisplay sd v).restartCause = s.restartCause := rfl
@[simp] theorem State.setDisplay_get_sent (v : Display) : (s.setDisplay sd v).sent = s.sent := rfl
@[simp] theorem State.setDisplay_get_raceCount (v : Display) : (s.setDisplay sd v).raceCount = s.raceCount := rfl
@[simp] theorem State.setDisplay_get_pending (v : Display) : (s.setDisplay sd v).pending = s.pending := rfl
@[simp] theorem State.setContext_get_port (v : Context) : (s.setContext sd v).port sd' = s.port sd' := rfl
@[simp] theorem State.setContext_get_pipe (v : Context) : (s.setContext sd v).pipe sd' = s.pipe sd' := rfl
@[simp] theorem State.setContext_get_exposure (v : Context) : (s.setContext sd v).exposure sd' = s.exposure sd' := rfl
@[simp] theorem State.setContext_get_glare (v : Context) : (s.setContext sd v).glare sd' = s.glare sd' := rfl
@[simp] theorem State.setContext_get_comp (v : Context) : (s.setContext sd v).comp sd' = s.comp sd' := rfl
@[simp] theorem State.setContext_get_store (v : Context) : (s.setContext sd v).store sd' = s.store sd' := rfl
@[simp] theorem State.setContext_get_display (v : Context) : (s.setContext sd v).display sd' = s.display sd' := rfl
@[simp] theorem State.setContext_get_runs (v : Context) : (s.setContext sd v).runs sd' = s.runs sd' := rfl
@[simp] theorem State.setContext_get_timebase (v : Context) : (s.setContext sd v).timebase = s.timebase := rfl
@[simp] theorem State.setContext_get_power (v : Context) : (s.setContext sd v).power = s.power := rfl
@[simp] theorem State.setContext_get_night (v : Context) : (s.setContext sd v).night = s.night := rfl
@[simp] theorem State.setContext_get_faults (v : Context) : (s.setContext sd v).faults = s.faults := rfl
@[simp] theorem State.setContext_get_queue (v : Context) : (s.setContext sd v).queue = s.queue := rfl
@[simp] theorem State.setContext_get_link (v : Context) : (s.setContext sd v).link = s.link := rfl
@[simp] theorem State.setContext_get_restartCause (v : Context) : (s.setContext sd v).restartCause = s.restartCause := rfl
@[simp] theorem State.setContext_get_sent (v : Context) : (s.setContext sd v).sent = s.sent := rfl
@[simp] theorem State.setContext_get_raceCount (v : Context) : (s.setContext sd v).raceCount = s.raceCount := rfl
@[simp] theorem State.setContext_get_pending (v : Context) : (s.setContext sd v).pending = s.pending := rfl
@[simp] theorem State.setRuns_get_port (v : Runs) : (s.setRuns sd v).port sd' = s.port sd' := rfl
@[simp] theorem State.setRuns_get_pipe (v : Runs) : (s.setRuns sd v).pipe sd' = s.pipe sd' := rfl
@[simp] theorem State.setRuns_get_exposure (v : Runs) : (s.setRuns sd v).exposure sd' = s.exposure sd' := rfl
@[simp] theorem State.setRuns_get_glare (v : Runs) : (s.setRuns sd v).glare sd' = s.glare sd' := rfl
@[simp] theorem State.setRuns_get_comp (v : Runs) : (s.setRuns sd v).comp sd' = s.comp sd' := rfl
@[simp] theorem State.setRuns_get_store (v : Runs) : (s.setRuns sd v).store sd' = s.store sd' := rfl
@[simp] theorem State.setRuns_get_display (v : Runs) : (s.setRuns sd v).display sd' = s.display sd' := rfl
@[simp] theorem State.setRuns_get_context (v : Runs) : (s.setRuns sd v).context sd' = s.context sd' := rfl
@[simp] theorem State.setRuns_get_timebase (v : Runs) : (s.setRuns sd v).timebase = s.timebase := rfl
@[simp] theorem State.setRuns_get_power (v : Runs) : (s.setRuns sd v).power = s.power := rfl
@[simp] theorem State.setRuns_get_night (v : Runs) : (s.setRuns sd v).night = s.night := rfl
@[simp] theorem State.setRuns_faults_current (v : Runs) : (s.setRuns sd v).faults.current = s.faults.current := rfl
@[simp] theorem State.setRuns_faults_accrued (v : Runs) : (s.setRuns sd v).faults.accrued = s.faults.accrued := rfl
@[simp] theorem State.setRuns_faults_masks (v : Runs) : (s.setRuns sd v).faults.masks = s.faults.masks := rfl
@[simp] theorem State.setRuns_faults_locked (v : Runs) : (s.setRuns sd v).faults.locked = s.faults.locked := rfl
@[simp] theorem State.setRuns_faults_group (v : Runs) : (s.setRuns sd v).faults.group = s.faults.group := rfl
@[simp] theorem State.setRuns_faults_expiryAngle (v : Runs) : (s.setRuns sd v).faults.expiryAngle = s.faults.expiryAngle := rfl
@[simp] theorem State.setRuns_faults_expiryLux (v : Runs) : (s.setRuns sd v).faults.expiryLux = s.faults.expiryLux := rfl
@[simp] theorem State.setRuns_faults_flatZones (v : Runs) : (s.setRuns sd v).faults.flatZones = s.faults.flatZones := rfl
@[simp] theorem State.setRuns_get_queue (v : Runs) : (s.setRuns sd v).queue = s.queue := rfl
@[simp] theorem State.setRuns_get_link (v : Runs) : (s.setRuns sd v).link = s.link := rfl
@[simp] theorem State.setRuns_get_restartCause (v : Runs) : (s.setRuns sd v).restartCause = s.restartCause := rfl
@[simp] theorem State.setRuns_get_sent (v : Runs) : (s.setRuns sd v).sent = s.sent := rfl
@[simp] theorem State.setRuns_get_raceCount (v : Runs) : (s.setRuns sd v).raceCount = s.raceCount := rfl
@[simp] theorem State.setRuns_get_pending (v : Runs) : (s.setRuns sd v).pending = s.pending := rfl
@[simp] theorem State.setTimebase_get_port (v : Time) : (s.setTimebase v).port sd' = s.port sd' := rfl
@[simp] theorem State.setTimebase_get_pipe (v : Time) : (s.setTimebase v).pipe sd' = s.pipe sd' := rfl
@[simp] theorem State.setTimebase_get_exposure (v : Time) : (s.setTimebase v).exposure sd' = s.exposure sd' := rfl
@[simp] theorem State.setTimebase_get_glare (v : Time) : (s.setTimebase v).glare sd' = s.glare sd' := rfl
@[simp] theorem State.setTimebase_get_comp (v : Time) : (s.setTimebase v).comp sd' = s.comp sd' := rfl
@[simp] theorem State.setTimebase_get_store (v : Time) : (s.setTimebase v).store sd' = s.store sd' := rfl
@[simp] theorem State.setTimebase_get_display (v : Time) : (s.setTimebase v).display sd' = s.display sd' := rfl
@[simp] theorem State.setTimebase_get_context (v : Time) : (s.setTimebase v).context sd' = s.context sd' := rfl
@[simp] theorem State.setTimebase_get_runs (v : Time) : (s.setTimebase v).runs sd' = s.runs sd' := rfl
@[simp] theorem State.setTimebase_get_power (v : Time) : (s.setTimebase v).power = s.power := rfl
@[simp] theorem State.setTimebase_get_night (v : Time) : (s.setTimebase v).night = s.night := rfl
@[simp] theorem State.setTimebase_get_faults (v : Time) : (s.setTimebase v).faults = s.faults := rfl
@[simp] theorem State.setTimebase_get_queue (v : Time) : (s.setTimebase v).queue = s.queue := rfl
@[simp] theorem State.setTimebase_get_link (v : Time) : (s.setTimebase v).link = s.link := rfl
@[simp] theorem State.setTimebase_get_restartCause (v : Time) : (s.setTimebase v).restartCause = s.restartCause := rfl
@[simp] theorem State.setTimebase_get_sent (v : Time) : (s.setTimebase v).sent = s.sent := rfl
@[simp] theorem State.setTimebase_get_raceCount (v : Time) : (s.setTimebase v).raceCount = s.raceCount := rfl
@[simp] theorem State.setTimebase_get_pending (v : Time) : (s.setTimebase v).pending = s.pending := rfl
@[simp] theorem State.setPower_get_port (v : Power) : (s.setPower v).port sd' = s.port sd' := rfl
@[simp] theorem State.setPower_get_pipe (v : Power) : (s.setPower v).pipe sd' = s.pipe sd' := rfl
@[simp] theorem State.setPower_get_exposure (v : Power) : (s.setPower v).exposure sd' = s.exposure sd' := rfl
@[simp] theorem State.setPower_get_glare (v : Power) : (s.setPower v).glare sd' = s.glare sd' := rfl
@[simp] theorem State.setPower_get_comp (v : Power) : (s.setPower v).comp sd' = s.comp sd' := rfl
@[simp] theorem State.setPower_get_store (v : Power) : (s.setPower v).store sd' = s.store sd' := rfl
@[simp] theorem State.setPower_get_display (v : Power) : (s.setPower v).display sd' = s.display sd' := rfl
@[simp] theorem State.setPower_get_context (v : Power) : (s.setPower v).context sd' = s.context sd' := rfl
@[simp] theorem State.setPower_get_runs (v : Power) : (s.setPower v).runs sd' = s.runs sd' := rfl
@[simp] theorem State.setPower_get_timebase (v : Power) : (s.setPower v).timebase = s.timebase := rfl
@[simp] theorem State.setPower_get_night (v : Power) : (s.setPower v).night = s.night := rfl
@[simp] theorem State.setPower_get_faults (v : Power) : (s.setPower v).faults = s.faults := rfl
@[simp] theorem State.setPower_get_queue (v : Power) : (s.setPower v).queue = s.queue := rfl
@[simp] theorem State.setPower_get_link (v : Power) : (s.setPower v).link = s.link := rfl
@[simp] theorem State.setPower_get_restartCause (v : Power) : (s.setPower v).restartCause = s.restartCause := rfl
@[simp] theorem State.setPower_get_sent (v : Power) : (s.setPower v).sent = s.sent := rfl
@[simp] theorem State.setPower_get_raceCount (v : Power) : (s.setPower v).raceCount = s.raceCount := rfl
@[simp] theorem State.setPower_get_pending (v : Power) : (s.setPower v).pending = s.pending := rfl
@[simp] theorem State.setNight_get_port (v : Night) : (s.setNight v).port sd' = s.port sd' := rfl
@[simp] theorem State.setNight_get_pipe (v : Night) : (s.setNight v).pipe sd' = s.pipe sd' := rfl
@[simp] theorem State.setNight_get_exposure (v : Night) : (s.setNight v).exposure sd' = s.exposure sd' := rfl
@[simp] theorem State.setNight_get_glare (v : Night) : (s.setNight v).glare sd' = s.glare sd' := rfl
@[simp] theorem State.setNight_get_comp (v : Night) : (s.setNight v).comp sd' = s.comp sd' := rfl
@[simp] theorem State.setNight_get_store (v : Night) : (s.setNight v).store sd' = s.store sd' := rfl
@[simp] theorem State.setNight_get_display (v : Night) : (s.setNight v).display sd' = s.display sd' := rfl
@[simp] theorem State.setNight_get_context (v : Night) : (s.setNight v).context sd' = s.context sd' := rfl
@[simp] theorem State.setNight_get_runs (v : Night) : (s.setNight v).runs sd' = s.runs sd' := rfl
@[simp] theorem State.setNight_get_timebase (v : Night) : (s.setNight v).timebase = s.timebase := rfl
@[simp] theorem State.setNight_get_power (v : Night) : (s.setNight v).power = s.power := rfl
@[simp] theorem State.setNight_get_faults (v : Night) : (s.setNight v).faults = s.faults := rfl
@[simp] theorem State.setNight_get_queue (v : Night) : (s.setNight v).queue = s.queue := rfl
@[simp] theorem State.setNight_get_link (v : Night) : (s.setNight v).link = s.link := rfl
@[simp] theorem State.setNight_get_restartCause (v : Night) : (s.setNight v).restartCause = s.restartCause := rfl
@[simp] theorem State.setNight_get_sent (v : Night) : (s.setNight v).sent = s.sent := rfl
@[simp] theorem State.setNight_get_raceCount (v : Night) : (s.setNight v).raceCount = s.raceCount := rfl
@[simp] theorem State.setNight_get_pending (v : Night) : (s.setNight v).pending = s.pending := rfl
@[simp] theorem State.setFaults_get_port (v : Faults) : (s.setFaults v).port sd' = s.port sd' := rfl
@[simp] theorem State.setFaults_get_pipe (v : Faults) : (s.setFaults v).pipe sd' = s.pipe sd' := rfl
@[simp] theorem State.setFaults_get_exposure (v : Faults) : (s.setFaults v).exposure sd' = s.exposure sd' := rfl
@[simp] theorem State.setFaults_get_glare (v : Faults) : (s.setFaults v).glare sd' = s.glare sd' := rfl
@[simp] theorem State.setFaults_get_comp (v : Faults) : (s.setFaults v).comp sd' = s.comp sd' := rfl
@[simp] theorem State.setFaults_get_store (v : Faults) : (s.setFaults v).store sd' = s.store sd' := rfl
@[simp] theorem State.setFaults_get_display (v : Faults) : (s.setFaults v).display sd' = s.display sd' := rfl
@[simp] theorem State.setFaults_get_context (v : Faults) : (s.setFaults v).context sd' = s.context sd' := rfl
@[simp] theorem State.setFaults_get_timebase (v : Faults) : (s.setFaults v).timebase = s.timebase := rfl
@[simp] theorem State.setFaults_get_power (v : Faults) : (s.setFaults v).power = s.power := rfl
@[simp] theorem State.setFaults_get_night (v : Faults) : (s.setFaults v).night = s.night := rfl
@[simp] theorem State.setFaults_get_queue (v : Faults) : (s.setFaults v).queue = s.queue := rfl
@[simp] theorem State.setFaults_get_link (v : Faults) : (s.setFaults v).link = s.link := rfl
@[simp] theorem State.setFaults_get_restartCause (v : Faults) : (s.setFaults v).restartCause = s.restartCause := rfl
@[simp] theorem State.setFaults_get_sent (v : Faults) : (s.setFaults v).sent = s.sent := rfl
@[simp] theorem State.setFaults_get_raceCount (v : Faults) : (s.setFaults v).raceCount = s.raceCount := rfl
@[simp] theorem State.setFaults_get_pending (v : Faults) : (s.setFaults v).pending = s.pending := rfl
@[simp] theorem State.setQueue_get_port (v : ReportQueue) : (s.setQueue v).port sd' = s.port sd' := rfl
@[simp] theorem State.setQueue_get_pipe (v : ReportQueue) : (s.setQueue v).pipe sd' = s.pipe sd' := rfl
@[simp] theorem State.setQueue_get_exposure (v : ReportQueue) : (s.setQueue v).exposure sd' = s.exposure sd' := rfl
@[simp] theorem State.setQueue_get_glare (v : ReportQueue) : (s.setQueue v).glare sd' = s.glare sd' := rfl
@[simp] theorem State.setQueue_get_comp (v : ReportQueue) : (s.setQueue v).comp sd' = s.comp sd' := rfl
@[simp] theorem State.setQueue_get_store (v : ReportQueue) : (s.setQueue v).store sd' = s.store sd' := rfl
@[simp] theorem State.setQueue_get_display (v : ReportQueue) : (s.setQueue v).display sd' = s.display sd' := rfl
@[simp] theorem State.setQueue_get_context (v : ReportQueue) : (s.setQueue v).context sd' = s.context sd' := rfl
@[simp] theorem State.setQueue_get_runs (v : ReportQueue) : (s.setQueue v).runs sd' = s.runs sd' := rfl
@[simp] theorem State.setQueue_get_timebase (v : ReportQueue) : (s.setQueue v).timebase = s.timebase := rfl
@[simp] theorem State.setQueue_get_power (v : ReportQueue) : (s.setQueue v).power = s.power := rfl
@[simp] theorem State.setQueue_get_night (v : ReportQueue) : (s.setQueue v).night = s.night := rfl
@[simp] theorem State.setQueue_get_faults (v : ReportQueue) : (s.setQueue v).faults = s.faults := rfl
@[simp] theorem State.setQueue_get_link (v : ReportQueue) : (s.setQueue v).link = s.link := rfl
@[simp] theorem State.setQueue_get_restartCause (v : ReportQueue) : (s.setQueue v).restartCause = s.restartCause := rfl
@[simp] theorem State.setQueue_get_sent (v : ReportQueue) : (s.setQueue v).sent = s.sent := rfl
@[simp] theorem State.setQueue_get_raceCount (v : ReportQueue) : (s.setQueue v).raceCount = s.raceCount := rfl
@[simp] theorem State.setQueue_get_pending (v : ReportQueue) : (s.setQueue v).pending = s.pending := rfl
@[simp] theorem State.setLink_get_port (v : HostLink) : (s.setLink v).port sd' = s.port sd' := rfl
@[simp] theorem State.setLink_get_pipe (v : HostLink) : (s.setLink v).pipe sd' = s.pipe sd' := rfl
@[simp] theorem State.setLink_get_exposure (v : HostLink) : (s.setLink v).exposure sd' = s.exposure sd' := rfl
@[simp] theorem State.setLink_get_glare (v : HostLink) : (s.setLink v).glare sd' = s.glare sd' := rfl
@[simp] theorem State.setLink_get_comp (v : HostLink) : (s.setLink v).comp sd' = s.comp sd' := rfl
@[simp] theorem State.setLink_get_store (v : HostLink) : (s.setLink v).store sd' = s.store sd' := rfl
@[simp] theorem State.setLink_get_display (v : HostLink) : (s.setLink v).display sd' = s.display sd' := rfl
@[simp] theorem State.setLink_get_context (v : HostLink) : (s.setLink v).context sd' = s.context sd' := rfl
@[simp] theorem State.setLink_get_runs (v : HostLink) : (s.setLink v).runs sd' = s.runs sd' := rfl
@[simp] theorem State.setLink_get_timebase (v : HostLink) : (s.setLink v).timebase = s.timebase := rfl
@[simp] theorem State.setLink_get_power (v : HostLink) : (s.setLink v).power = s.power := rfl
@[simp] theorem State.setLink_get_night (v : HostLink) : (s.setLink v).night = s.night := rfl
@[simp] theorem State.setLink_get_faults (v : HostLink) : (s.setLink v).faults = s.faults := rfl
@[simp] theorem State.setLink_get_queue (v : HostLink) : (s.setLink v).queue = s.queue := rfl
@[simp] theorem State.setLink_get_restartCause (v : HostLink) : (s.setLink v).restartCause = s.restartCause := rfl
@[simp] theorem State.setLink_get_sent (v : HostLink) : (s.setLink v).sent = s.sent := rfl
@[simp] theorem State.setLink_get_raceCount (v : HostLink) : (s.setLink v).raceCount = s.raceCount := rfl
@[simp] theorem State.setLink_get_pending (v : HostLink) : (s.setLink v).pending = s.pending := rfl
@[simp] theorem State.emit_get_port (m : Sent) : (s.emit m).port sd' = s.port sd' := rfl
@[simp] theorem State.emit_get_pipe (m : Sent) : (s.emit m).pipe sd' = s.pipe sd' := rfl
@[simp] theorem State.emit_get_exposure (m : Sent) : (s.emit m).exposure sd' = s.exposure sd' := rfl
@[simp] theorem State.emit_get_glare (m : Sent) : (s.emit m).glare sd' = s.glare sd' := rfl
@[simp] theorem State.emit_get_comp (m : Sent) : (s.emit m).comp sd' = s.comp sd' := rfl
@[simp] theorem State.emit_get_store (m : Sent) : (s.emit m).store sd' = s.store sd' := rfl
@[simp] theorem State.emit_get_display (m : Sent) : (s.emit m).display sd' = s.display sd' := rfl
@[simp] theorem State.emit_get_context (m : Sent) : (s.emit m).context sd' = s.context sd' := rfl
@[simp] theorem State.emit_get_runs (m : Sent) : (s.emit m).runs sd' = s.runs sd' := rfl
@[simp] theorem State.emit_get_timebase (m : Sent) : (s.emit m).timebase = s.timebase := rfl
@[simp] theorem State.emit_get_power (m : Sent) : (s.emit m).power = s.power := rfl
@[simp] theorem State.emit_get_night (m : Sent) : (s.emit m).night = s.night := rfl
@[simp] theorem State.emit_get_faults (m : Sent) : (s.emit m).faults = s.faults := rfl
@[simp] theorem State.emit_get_queue (m : Sent) : (s.emit m).queue = s.queue := rfl
@[simp] theorem State.emit_get_link (m : Sent) : (s.emit m).link = s.link := rfl
@[simp] theorem State.emit_get_restartCause (m : Sent) : (s.emit m).restartCause = s.restartCause := rfl
@[simp] theorem State.emit_get_raceCount (m : Sent) : (s.emit m).raceCount = s.raceCount := rfl
@[simp] theorem State.emit_get_pending (m : Sent) : (s.emit m).pending = s.pending := rfl
@[simp] theorem State.report_get_port (r : Report) : (s.report r).port sd' = s.port sd' := rfl
@[simp] theorem State.report_get_pipe (r : Report) : (s.report r).pipe sd' = s.pipe sd' := rfl
@[simp] theorem State.report_get_exposure (r : Report) : (s.report r).exposure sd' = s.exposure sd' := rfl
@[simp] theorem State.report_get_glare (r : Report) : (s.report r).glare sd' = s.glare sd' := rfl
@[simp] theorem State.report_get_comp (r : Report) : (s.report r).comp sd' = s.comp sd' := rfl
@[simp] theorem State.report_get_store (r : Report) : (s.report r).store sd' = s.store sd' := rfl
@[simp] theorem State.report_get_display (r : Report) : (s.report r).display sd' = s.display sd' := rfl
@[simp] theorem State.report_get_context (r : Report) : (s.report r).context sd' = s.context sd' := rfl
@[simp] theorem State.report_get_runs (r : Report) : (s.report r).runs sd' = s.runs sd' := rfl
@[simp] theorem State.report_get_timebase (r : Report) : (s.report r).timebase = s.timebase := rfl
@[simp] theorem State.report_get_power (r : Report) : (s.report r).power = s.power := rfl
@[simp] theorem State.report_get_night (r : Report) : (s.report r).night = s.night := rfl
@[simp] theorem State.report_get_faults (r : Report) : (s.report r).faults = s.faults := rfl
@[simp] theorem State.report_get_link (r : Report) : (s.report r).link = s.link := rfl
@[simp] theorem State.report_get_restartCause (r : Report) : (s.report r).restartCause = s.restartCause := rfl
@[simp] theorem State.report_get_sent (r : Report) : (s.report r).sent = s.sent := rfl
@[simp] theorem State.report_get_raceCount (r : Report) : (s.report r).raceCount = s.raceCount := rfl
@[simp] theorem State.report_get_pending (r : Report) : (s.report r).pending = s.pending := rfl
@[simp] theorem State.judgeAttn_get_port : (s.judgeAttn).port sd' = s.port sd' := rfl
@[simp] theorem State.judgeAttn_get_pipe : (s.judgeAttn).pipe sd' = s.pipe sd' := rfl
@[simp] theorem State.judgeAttn_get_exposure : (s.judgeAttn).exposure sd' = s.exposure sd' := rfl
@[simp] theorem State.judgeAttn_get_glare : (s.judgeAttn).glare sd' = s.glare sd' := rfl
@[simp] theorem State.judgeAttn_get_comp : (s.judgeAttn).comp sd' = s.comp sd' := rfl
@[simp] theorem State.judgeAttn_get_store : (s.judgeAttn).store sd' = s.store sd' := rfl
@[simp] theorem State.judgeAttn_get_display : (s.judgeAttn).display sd' = s.display sd' := rfl
@[simp] theorem State.judgeAttn_get_context : (s.judgeAttn).context sd' = s.context sd' := rfl
@[simp] theorem State.judgeAttn_get_runs : (s.judgeAttn).runs sd' = s.runs sd' := rfl
@[simp] theorem State.judgeAttn_get_timebase : (s.judgeAttn).timebase = s.timebase := rfl
@[simp] theorem State.judgeAttn_get_power : (s.judgeAttn).power = s.power := rfl
@[simp] theorem State.judgeAttn_get_night : (s.judgeAttn).night = s.night := rfl
@[simp] theorem State.judgeAttn_get_faults : (s.judgeAttn).faults = s.faults := rfl
@[simp] theorem State.judgeAttn_get_link : (s.judgeAttn).link = s.link := rfl
@[simp] theorem State.judgeAttn_get_restartCause : (s.judgeAttn).restartCause = s.restartCause := rfl
@[simp] theorem State.judgeAttn_get_sent : (s.judgeAttn).sent = s.sent := rfl
@[simp] theorem State.judgeAttn_get_raceCount : (s.judgeAttn).raceCount = s.raceCount := rfl
@[simp] theorem State.judgeAttn_get_pending : (s.judgeAttn).pending = s.pending := rfl

/-! ### Two updates of one field -/

@[simp] theorem State.setPort_setPort (v v' : Port) : (s.setPort sd v).setPort sd v' = s.setPort sd v' := by cases sd <;> rfl
@[simp] theorem State.setPipe_setPipe (v v' : Pipeline) : (s.setPipe sd v).setPipe sd v' = s.setPipe sd v' := by cases sd <;> rfl
@[simp] theorem State.setExposure_setExposure (v v' : Exposure) : (s.setExposure sd v).setExposure sd v' = s.setExposure sd v' := by cases sd <;> rfl
@[simp] theorem State.setGlare_setGlare (v v' : Glare) : (s.setGlare sd v).setGlare sd v' = s.setGlare sd v' := by cases sd <;> rfl
@[simp] theorem State.setComp_setComp (v v' : Compositor) : (s.setComp sd v).setComp sd v' = s.setComp sd v' := by cases sd <;> rfl
@[simp] theorem State.setStore_setStore (v v' : FrameStore) : (s.setStore sd v).setStore sd v' = s.setStore sd v' := by cases sd <;> rfl
@[simp] theorem State.setDisplay_setDisplay (v v' : Display) : (s.setDisplay sd v).setDisplay sd v' = s.setDisplay sd v' := by cases sd <;> rfl
@[simp] theorem State.setContext_setContext (v v' : Context) : (s.setContext sd v).setContext sd v' = s.setContext sd v' := by cases sd <;> rfl

end Sys2Proof.Machine
end

