-- ==== Sys2Proof/Laws/Frames.lean ====
section
/-! SUPPORT. What each shared operation leaves unchanged: one frame per operation, composed from the frames of the updates. -/

namespace Sys2Proof.Machine

open Sys2Proof

variable {s t u : State} {sd : Side} {l l' : List Part}

/-! ### Frames compose -/

theorem Part.same_refl (p : Part) : p.same s s := by cases p <;> simp [Part.same]

theorem Part.same_trans (p : Part) (h : p.same s t) (h' : p.same t u) : p.same s u := by
  cases p <;> simp_all [Part.same]

theorem Unchanged.refl : Unchanged l s s := fun p _ => p.same_refl

theorem Unchanged.mono (h : Unchanged l s t) (hl : l ⊆ l') : Unchanged l' s t := fun p hp => h p fun hp' => hp (hl hp')

theorem Unchanged.trans (h : Unchanged l s t) (h' : Unchanged l t u) : Unchanged l s u :=
  fun p hp => p.same_trans (h p hp) (h' p hp)

/-- One change more, within the list of touched pieces. -/
theorem Unchanged.snoc {l' : List Part} (h : Unchanged l s t) (h' : Unchanged l' t u) (hl : l' ⊆ l := by simp) : Unchanged l s u :=
  h.trans (h'.mono hl)

theorem Unchanged.of_eq (h : s = t) : Unchanged l s t := h ▸ Unchanged.refl

/-! ### One update -/

variable (s sd)

theorem unchanged_setPort (v : Port) : Unchanged [.port sd] s (s.setPort sd v) := by
  rintro p hp; cases p <;> first | rfl | simp_all [Part.same]
theorem unchanged_setPipe (v : Pipeline) : Unchanged [.pipe sd] s (s.setPipe sd v) := by
  rintro p hp; cases p <;> first | rfl | simp_all [Part.same]
theorem unchanged_setExposure (v : Exposure) : Unchanged [.exposure sd] s (s.setExposure sd v) := by
  rintro p hp; cases p <;> first | rfl | simp_all [Part.same]
theorem unchanged_setGlare (v : Glare) : Unchanged [.glare sd] s (s.setGlare sd v) := by
  rintro p hp; cases p <;> first | rfl | simp_all [Part.same]
theorem unchanged_setComp (v : Compositor) : Unchanged [.comp sd] s (s.setComp sd v) := by
  rintro p hp; cases p <;> first | rfl | simp_all [Part.same]
theorem unchanged_setStore (v : FrameStore) : Unchanged [.store sd] s (s.setStore sd v) := by
  rintro p hp; cases p <;> first | rfl | simp_all [Part.same]
theorem unchanged_setDisplay (v : Display) : Unchanged [.display sd] s (s.setDisplay sd v) := by
  rintro p hp; cases p <;> first | rfl | simp_all [Part.same]
theorem unchanged_setContext (v : Context) : Unchanged [.context sd] s (s.setContext sd v) := by
  rintro p hp; cases p <;> first | rfl | simp_all [Part.same]
theorem unchanged_setRuns (v : Runs) : Unchanged [.runs sd] s (s.setRuns sd v) := by
  rintro p hp; cases p <;> first | rfl | simp_all [Part.same]
theorem unchanged_setTimebase (v : Time) : Unchanged [.timebase] s (s.setTimebase v) := by
  rintro p hp; cases p <;> first | rfl | simp_all [Part.same]
theorem unchanged_setPower (v : Power) : Unchanged [.power] s (s.setPower v) := by
  rintro p hp; cases p <;> first | rfl | simp_all [Part.same]
theorem unchanged_setNight (v : Night) : Unchanged [.night] s (s.setNight v) := by
  rintro p hp; cases p <;> first | rfl | simp_all [Part.same]
theorem unchanged_setQueue (v : ReportQueue) : Unchanged [.queue] s (s.setQueue v) := by
  rintro p hp; cases p <;> first | rfl | simp_all [Part.same]

theorem unchanged_emit (m : Sent) : Unchanged [.sent] s (s.emit m) := by
  rintro p hp; cases p <;> first | rfl | simp_all [Part.same]

/-- An update of the two fault sets alone. -/
theorem unchanged_setFaultSets (c a : FaultSet) :
    Unchanged [.faultSets] s (s.setFaults { s.faults with current := c, accrued := a }) := by
  rintro p hp; cases p <;> first | rfl | simp_all [Part.same]

/-- An update of the link that keeps the vehicle input record. -/
theorem unchanged_setLink (v : HostLink) (ha : v.angle = s.link.angle) (hl : v.lux = s.link.lux) :
    Unchanged answerParts s (s.setLink v) := by
  rintro p hp; cases p <;> first | rfl | simp_all [Part.same, answerParts]

/-! ### Reports, messages, exposure commands -/

theorem unchanged_report (r : Report) : Unchanged [.queue] s (s.report r) := unchanged_setQueue _ _

theorem unchanged_judgeAttn : Unchanged [.queue] s s.judgeAttn := unchanged_setQueue _ _

theorem unchanged_sendExpose : Unchanged [.port sd, .sent] s (sendExpose sd s) :=
  (Unchanged.refl.snoc (unchanged_emit s _)).snoc (unchanged_setPort _ sd _)

theorem unchanged_deliverE : Unchanged [.port sd, .sent] s (deliverE sd s) := by
  unfold deliverE; split
  · exact unchanged_sendExpose s sd
  · exact .refl

/-! ### The compositor's frame start and the display state -/

theorem unchanged_beginComposition (w : Option (BufName × Developed)) (x : FrameStore) :
    Unchanged [.pipe sd, .store sd, .comp sd] s (beginComposition sd w x s) :=
  ((Unchanged.refl.snoc (unchanged_setPipe s sd _)).snoc (unchanged_setStore _ sd _)).snoc (unchanged_setComp _ sd _)

theorem unchanged_tryFrameStart : Unchanged [.pipe sd, .store sd, .comp sd] s (tryFrameStart sd s) := by
  unfold tryFrameStart; split
  · exact unchanged_beginComposition s sd _ _
  · split
    · exact unchanged_beginComposition s sd _ _
    · exact .refl
  · exact .refl

/-- A change of display state other than to DARK touches no fault run. -/
theorem unchanged_changeDisplay {new : DisplayState} (h : new ≠ .dark) :
    Unchanged [.queue, .display sd, .comp sd, .pipe sd, .store sd] s (changeDisplay sd new s) := by
  unfold changeDisplay; simp only
  cases new with
  | dark => exact absurd rfl h
  | blanked =>
    exact (((Unchanged.refl.snoc (unchanged_report s _)).snoc (unchanged_setDisplay _ sd _)).snoc (unchanged_setComp _ sd _)).snoc
      (unchanged_tryFrameStart _ sd)
  | _ => exact ((Unchanged.refl.snoc (unchanged_report s _)).snoc (unchanged_setDisplay _ sd _)).snoc (unchanged_setComp _ sd _)

/-- A change to DARK sets one fault run, and starts no frame. -/
theorem unchanged_changeDisplay_dark :
    Unchanged [.queue, .display sd, .comp sd, .runs sd] s (changeDisplay sd .dark s) :=
  (((Unchanged.refl.snoc (unchanged_report s _)).snoc (unchanged_setDisplay _ sd _)).snoc (unchanged_setComp _ sd _)).snoc
    (unchanged_setRuns _ sd _)

theorem unchanged_viewLossRaised :
    Unchanged [.queue, .display sd, .comp sd, .pipe sd, .store sd] s (viewLossRaised sd s) := by
  unfold viewLossRaised; split
  · split <;> exact unchanged_changeDisplay s sd (by simp)
  · exact .refl

theorem unchanged_expireHold : Unchanged [.queue, .display sd, .comp sd, .pipe sd, .store sd] s (expireHold sd s) := by
  unfold expireHold; split
  · split
    · exact unchanged_changeDisplay s sd (by simp)
    · exact .refl
  · exact .refl

theorem unchanged_moveDark : Unchanged [.queue, .display sd, .comp sd, .runs sd] s (moveDark sd s) := by
  unfold moveDark; split
  · exact .refl
  · exact unchanged_changeDisplay_dark s sd

/-! ### Faults -/

theorem unchanged_reportFault (f : FaultId) (r : Report) : Unchanged [.queue] s (reportFault f r s) := by
  unfold reportFault; split
  · exact unchanged_report s r
  · exact .refl

theorem unchanged_raiseEvent (f : FaultId) : Unchanged [.faultSets, .queue] s (raiseEvent f s) :=
  (Unchanged.refl.snoc (unchanged_setFaultSets s s.faults.current _)).snoc (unchanged_reportFault _ f _)

theorem unchanged_clearFault (f : FaultId) : Unchanged [.faultSets, .queue] s (clearFault f s) := by
  unfold clearFault; split
  · exact (Unchanged.refl.snoc (unchanged_setFaultSets s _ s.faults.accrued)).snoc (unchanged_reportFault _ f _)
  · exact .refl

/-- A raise of an identity that is no view loss. -/
theorem unchanged_raise {f : FaultId} (h : f.viewLossSide = none) : Unchanged [.faultSets, .queue] s (raise f s) := by
  unfold raise; split
  · exact .refl
  · simp only [h]; exact (Unchanged.refl.snoc (unchanged_setFaultSets s _ _)).snoc (unchanged_reportFault _ f _)

/-- A raise of a view-loss identity of a side. -/
theorem unchanged_raise_viewLoss {f : FaultId} (h : f.viewLossSide = some sd) : Unchanged (faultParts sd) s (raise f s) := by
  unfold raise; split
  · exact .refl
  · simp only [h]
    exact ((Unchanged.refl.snoc (unchanged_setFaultSets s _ _) (by simp [faultParts])).snoc (unchanged_reportFault _ f _)
      (by simp [faultParts])).snoc (unchanged_viewLossRaised _ sd) (by simp [faultParts])

theorem unchanged_judgeVehicle : Unchanged [.faultSets, .queue] s (judgeVehicle s) := by
  unfold judgeVehicle; split
  · split
    · exact unchanged_raise s rfl
    · exact unchanged_clearFault s _
  · exact .refl

/-! ### The monitor link -/

theorem unchanged_sendBurst (n : Nat) : Unchanged [.display sd, .sent] s (sendBurst sd n s) :=
  (Unchanged.refl.snoc (unchanged_emit s _)).snoc (unchanged_setDisplay _ sd _)

theorem unchanged_startWake : Unchanged [.display sd, .sent] s (startWake sd s) := by
  unfold startWake; split
  · exact (Unchanged.refl.snoc (unchanged_setDisplay s sd _)).snoc (unchanged_sendBurst _ sd 1)
  · exact .refl

theorem unchanged_clearViewPath : Unchanged [.runs sd, .faultSets, .queue] s (clearViewPath sd s) :=
  (((Unchanged.refl.snoc (unchanged_clearFault s (.viewStale sd))).snoc (unchanged_clearFault _ (.displayLink sd))).snoc
    (unchanged_clearFault _ (.displayPath sd))).snoc (unchanged_setRuns _ sd _)

theorem unchanged_sleepLink : Unchanged [.display sd, .sent] s (sleepLink sd s) := by
  unfold sleepLink; split
  · exact (Unchanged.refl.snoc (unchanged_emit s _)).snoc (unchanged_setDisplay _ sd _)
  · exact (Unchanged.refl.snoc (unchanged_emit s _)).snoc (unchanged_setDisplay _ sd _)
  · exact .refl

theorem unchanged_becomeUnwanted :
    Unchanged [.display sd, .sent, .queue, .comp sd, .runs sd] s (becomeUnwanted sd s) :=
  ((Unchanged.refl.snoc (unchanged_sleepLink s sd)).snoc (unchanged_setDisplay _ sd _)).snoc (unchanged_moveDark _ sd)

theorem unchanged_sleepAndWake :
    Unchanged [.display sd, .sent, .queue, .comp sd, .runs sd] s (sleepAndWake sd s) :=
  ((((Unchanged.refl.snoc (unchanged_sleepLink s sd)).snoc (unchanged_setDisplay _ sd _)).snoc (unchanged_moveDark _ sd)).snoc
    (unchanged_setDisplay _ sd _)).snoc (unchanged_startWake _ sd)

/-- A path failure, with what follows where DISPLAY_PATH is current. -/
theorem unchanged_pathFailed (k : State → State)
    (hk : Unchanged [.display sd, .sent, .queue, .comp sd, .runs sd, .faultSets] s (k s)) :
    Unchanged [.display sd, .sent, .queue, .comp sd, .runs sd, .faultSets] s (pathFailed sd k s) := by
  unfold pathFailed; split
  · exact hk
  · exact (Unchanged.refl.snoc (unchanged_raise s (f := .displayPath sd) rfl)).snoc (unchanged_sleepAndWake _ sd)

/-! ### Training and the power state -/

theorem unchanged_startTraining : Unchanged [.port sd, .sent] s (startTraining sd s) := by
  unfold startTraining; simp only; split
  · exact (Unchanged.refl.snoc (unchanged_emit s _)).snoc (unchanged_setPort _ sd _)
  · exact (Unchanged.refl.snoc (unchanged_emit s _)).snoc (unchanged_setPort _ sd _)
  · exact .refl

theorem unchanged_changePower (new : PowerState) : Unchanged [.power, .queue] s (changePower new s) :=
  (Unchanged.refl.snoc (unchanged_setPower s _)).snoc (unchanged_report _ _)

theorem unchanged_judgeRunning : Unchanged [.power, .queue] s (judgeRunning s) := by
  unfold judgeRunning; split
  · split
    · exact unchanged_changePower s _
    · exact .refl
  · exact .refl

theorem unchanged_wakeEnabled : Unchanged [.display sd, .sent] s (if (s.display sd).enabled then startWake sd s else s) := by
  split
  · exact unchanged_startWake s sd
  · exact .refl

theorem unchanged_startingEffects :
    Unchanged [.port .left, .port .right, .sent, .display .left, .display .right, .night, .faultSets, .queue] s
      (startingEffects s) :=
  (((((Unchanged.refl.snoc (unchanged_startTraining s .left)).snoc (unchanged_startTraining _ .right)).snoc
    (unchanged_wakeEnabled _ .left)).snoc (unchanged_wakeEnabled _ .right)).snoc (unchanged_setNight _ _)).snoc
    (unchanged_judgeVehicle _)

theorem unchanged_enterStarting (w : WakeSource) : Unchanged startParts s (enterStarting w s) :=
  ((Unchanged.refl.snoc (unchanged_changePower s .starting) (by simp [startParts])).snoc (unchanged_setPower _ _)
    (by simp [startParts])).snoc (unchanged_startingEffects _) (by simp [startParts])

/-! ### Installations, saves, replies -/

theorem unchanged_install (e gainR gainB : Nat) (grid : ZoneMap Nat) (tags : ZoneMap Bool) (frames backlight : Nat) :
    Unchanged [.exposure sd, .glare sd, .context sd, .display sd] s (install sd e gainR gainB grid tags frames backlight s) :=
  (((Unchanged.refl.snoc (unchanged_setExposure s sd _)).snoc (unchanged_setGlare _ sd _)).snoc (unchanged_setContext _ sd _)).snoc
    (unchanged_setDisplay _ sd _)

theorem unchanged_installDefault : Unchanged [.exposure sd, .glare sd, .context sd, .display sd] s (installDefault sd s) :=
  unchanged_install s sd _ _ _ _ _ _ _

theorem unchanged_resetSide :
    Unchanged [.exposure sd, .glare sd, .context sd, .display sd, .port sd, .sent] s (resetSide sd s) := by
  unfold resetSide; simp only; split
  · exact Unchanged.refl.snoc (unchanged_installDefault s sd)
  · exact (Unchanged.refl.snoc (unchanged_installDefault s sd)).snoc (unchanged_deliverE _ sd)

theorem unchanged_placeReply (r : Reply) : Unchanged answerParts s (placeReply r s) := unchanged_setLink _ _ rfl rfl

theorem unchanged_formReply (k tag : Byte) (r : Result) (payload : List Byte) : Unchanged answerParts s (formReply k tag r payload s) :=
  unchanged_placeReply s _

theorem unchanged_refuseWith (k tag : Byte) (r : Result) (payload : List Byte) :
    Unchanged answerParts s (refuseWith k tag r payload s) := by
  have counted : Unchanged answerParts s (s.setLink
      { s.link with counters := { s.link.counters with requestsRefused := satInc s.link.counters.requestsRefused } }) :=
    unchanged_setLink s _ rfl rfl
  exact counted.trans (unchanged_formReply _ k tag r payload)

theorem unchanged_completeSave (tag : Byte) (settled resetAfter : Bool) :
    Unchanged ([.exposure sd, .glare sd, .context sd, .display sd, .port sd, .sent] ++ answerParts) s
      (completeSave sd tag settled resetAfter s) := by
  have saved : Unchanged [.context sd] s (s.setContext sd { s.context sd with saves := satInc (s.context sd).saves }) :=
    unchanged_setContext s sd _
  unfold completeSave; simp only
  generalize s.setContext sd _ = u at saved ⊢
  split
  · exact ((Unchanged.refl.snoc saved).snoc (unchanged_resetSide u sd)).snoc (unchanged_formReply _ _ _ _ _) (by simp [answerParts])
  · exact (Unchanged.refl.snoc saved).snoc (unchanged_formReply u _ _ _ _) (by simp [answerParts])

theorem unchanged_endSave (settled : Bool) :
    Unchanged ([.exposure sd, .glare sd, .context sd, .display sd, .port sd, .sent] ++ answerParts) s (endSave sd settled s) := by
  unfold endSave; split
  · exact .refl
  · simp only
    have ended : Unchanged [.context sd] s (s.setContext sd { s.context sd with save := none }) := unchanged_setContext s sd _
    generalize s.setContext sd _ = u at ended ⊢
    have freed : Unchanged answerParts u (u.setLink { u.link with busy := none }) := unchanged_setLink u _ rfl rfl
    generalize u.setLink _ = v at freed ⊢
    exact ((Unchanged.refl.snoc ended).snoc freed (by simp [answerParts])).trans (unchanged_completeSave v sd _ _ _)

/-! ### Training completions -/

theorem unchanged_judgeRetained (identity : BitVec 64) :
    Unchanged [.exposure sd, .glare sd, .context sd, .display sd] s (judgeRetained sd identity s) := by
  unfold judgeRetained; simp only; split
  · exact Unchanged.refl.snoc (unchanged_setContext s sd _)
  · split
    · exact .refl
    · exact (Unchanged.refl.snoc (unchanged_installDefault s sd)).snoc (unchanged_setContext _ sd _)

theorem unchanged_adoptNight (n : NightState) : Unchanged [.night] s (adoptNight n s) := by
  unfold adoptNight; split
  · exact .refl
  · exact unchanged_setNight s _

theorem unchanged_applyRestore (i : Image) :
    Unchanged [.exposure sd, .glare sd, .context sd, .display sd, .night, .queue] s (applyRestore sd i s) :=
  (((Unchanged.refl.snoc (unchanged_install s sd _ _ _ _ _ _ _)).snoc (unchanged_adoptNight _ i.night)).snoc
    (unchanged_setContext _ sd _)).snoc (unchanged_report _ _)

theorem unchanged_rejectRestore : Unchanged [.context sd, .faultSets, .queue] s (rejectRestore sd s) :=
  ((Unchanged.refl.snoc (unchanged_raiseEvent s (.contextRejected sd))).snoc (unchanged_report _ _)).snoc (unchanged_setContext _ sd _)

theorem unchanged_judgeTraining (identity : BitVec 64) :
    Unchanged [.exposure sd, .glare sd, .context sd, .display sd, .night, .faultSets, .queue] s (judgeTraining sd identity s) := by
  unfold judgeTraining
  have judged := unchanged_judgeRetained s sd identity
  generalize judgeRetained sd identity s = u at judged ⊢
  refine Unchanged.trans (Unchanged.refl.snoc judged) ?_
  unfold judgeRestore; split
  · exact .refl
  · refine Unchanged.snoc ?_ (unchanged_setContext _ sd _)
    split
    · exact Unchanged.refl.snoc (unchanged_applyRestore u sd _)
    · exact Unchanged.refl.snoc (unchanged_rejectRestore u sd)

end Sys2Proof.Machine
end

