-- ==== Sys2Proof/Laws/Layout.lean ====
section
/-! SUPPORT. The values of Layout as the bytes that the model's replies are built of. -/

namespace Sys2Proof.Machine

open Sys2Proof

theorem Layout.u1_eq (n : Nat) : Layout.u1 n = beBytes 1 n := by simp [Layout.u1, beBytes, List.range_succ]

theorem Layout.u2_eq (n : Nat) : Layout.u2 n = beBytes 2 n := by
  have h : n % 65536 / 256 % 256 = n / 256 % 256 := by omega
  simp [Layout.u2, be16, beBytes, List.range_succ, BitVec.ofNat, Fin.ofNat, h]

theorem Layout.u4_eq (n : Nat) : Layout.u4 n = beBytes 4 n := by
  have h1 : n % 4294967296 / 16777216 % 256 = n / 16777216 % 256 := by omega
  have h2 : n % 4294967296 / 65536 % 256 = n / 65536 % 256 := by omega
  have h3 : n % 4294967296 / 256 % 256 = n / 256 % 256 := by omega
  simp [Layout.u4, be32, beBytes, List.range_succ, h1, h2, h3, ← BitVec.toNat_inj]

theorem Layout.opt_eq {α : Type} (width : Nat) (enc : α → List Byte) (v : Option α) :
    Layout.opt width (v.map enc) = optBytes width enc v := by
  cases v <;> rfl

end Sys2Proof.Machine
end

