-- ==== Sys2Proof/Laws/Ops.lean ====
section
/-! SUPPORT. What each shared operation does: one lemma that says once all it can do, or one lemma per piece it writes. -/

namespace Sys2Proof.Machine

open Sys2Proof

/-! ### Limits and moves -/

theorem clampNat_eq (x lo hi : Nat) : clampNat x lo hi = max lo (min x hi) := rfl

theorem le_clampNat (x lo hi : Nat) : lo ≤ clampNat x lo hi := Nat.le_max_left ..

theorem clampNat_le {x lo hi : Nat} (h : lo ≤ hi) : clampNat x lo hi ≤ hi := Nat.max_le.mpr ⟨h, Nat.min_le_right ..⟩

/-- A move never passes its target. -/
theorem approach_between (x target step : Nat) :
    min x target ≤ approach x target step ∧ approach x target step ≤ max x target := by
  unfold approach; split <;> omega

theorem approach_eq (x target step : Nat) :
    (x ≤ target → approach x target step = min target (x + step)) ∧ (target ≤ x → approach x target step = max target (x - step)) := by
  unfold approach; split <;> constructor <;> intro <;> omega

theorem satInc_le (n : Nat) : satInc n ≤ counterMax := Nat.min_le_right ..

/-! ### Reports -/

theorem report_queue (s : State) (r : Report) : (s.report r).queue = queueAfter s s.timebase [r] := rfl

/-- Reports handed one after another, the threshold and the moment standing. -/
theorem queueAfter_append (s : State) (t : Time) (l l' : List Report) :
    queueAfter s t (l ++ l') = queueAfter { s with queue := queueAfter s t l } t l' := by
  simp [queueAfter, List.foldl_append]

theorem queueAfter_nil (s : State) (t : Time) : queueAfter s t [] = s.queue := rfl

/-- What the queue after some reports depends on. -/
theorem queueAfter_congr {s u : State} (t : Time) (l : List Report) (hq : u.queue = s.queue) (hg : u.faults.group = s.faults.group) :
    queueAfter u t l = queueAfter s t l := by
  simp [queueAfter, hq, hg]

/-- A report after others. -/
theorem report_queue_after {s u : State} {l : List Report} (r : Report) (hq : u.queue = queueAfter s s.timebase l)
    (hg : u.faults.group = s.faults.group) (ht : u.timebase = s.timebase) :
    (u.report r).queue = queueAfter s s.timebase (l ++ [r]) := by
  rw [queueAfter_append, report_queue, ht]
  exact queueAfter_congr _ _ hq hg

/-! ### Faults -/

theorem reportFault_faults (f : FaultId) (r : Report) (s : State) : (reportFault f r s).faults = s.faults := by
  unfold reportFault; split <;> rfl

theorem reportFault_queue (f : FaultId) (r : Report) (s : State) :
    (reportFault f r s).queue = queueAfter s s.timebase (if s.faults.unmasked f then [r] else []) := by
  unfold reportFault; split <;> rfl

theorem raiseEvent_faults (f : FaultId) (s : State) :
    (raiseEvent f s).faults = { s.faults with accrued := FaultSet.insert s.faults.accrued f } := by
  unfold raiseEvent; rw [reportFault_faults]; rfl

theorem raiseEvent_queue (f : FaultId) (s : State) :
    (raiseEvent f s).queue = queueAfter s s.timebase (if s.faults.unmasked f then [.faultRaised f false] else []) := by
  unfold raiseEvent; rw [reportFault_queue]; rfl

theorem clearFault_faults (f : FaultId) (s : State) :
    (clearFault f s).faults =
      if FaultSet.has s.faults.current f then { s.faults with current := FaultSet.erase s.faults.current f } else s.faults := by
  unfold clearFault; split
  · rw [reportFault_faults]; rfl
  · rfl

theorem clearFault_queue (f : FaultId) (s : State) :
    (clearFault f s).queue = queueAfter s s.timebase (clearedReport f s) := by
  unfold clearFault clearedReport; split
  · next h => rw [reportFault_queue]; simp only [h, Bool.and_true]; rfl
  · next h => simp [h, queueAfter]

theorem erase_absent {x : FaultSet} {f : FaultId} (h : FaultSet.has x f = false) : FaultSet.erase x f = x := by
  unfold FaultSet.erase
  ext i hi
  simp only [FaultSet.has] at h
  simp only [BitVec.getElem_and, BitVec.getElem_not, BitVec.getElem_shiftLeft]
  by_cases hc : i = f.code
  · subst hc; simp [← BitVec.getLsbD_eq_getElem, h]
  · by_cases hlt : i < f.code
    · simp [hlt]
    · have : i - f.code ≠ 0 := by omega
      simp [hlt, this]

/-- A clear takes the identity out of the current set alone (R115). -/
theorem clearFault_cleared (f : FaultId) (s : State) : Cleared f s (clearFault f s) := by
  unfold Cleared; rw [clearFault_faults]; split
  · exact ⟨rfl, rfl⟩
  · next h => exact ⟨(erase_absent (by simpa using h)).symm, rfl⟩

/-- A raise that touches nothing beyond the sets and the queue: of an identity that is no view loss (R114). -/
theorem raise_faults {f : FaultId} (hf : f.viewLossSide = none) (s : State) :
    (raise f s).faults =
      if FaultSet.has s.faults.current f then s.faults
      else { s.faults with current := FaultSet.insert s.faults.current f, accrued := FaultSet.insert s.faults.accrued f } := by
  unfold raise; split
  · rfl
  · simp only [hf]; rw [reportFault_faults]; rfl

theorem raise_queue {f : FaultId} (hf : f.viewLossSide = none) (s : State) :
    (raise f s).queue = queueAfter s s.timebase (raisedReport f s) := by
  unfold raise raisedReport; split
  · next h => simp [h, queueAfter]
  · next h => simp only [hf]; rw [reportFault_queue]; simp [h]; rfl

/-! ### The compositor's frame start and the display state -/

theorem tryFrameStart_faults (sd : Side) (s : State) : (tryFrameStart sd s).faults = s.faults := by
  unfold tryFrameStart; split
  · rfl
  · split <;> rfl
  · rfl

@[simp] theorem State.setDisplay_freshAngle (s : State) (sd : Side) (d : Display) : (s.setDisplay sd d).freshAngle = s.freshAngle := rfl

/-- With a FREE slot the store claims the one of the lowest number and changes nothing else (R88). -/
theorem FrameStore.claim_of_free {x : FrameStore} (h : Slot.free ∈ x.slots) :
    ∃ y, x.claim = some y ∧ y.slots = claimFree x.slots
      ∧ y = { x with slot0 := y.slot0, slot1 := y.slot1, slot2 := y.slot2 } := by
  obtain ⟨a, b, c⟩ := x
  unfold FrameStore.claim
  cases a <;> cases b <;> cases c <;> simp_all [FrameStore.slots, claimFree]

/-- In BLANKED with the blank request set, an IDLE compositor with a claimable slot begins (R79). -/
theorem tryFrameStart_blanked {sd : Side} {u : State} {y : FrameStore} (hc : (u.comp sd).inFlight = none)
    (hr : (u.comp sd).blankRequest = true) (hd : (u.display sd).state = .blanked) (hy : (u.store sd).claim = some y) :
    tryFrameStart sd u = beginComposition sd (u.pipe sd).waiting y u := by
  unfold tryFrameStart
  rw [hc, hy]
  cases (u.pipe sd).waiting <;> simp [hr, hd]

theorem tryFrameStart_composing {sd : Side} {u : State} (hc : (u.comp sd).inFlight ≠ none) : tryFrameStart sd u = u := by
  unfold tryFrameStart
  cases h : (u.comp sd).inFlight with
  | none => exact absurd h hc
  | some c => rfl

/-- The state in which the move to BLANKED tries its frame start. -/
theorem changeDisplay_blanked_eq (sd : Side) (s : State) :
    ∃ u : State, changeDisplay sd .blanked s = tryFrameStart sd u ∧ u.comp sd = { s.comp sd with blankRequest := true }
      ∧ u.pipe sd = s.pipe sd ∧ u.store sd = s.store sd ∧ (u.display sd).state = .blanked ∧ u.freshAngle = s.freshAngle :=
  ⟨_, rfl, by simp [blankAfter], by simp, by simp, by simp, rfl⟩

/-- All that a move to BLANKED does to the view of its side (R79, R80, R88). -/
theorem changeDisplay_blanked_starts (sd : Side) (s : State) : BlankStarts sd true s (changeDisplay sd .blanked s) := by
  obtain ⟨u, he, hc, hp, hx, hd, ha⟩ := changeDisplay_blanked_eq sd s
  rw [he]
  refine ⟨fun hi hf => ?_, fun hi => ?_⟩
  · obtain ⟨y, hy, hs, hrest⟩ := FrameStore.claim_of_free hf
    rw [tryFrameStart_blanked (y := y) (by simp [hc, hi]) (by simp [hc]) hd (by rw [hx, hy])]
    refine ⟨?_, by simpa [beginComposition] using hs, by simpa [beginComposition] using hrest, fun hw => ?_, fun n d hw => ?_⟩
    · simp [beginComposition, CompositionStarts, hc, hp, hd, ha, DisplayState.content, Compositor.startFrame,
        Compositor.latch, pannedX]
      rfl
    · simp [beginComposition, hp, hw]
    · cases n <;> simp [beginComposition, hp, hw, Pipeline.setBuf]
  · rw [tryFrameStart_composing (by simp [hc, hi])]
    exact ⟨hc, hp, hx⟩
/-- A move other than to DARK leaves the supervisor alone. -/
theorem changeDisplay_faults (sd : Side) {new : DisplayState} (h : new ≠ .dark) (s : State) :
    (changeDisplay sd new s).faults = s.faults := by
  unfold changeDisplay; simp only
  cases new with
  | dark => exact absurd rfl h
  | blanked => exact tryFrameStart_faults ..
  | _ => rfl

/-- The display port after a move. -/
theorem changeDisplay_display (sd : Side) (new : DisplayState) (s : State) :
    (changeDisplay sd new s).display sd = { s.display sd with state := new, holdCount := new.holdCountOn (s.display sd).holdCount } := by
  unfold changeDisplay; simp only
  have hd (u : State) : (tryFrameStart sd u).display sd = u.display sd :=
    unchanged_tryFrameStart u sd (.display sd) (by simp)
  cases new <;> simp [hd]

theorem changeDisplay_queue (sd : Side) (new : DisplayState) (s : State) :
    (changeDisplay sd new s).queue = queueAfter s s.timebase [.displayChanged sd (s.display sd).state new] := by
  unfold changeDisplay; simp only
  have hq (u : State) : (tryFrameStart sd u).queue = u.queue := unchanged_tryFrameStart u sd .queue (by simp)
  cases new <;> first | rfl | (rw [hq]; rfl)

theorem viewLossRaised_faults (sd : Side) (s : State) : (viewLossRaised sd s).faults = s.faults := by
  unfold viewLossRaised; split
  · split <;> exact changeDisplay_faults sd (by simp) s
  · rfl

/-- A raise of any identity, as the two sets see it (R114, R117). -/
theorem raise_raised (f : FaultId) (s : State) : Raised f s (raise f s) := by
  unfold Raised raise; split
  · exact ⟨rfl, rfl⟩
  · simp only
    split
    · rw [viewLossRaised_faults, reportFault_faults]; exact ⟨rfl, rfl⟩
    · rw [reportFault_faults]; exact ⟨rfl, rfl⟩

/-- A display is out of LIVE after a view loss of its side has been raised (R103). -/
theorem viewLossRaised_not_live (sd : Side) (s : State) : ((viewLossRaised sd s).display sd).state ≠ .live := by
  unfold viewLossRaised; split
  · split <;> simp [changeDisplay_display]
  · assumption

theorem moveDark_display (sd : Side) (s : State) :
    ((moveDark sd s).display sd).state = .dark ∧
      (moveDark sd s).display sd =
        (if (s.display sd).state = .dark then s.display sd else { s.display sd with state := .dark, holdCount := 0 }) := by
  unfold moveDark; split
  · next h => simp [h]
  · next h =>
    have : (s.display sd).state ≠ .dark := h
    simp [changeDisplay_display, this, DisplayState.holdCountOn]

theorem moveDark_queue (sd : Side) (s : State) :
    (moveDark sd s).queue =
      queueAfter s s.timebase
        (if (s.display sd).state = .dark then [] else [.displayChanged sd (s.display sd).state .dark]) := by
  unfold moveDark; split
  · next h => simp [h, queueAfter]
  · next h =>
    have : (s.display sd).state ≠ .dark := h
    simp [changeDisplay_queue, this]

/-! ### Exposure commands and installations -/

/-- What the delivery of an E sends and records (R12). -/
theorem deliverE_eq (sd : Side) (s : State) :
    (deliverE sd s).sent =
        (if (s.port sd).link = .streaming then s.sent ++ [.expose sd (s.exposure sd).e (s.pipe sd).expAct.ratioCode] else s.sent)
      ∧ (deliverE sd s).port sd =
        (if (s.port sd).link = .streaming then
          { s.port sd with
            lastExpose := some ⟨(s.exposure sd).e, (s.pipe sd).expAct.ratioCode⟩
            outstanding := true
            resendDone := false
            unsettledRun := 0 }
        else s.port sd) := by
  unfold deliverE; split
  · next h => simp [h, sendExpose, State.emit]
  · next h =>
    have : (s.port sd).link ≠ .streaming := h
    simp [this]

theorem allEmpty_eq : allEmpty = List.replicate 128 false := by decide

theorem zones_length : zones.length = 128 := by simp [zones, zoneCount]

theorem zeroGrid_eq (a : Nat) : (zones.map fun _ => 0).map (min · a) = List.replicate 128 0 := by
  simp [zones, zoneCount, List.map_const', -List.reduceReplicate]

/-- The default state of a side (R141). -/
theorem installDefault_eq (sd : Side) (s : State) :
    let t := installDefault sd s
    t.exposure sd =
        { s.exposure sd with e := clampNat 128 (s.pipe sd).expAct.eMin (s.pipe sd).expAct.eMax, gainR := 256, gainB := 256 }
      ∧ t.glare sd = { s.glare sd with grid := List.replicate 128 0, tags := List.replicate 128 false }
      ∧ t.context sd = { s.context sd with framesAdapted := 0 }
      ∧ t.display sd = { s.display sd with backlight := min (s.night.target.get sd) 1023 } := by
  simp [installDefault, install, inLimits, allEmpty_eq, zones_length, clampNat, -List.reduceReplicate]

/-! ### Requests -/

/-- The link after a reply has been placed (R164, R165). -/
theorem formReply_link (k tag : Byte) (r : Result) (payload : List Byte) (s : State) :
    (formReply k tag r payload s).link =
      { s.link with
        holder := some ⟨k, tag, r.code, s.summary, payload⟩
        busyDrop := false
        reading := s.link.reading.map Reading.superseded } := rfl

/-- A byte that the interface takes at all (R161, R163). -/
theorem clocked_of_receives {b : Byte} {s : State} (h : Receives b s) (k : State → State) :
    clocked b k s = k (s.setLink { s.link with ffRun := runAfter b s }) := by
  obtain ⟨h₁, h₂, h₃⟩ := h
  unfold clocked; split
  · contradiction
  · simp_all
  · next hp hr =>
    have hrun : ¬64 ≤ runAfter b s := by
      unfold runAfter; split
      · next hb => exact fun hle => h₃ ⟨hb, by omega⟩
      · omega
    simp only [runAfter] at hrun ⊢
    exact if_neg hrun

/-- A request that reaches its kind is judged with the partial request gone and the run counted (R161, R164). -/
theorem completeRequest_of_reaches {kind : Byte} {head : ReqHead} {payload : List Byte} {s : State} (h : Reaches kind head payload s) :
    completeRequest kind head payload s =
      judgeKind kind head.tag payload
        (s.setLink { s.link with partialReq := none, partialDeadline := none, ffRun := runAfter (lowByte head.crc) s }) := by
  obtain ⟨h₁, h₂, h₃⟩ := h
  rw [completeRequest, clocked_of_receives h₁]
  simp [judgeRequest, dropPartial, h₂, h₃, State.setLink]

/-- The bytes of a 16-bit value read back. -/
theorem beNat_beBytes_two (n : Nat) (h : n < 65536) : beNat (beBytes 2 n) = n := by
  simp [beNat, beBytes, List.range_succ]; omega

theorem beBytes_length (k n : Nat) : (beBytes k n).length = k := by simp [beBytes]

/-- The bytes of a 32-bit value read back. -/
theorem beNat_be32 (w : BitVec 32) : beNat (be32 w) = w.toNat := by
  have h := w.isLt
  simp [be32, beBytes, beNat, List.range_succ]
  omega

/-! ### Images (R143) -/

theorem Image.body_length (i : Image) (sd : Side) : (i.body sd).length = 167 := by
  simp [Image.body, be64, beBytes_length, tagBytes, zones_length]

theorem Image.take_bytes (i : Image) (sd : Side) : (i.bytes sd).take 167 = i.body sd := by
  rw [Image.bytes, ← Image.body_length i sd, List.take_left]

/-- The CRC of an image as it is formed is that of its bytes. -/
theorem Image.bytes_crc (i : Image) (sd : Side) : imageNat (i.bytes sd) 167 4 = (crc32 ((i.bytes sd).take 167)).toNat := by
  rw [Image.take_bytes, imageNat, Image.bytes]
  rw [show (i.body sd ++ be32 (crc32 (i.body sd))).drop 167 = be32 (crc32 (i.body sd)) by
    rw [← Image.body_length i sd, List.drop_left]]
  rw [List.take_of_length_le (by simp [be32, beBytes_length]), beNat_be32]

end Sys2Proof.Machine
end

