-- ==== Sys2Proof/Laws/PerInstr.lean ====
section
/-! SUPPORT. The statement made of each command as syntax, one lemma for each constructor. -/

namespace Sys2Proof.Laws.RequestFits

open Sys2Proof Sys2Proof.Machine

/-- A well-formed request command has a payload that a frame can carry, and one whose kind is none of the fourteen is an
UNKNOWN_KIND_REQUEST (11, introduction; R164 step 3). -/
def Statement (i : Instr) : Prop :=
  ∀ (kind : Byte) (head : ReqHead) (payload : List Byte), requestOf i = some (kind, head, payload) → i.wellFormed = true →
    payload.length ≤ 1024 ∧ (knownKind kind = false → i = .unknownKindRequest head kind payload)

/-- A command that is no request. -/
theorem of_none {i : Instr} (h : requestOf i = none) : Statement i := by
  intro kind head payload e
  simp [h] at e

/-- A request of a known kind with a payload that fits. -/
theorem of_some {i : Instr} {k : Byte} {hd : ReqHead} {p : List Byte} (h : requestOf i = some (k, hd, p))
    (hk : knownKind k = true) (hp : i.wellFormed = true → p.length ≤ 1024) : Statement i := by
  intro kind head payload e hw
  rw [h] at e
  obtain ⟨rfl, rfl, rfl⟩ := e
  exact ⟨hp hw, fun n => by simp [hk] at n⟩

theorem identityRecord (sd : Side) (identity : BitVec 64) (revision : Byte) :
    Statement (.identityRecord sd identity revision) := of_none rfl

theorem trainingDeadline (sd : Side) : Statement (.trainingDeadline sd) := of_none rfl

theorem retrainTime (sd : Side) : Statement (.retrainTime sd) := of_none rfl

theorem lossDeadline (sd : Side) : Statement (.lossDeadline sd) := of_none rfl

theorem sensorHeader (sd : Side) (counter : BitVec 16) (exposure ratio : Byte) (healthy : Bool) :
    Statement (.sensorHeader sd counter exposure ratio healthy) := of_none rfl

theorem sensorLine (sd : Side) (samples : Array Sample) (crc : BitVec 16) : Statement (.sensorLine sd samples crc) := of_none rfl

theorem statisticsCompletion (sd : Side) : Statement (.statisticsCompletion sd) := of_none rfl

theorem developmentCompletion (sd : Side) : Statement (.developmentCompletion sd) := of_none rfl

theorem compositionCompletion (sd : Side) : Statement (.compositionCompletion sd) := of_none rfl

theorem nightEvaluation : Statement .nightEvaluation := of_none rfl

theorem wakeDeadline (sd : Side) : Statement (.wakeDeadline sd) := of_none rfl

theorem wakeRetryTime (sd : Side) : Statement (.wakeRetryTime sd) := of_none rfl

theorem ready (sd : Side) (identity : BitVec 32) : Statement (.ready sd identity) := of_none rfl

theorem call (sd : Side) : Statement (.call sd) := of_none rfl

theorem scanStart (sd : Side) : Statement (.scanStart sd) := of_none rfl

theorem holdExpiry (sd : Side) : Statement (.holdExpiry sd) := of_none rfl

theorem echoSilence (sd : Side) : Statement (.echoSilence sd) := of_none rfl

theorem echo (sd : Side) (signature : BitVec 32) : Statement (.echo sd signature) := of_none rfl

theorem monitorStatus (sd : Side) (fault : Bool) (temperature : Byte) : Statement (.monitorStatus sd fault temperature) := of_none rfl

theorem monitorReply (sd : Side) (bytes : List Byte) : Statement (.monitorReply sd bytes) := of_none rfl

theorem vehicleExpiry (field : VehicleField) : Statement (.vehicleExpiry field) := of_none rfl

theorem saveDeadline (sd : Side) : Statement (.saveDeadline sd) := of_none rfl

theorem wakeLineEdge (high : Bool) : Statement (.wakeLineEdge high) := of_none rfl

theorem supplyOn : Statement .supplyOn := of_none rfl

theorem supplyLoss : Statement .supplyLoss := of_none rfl

theorem nrstAsserted : Statement .nrstAsserted := of_none rfl

theorem resetEnd (autostart wakeHigh : Bool) : Statement (.resetEnd autostart wakeHigh) := of_none rfl

theorem partialDeadline : Statement .partialDeadline := of_none rfl

theorem chipSelectRelease (midByte : Bool) : Statement (.chipSelectRelease midByte) := of_none rfl

theorem linkReset : Statement .linkReset := of_none rfl

theorem overlongRequest (kind tag : Byte) (length : BitVec 16) : Statement (.overlongRequest kind tag length) := of_none rfl

theorem unknownKindRequest (head : ReqHead) (kind : Byte) (payload : List Byte) :
    Statement (.unknownKindRequest head kind payload) := by
  intro k h p e hw
  simp only [requestOf, Option.some.injEq, Prod.mk.injEq] at e
  obtain ⟨rfl, rfl, rfl⟩ := e
  simp only [Instr.wellFormed, payloadFits, Bool.and_eq_true, decide_eq_true_eq] at hw
  exact ⟨hw.2, fun _ => rfl⟩

theorem readTransaction : Statement .readTransaction := of_none rfl

theorem replyRead : Statement .replyRead := of_none rfl

theorem ident (head : ReqHead) : Statement (.ident head) :=
  of_some rfl rfl fun _ => Nat.le_of_ble_eq_true rfl

theorem get (head : ReqHead) (group scope : Byte) : Statement (.get head group scope) :=
  of_some rfl rfl fun _ => Nat.le_of_ble_eq_true rfl

theorem status (head : ReqHead) : Statement (.status head) :=
  of_some rfl rfl fun _ => Nat.le_of_ble_eq_true rfl

theorem set (head : ReqHead) (group scope : Byte) (mask : BitVec 32) (values : List Byte) :
    Statement (.set head group scope mask values) :=
  of_some rfl rfl fun hw => by
    simp only [Instr.wellFormed, payloadFits, decide_eq_true_eq] at hw
    simp [setPayload, be32, beBytes]
    omega

theorem vehicle (head : ReqHead) (presence : Byte) (angle : BitVec 16) (lux : BitVec 32) :
    Statement (.vehicle head presence angle lux) :=
  of_some rfl rfl fun _ => Nat.le_of_ble_eq_true rfl

theorem overlaySet (head : ReqHead) (display id : Byte) (row x0 x1 : BitVec 16) (thickness palette : Byte) :
    Statement (.overlaySet head display id row x0 x1 thickness palette) :=
  of_some rfl rfl fun _ => Nat.le_of_ble_eq_true rfl

theorem overlayDelete (head : ReqHead) (display id : Byte) (row x0 x1 : BitVec 16) (thickness palette : Byte) :
    Statement (.overlayDelete head display id row x0 x1 thickness palette) :=
  of_some rfl rfl fun _ => Nat.le_of_ble_eq_true rfl

theorem faultctl (head : ReqHead) (presence values : BitVec 16) (clear : BitVec 64) :
    Statement (.faultctl head presence values clear) :=
  of_some rfl rfl fun _ => Nat.le_of_ble_eq_true rfl

theorem lock (head : ReqHead) : Statement (.lock head) :=
  of_some rfl rfl fun _ => Nat.le_of_ble_eq_true rfl

theorem collect (head : ReqHead) (n : Byte) : Statement (.collect head n) :=
  of_some rfl rfl fun _ => Nat.le_of_ble_eq_true rfl

theorem ctxSaveImmediate (head : ReqHead) (side resetAfter : Byte) : Statement (.ctxSaveImmediate head side resetAfter) :=
  of_some rfl rfl fun _ => Nat.le_of_ble_eq_true rfl

theorem ctxSaveSettled (head : ReqHead) (side resetAfter : Byte) : Statement (.ctxSaveSettled head side resetAfter) :=
  of_some rfl rfl fun _ => Nat.le_of_ble_eq_true rfl

theorem ctxLoad (head : ReqHead) (side : Byte) (image : List Byte) : Statement (.ctxLoad head side image) :=
  of_some rfl rfl fun hw => by
    simp only [Instr.wellFormed, payloadFits, decide_eq_true_eq] at hw
    simp only [List.length_cons]
    omega

theorem monitor (head : ReqHead) (display : Byte) (bytes : List Byte) : Statement (.monitor head display bytes) :=
  of_some rfl rfl fun hw => by
    simp only [Instr.wellFormed, payloadFits, decide_eq_true_eq] at hw
    simp only [List.length_cons]
    omega

theorem displayEnable (head : ReqHead) (display : Byte) : Statement (.displayEnable head display) :=
  of_some rfl rfl fun _ => Nat.le_of_ble_eq_true rfl

theorem displayDisable (head : ReqHead) (display : Byte) : Statement (.displayDisable head display) :=
  of_some rfl rfl fun _ => Nat.le_of_ble_eq_true rfl

theorem powerPark (head : ReqHead) : Statement (.powerPark head) :=
  of_some rfl rfl fun _ => Nat.le_of_ble_eq_true rfl

theorem powerWake (head : ReqHead) : Statement (.powerWake head) :=
  of_some rfl rfl fun _ => Nat.le_of_ble_eq_true rfl

theorem powerReset (head : ReqHead) : Statement (.powerReset head) :=
  of_some rfl rfl fun _ => Nat.le_of_ble_eq_true rfl

theorem requestByte (byte : Byte) : Statement (.requestByte byte) := of_none rfl

end Sys2Proof.Laws.RequestFits
end

