-- ==== Sys2Proof/Tests/Slice0.lean ====
section
/-! SUPPORT. Tests: the checks of WellFormed, values worked out in the manual's own sequences, one step at a time, and for each statement
with hypotheses a state and operands that meet them. -/

namespace Sys2Proof.Tests

set_option Elab.async false

open Sys2Proof Sys2Proof.Machine

/-! ### Small states -/

/-- The next state of an outcome; the state after reset where it is a stop. -/
def after (o : Host.Outcome State Fault Refusal) : State :=
  match o with
  | .next s => s
  | _ => State.reset

/-- The outcome is a next state. -/
def goesOn (o : Host.Outcome State Fault Refusal) : Bool :=
  match o with
  | .next _ => true
  | _ => false

/-- RUNNING with an empty queue. -/
def running : State :=
  { State.reset with power := ⟨.running, some .request, false, false, .released⟩, queue := ⟨[], false, 0⟩ }

def starting : State := running.setPower { running.power with state := .starting }

/-- A reset being held. -/
def held (h : Hold) : State := heldState h State.reset

/-- The state at a timebase value. -/
def atTime (n : Nat) (s : State) : State := s.setTimebase (BitVec.ofNat 32 n)

/-- A request head with the right CRC. -/
def headOf (k : Kind) (tag : Byte) (payload : List Byte) : ReqHead := ⟨tag, requestCrc k.code tag payload⟩

/-- The LEFT port in a link state. -/
def portIn (link : PortLink) (s : State) : State := s.setPort .left { s.port .left with link := link }

/-- The LEFT link and display in their states. -/
def displayIn (link : MonitorLink) (state : DisplayState) (s : State) : State :=
  s.setDisplay .left { s.display .left with link := link, state := state }

/-- Identities current and accrued. -/
def faulty (l : List FaultId) (s : State) : State :=
  let x := l.foldl FaultSet.insert 0
  s.setFaults { s.faults with current := x, accrued := x }

/-- Kind, tag, result and payload of the reply held. -/
def heldReply (s : State) : Option (Byte × Byte × Byte × List Byte) :=
  s.link.holder.map fun r => (r.kind, r.tag, r.result, r.payload)

/-- The reports in the queue. -/
def reports (s : State) : List Report := s.queue.entries.map Entry.report

/-! ### WellFormed refuses -/

theorem test_wellFormed_line_of_1919 : (Instr.sensorLine .left (Array.replicate 1919 0) 0).wellFormed = false := by decide +kernel
theorem test_wellFormed_reply_of_33 : (Instr.monitorReply .left (List.replicate 33 0)).wellFormed = false := by decide
theorem test_wellFormed_overlong_of_1024 : (Instr.overlongRequest 2 0 1024).wellFormed = false := by decide
theorem test_wellFormed_kind_14_is_known : (Instr.unknownKindRequest ⟨0, 0⟩ 14 []).wellFormed = false := by decide
theorem test_wellFormed_unknown_payload_of_1025 :
    (Instr.unknownKindRequest ⟨0, 0⟩ 15 (List.replicate 1025 0)).wellFormed = false := by decide +kernel
theorem test_wellFormed_set_of_1025 : (Instr.set ⟨0, 0⟩ 0 0 0 (List.replicate 1019 0)).wellFormed = false := by decide +kernel
theorem test_wellFormed_load_of_1025 : (Instr.ctxLoad ⟨0, 0⟩ 0 (List.replicate 1024 0)).wellFormed = false := by decide +kernel
theorem test_wellFormed_monitor_of_1025 : (Instr.monitor ⟨0, 0⟩ 0 (List.replicate 1024 0)).wellFormed = false := by decide +kernel
theorem test_wellFormed_accepts :
    (Instr.unknownKindRequest ⟨0, 0⟩ 0 []).wellFormed = true ∧ (Instr.overlongRequest 2 0 1025).wellFormed = true := by decide

/-! ### Arithmetic -/

/-- R169's check values, over the nine digits. -/
theorem test_crc_check_values :
    crc16 [0x31, 0x32, 0x33, 0x34, 0x35, 0x36, 0x37, 0x38, 0x39] = 0x29B1
      ∧ crc32 [0x31, 0x32, 0x33, 0x34, 0x35, 0x36, 0x37, 0x38, 0x39] = 0xCBF43926 := by decide +kernel

/-- 2.9, one photosite through the merge. -/
theorem test_merge_photosite : merge 6 3456 56 = 3520 ∧ merge 6 4031 56 = 3584 := by decide

/-- 2.9, one pixel of a uniform patch. -/
theorem test_uniform_patch :
    balance 320 10000 = 12500 ∧ balance 200 16000 = 12500 ∧ luma ⟨12500, 12000, 12500⟩ = 12207 ∧ logL 12207 = 215
      ∧ tone ToneGroup.default.day 12207 = 604 ∧ outChannel 12500 604 12207 = 618 ∧ outChannel 12000 604 12207 = 593 := by
  decide +kernel

/-- The grid of 4.7 before commit k. -/
def lampGrid : ZoneMap Nat :=
  zones.map fun n => if n = zoneAt 8 4 then 10 else if n ∈ neighbours (zoneAt 8 4) then 2 else 0

/-- The zone records of 4.7 with the lamp in zone (8, 4). -/
def lampRecords : List ZoneRecord :=
  zones.map fun n => if n = zoneAt 8 4 then ⟨50000, 393216, 0, 200, 0, 0, 0, false⟩ else ⟨5000, 6000, 0, 0, 5000, 5000, 5000, false⟩

def allValid : ZoneMap Bool := zones.map fun _ => true

/-- The grid after commit k. -/
def lampAfter : ZoneMap Nat := glareGrid .default .night lampGrid allValid lampRecords

/-- 4.7, a headlight arrives: the gains after commit k. -/
theorem test_headlight_gains :
    lampAfter.getD (zoneAt 8 4) 0 = 26 ∧ lampAfter.getD (zoneAt 7 3) 0 = 18 ∧ countAttenuated lampAfter = 9
      ∧ countAtMax 64 lampAfter = 0 := by decide +kernel

/-- 4.7, the two pixels. -/
theorem test_headlight_pixels :
    pixelGain lampAfter allValid 1020 607 = 26 ∧ attenM 26 = 22528 ∧ compress 65536 26 300000 = 146133
      ∧ tone ToneGroup.default.night 146133 = 787 ∧ tone ToneGroup.default.day 146133 = 836
      ∧ pixelGain lampAfter allValid 1000 600 = 24 ∧ compress 65536 24 500000 = 228460 := by decide +kernel

/-- 3.9, one exposure step with glare exclusion. -/
theorem test_exposure_step :
    let m : Metered :=
      { records := zones.map fun n => ⟨if n < 122 then 6000 else 30000, 0, 0, 0, 0, 0, 0, false⟩
        grid := zones.map fun n => if 16 ≤ n ∧ n < 22 then 5 else 0
        tags := allValid }
    let x := Exposure.adapt .default .dusk true m { Exposure.reset with e := 150 }
    x.e = 158 ∧ x.lastMean = some 7358 ∧ x.lastWeight = 106 ∧ x.lastError = some 20 ∧ x.exposureChanges = 1 := by decide +kernel

/-- 3.9: an error of −5 at gain 8 is a step of −2; the deadband holds at 2. -/
theorem test_exposure_rounding : stepE .default 100 (-5) = 98 ∧ stepE .default 100 2 = 100 ∧ stepE .default 238 30 = 240 := by decide

/-- 3.9, white balance from three zones. -/
theorem test_white_balance :
    let m : Metered :=
      { records := zones.map fun n =>
          if n = zoneAt 3 5 then ⟨5000, 0, 0, 0, 8000, 12000, 16000, false⟩
          else if n = zoneAt 4 5 then ⟨5000, 0, 0, 0, 9000, 12000, 14000, false⟩
          else if n = zoneAt 5 5 then ⟨5000, 0, 0, 0, 10000, 13000, 15000, false⟩
          else ⟨100, 0, 0, 0, 0, 0, 0, false⟩
        grid := zones.map fun _ => 0
        tags := allValid }
    let x := Exposure.whiteBalance .dusk m Exposure.reset
    x.wbZones = 3 ∧ x.wbTargetR = some 350 ∧ x.wbTargetB = some 210 ∧ x.gainR = 260 ∧ x.gainB = 252 := by decide +kernel

/-- 5.10, where a few target pixels come from. -/
theorem test_field_pixels :
    let g := ViewGroup.default
    fieldSource g.mainWindow true 960 0 0 = (1918, 0) ∧ fieldSource g.mainWindow true 960 799 959 = (1020, 1078)
      ∧ fieldSource g.wideWindow true 320 0 319 = (1917, 1077) := by decide

/-- 5.10, the view follows a right turn: frame starts 2 and 52. -/
theorem test_pan_steps :
    (Compositor.reset.startFrame .left (some 250)).panOffset = 8 ∧ (Compositor.reset.startFrame .left (some 250)).panTarget = 200
      ∧ (Compositor.startFrame .left none { Compositor.reset with panOffset := 400 }).panOffset = 392
      ∧ (Compositor.reset.startFrame .right (some 250)).panTarget = 0 := by decide

/-- 1.6, line repair in one frame: a bad line takes the nearest good one above it, else the first good one. -/
theorem test_line_repair :
    repair [⟨#[1], false⟩, ⟨#[2], false⟩, ⟨#[3], true⟩, ⟨#[4], false⟩] = [#[3], #[3], #[3], #[3]] := by decide

/-! ### One step of each event -/

/-- A port in TRAINING at 6,400 (1.6). -/
def training : State :=
  atTime 6400 (starting.setPort .left { Port.reset with link := .training, trainingDeadline := some 52000 })

/-- 1.6, start-up: the identity record. -/
theorem test_identityRecord_starts_streaming :
    let t := after (exec (.identityRecord .left 0x51A00C227E149D03 1) training)
    (t.port .left).link = .streaming ∧ (t.port .left).lastExpose = some ⟨128, 6⟩ ∧ (t.port .left).lossDeadline = some 56400
      ∧ t.sent = [.stream .left, .expose .left 128 6] ∧ t.power.state = .starting := by decide +kernel

/-- A side that retained another head's state, with an image of a third head waiting (9.7). -/
def replaced : State :=
  training.setContext .left
    { Context.reset with
      identityCopy := some 0x51A00C227E14A811
      pendingRestore := some ⟨true, false, .dusk, 196, 0x51A00C227E14A811, 300, 228, 620, 18, List.replicate 128 0, allValid⟩ }

/-- 9.7, a head replaced in the workshop. -/
theorem test_identityRecord_rejects_another_head :
    let t := after (exec (.identityRecord .left 0x51A00C227E150042 1) replaced)
    (t.context .left).lastOutcome = .rejectedIdentity ∧ (t.context .left).retainedDiscards = 1
      ∧ (t.context .left).restoresRejected = 1 ∧ reports t = [.faultRaised (.contextRejected .left) false, .contextRejected .left] := by
  decide +kernel

/-- 10.6: the RIGHT camera is missing; FAULT_RAISED 5 (here 4, LEFT), then STARTING to RUNNING. -/
theorem test_trainingDeadline_makes_running :
    let t := after (exec (.trainingDeadline .left) (training.setPort .right { Port.reset with link := .streaming }))
    (t.port .left).link = .lost ∧ (t.port .left).retrainTime = some 252000
      ∧ reports t = [.faultRaised (.sensorLost .left) false, .powerChanged .starting .running] := by decide +kernel

/-- A port in LOST whose retrain time is 350,000 (1.6). -/
def lost : State := running.setPort .left { Port.reset with link := .lost, retrainTime := some 350000 }

theorem test_retrainTime_trains :
    let t := after (exec (.retrainTime .left) lost)
    (t.port .left).link = .training ∧ (t.port .left).trainingDeadline = some 400000 ∧ t.timebase = 350000 := by decide +kernel

/-- A port in STREAMING whose loss deadline is 150,000 (1.6). -/
def streaming : State :=
  running.setPort .left { Port.reset with link := .streaming, lossDeadline := some 150000, lastExpose := some ⟨136, 6⟩ }

theorem test_lossDeadline_loses :
    let t := after (exec (.lossDeadline .left) streaming)
    (t.port .left).link = .lost ∧ (t.port .left).retrainTime = some 350000 ∧ (t.port .left).lastExpose = none
      ∧ (t.port .left).counters.losses = 1 ∧ t.faults.current = FaultSet.insert 0 (.sensorLost .left) := by decide +kernel

/-- A frame in progress with n lines received, all good. -/
def inFrame (n : Nat) : FrameInProgress := ⟨⟨812, 136, 6, true⟩, 9000, Array.replicate n ⟨#[], true⟩⟩

def receiving (n : Nat) : State := streaming.setPort .left { streaming.port .left with inProgress := some (inFrame n) }

theorem test_sensorHeader_discards_the_open_frame :
    let t := after (exec (.sensorHeader .left 813 136 6 true) (receiving 3))
    (t.port .left).counters.discardIncomplete = 1 ∧ (t.port .left).inProgress = some ⟨⟨813, 136, 6, true⟩, 0, #[]⟩ := by decide +kernel

/-- 1.6: a settled frame whose last line has arrived, here of two lines. -/
theorem test_a_complete_frame_is_handed_on :
    let t := completeFrame .left (inFrame 2) (receiving 2)
    (t.port .left).counters.framesValid = 1 ∧ (t.port .left).lastCounter = some 812 ∧ (t.port .left).lossDeadline = some 50000
      ∧ ((t.pipe .left).dev.map fun d => (d.source.frame.settled, d.buffer)) = some (true, .a) := by decide +kernel

theorem test_sensorLine_of_1919_is_malformed :
    exec (.sensorLine .left (Array.replicate 1919 0) 0) streaming = .fault .malformed := by
  have h : wellFormedLine (Array.replicate 1919 (0 : Sample)) = false := by decide +kernel
  generalize Array.replicate 1919 (0 : Sample) = a at *
  simp [exec, execSensorLine, h]

/-- A developed frame. -/
def aFrame (number : BitVec 16) : Developed :=
  ⟨⟨number, 9000, 136, 6, true, 0, #[], #[]⟩, latchFrame .left State.reset⟩

/-- A frame in development in buffer B while buffer A is READING. -/
def developing (done : Bool) : State :=
  running.setPipe .left
    { Pipeline.reset with dev := some ⟨aFrame 401, .b, done⟩, bufA := .reading (aFrame 400), bufB := .writing }

theorem test_statisticsCompletion_is_taken_once : after (exec (.statisticsCompletion .left) (developing true)) = developing true := by
  decide +kernel

/-- 4.3, R61: one commit of the default scene sets every tag VALID and counts a frame adapted. -/
theorem test_commit_validates_the_tags :
    let t := commit .left true (List.replicate 128 ⟨16384, 20000, 10000, 0, 5000, 5000, 5000, false⟩) 7 running
    (t.glare .left).tags = allValid ∧ (t.context .left).framesAdapted = 1 ∧ (t.exposure .left).lastError = none
      ∧ (t.runs .left).frozenSame = 1 := by decide +kernel

/-- 2.9, buffers: completion 401 waits behind the composition that reads A. -/
theorem test_developmentCompletion_waits :
    let t := after (exec (.developmentCompletion .left)
      ((developing true).setComp .left
        { Compositor.reset with inFlight := some ⟨.normal, some (.a, aFrame 400), Compositor.reset.latch⟩ }))
    (t.pipe .left).bufA = .reading (aFrame 400) ∧ (t.pipe .left).bufB = .waiting (aFrame 401) ∧ (t.pipe .left).framesDeveloped = 1 := by
  decide +kernel

/-- 2.9, buffers: with no FREE buffer a frame start claims the WAITING one. -/
theorem test_frame_start_claims_the_waiting_buffer :
    ({ Pipeline.reset with bufA := .reading (aFrame 400), bufB := .waiting (aFrame 401) } : Pipeline).claim = some (.b, true)
      ∧ ({ Pipeline.reset with bufB := .waiting (aFrame 402) } : Pipeline).claim = some (.a, false) := by decide

theorem test_compositionCompletion_of_an_idle_compositor : exec (.compositionCompletion .left) running = .next running := by rfl

/-- A slot record. -/
def aRecord (n : BitVec 16) (kind : Content) : SlotRecord := ⟨some n, some 9000, kind, 7, .start⟩

/-- 5.10, slots: a completion drops the older READY slot (event 8). -/
theorem test_completion_drops_the_ready_slot :
    ((⟨.shown (aRecord 102 .normal), .ready (aRecord 103 .normal), .filling, 0, 0, 0, 0, 0⟩ : FrameStore).finish (aRecord 104 .normal))
      = ⟨.shown (aRecord 102 .normal), .free, .ready (aRecord 104 .normal), 1, 0, 1, 0, 0⟩ := by decide

/-- 5.10, slots: scans 1 and 9. -/
theorem test_scans_hand_a_slot :
    let x : FrameStore := ⟨.shown (aRecord 100 .normal), .ready (aRecord 101 .normal), .free, 0, 0, 0, 0, 0⟩
    (x.scan .live).store = ⟨.free, .shown (aRecord 101 .normal), .free, 0, 0, 0, 0, 0⟩
      ∧ (x.scan .hold).handed = some (aRecord 100 .normal) ∧ (x.scan .hold).store.scanRepeats = 1 := by decide

/-- 3.9, dusk falls: the targets and the dwell of evaluation 1. -/
def dusk : State :=
  let s := streaming.setExposure .left { Exposure.reset with e := 209 }
  (s.setNight { Night.reset with state := .dusk, nextEval := some 100000, lastSource := .exposure,
                                 backAct := ⟨1023, 600, 180, 20, 0⟩ }).setDisplay .left { Display.reset with backlight := 1023 }

theorem test_nightEvaluation_dwells :
    let t := after (exec .nightEvaluation dusk)
    t.night.dwellCount = 1 ∧ t.night.dwellTarget = some .night ∧ t.night.state = .dusk ∧ t.night.target = ⟨620, 600⟩
      ∧ (t.display .left).backlight = 991 ∧ t.night.nextEval = some 200000 := by decide +kernel

theorem test_nightEvaluation_moves_at_the_dwell :
    (after (exec .nightEvaluation (dusk.setNight { dusk.night with dwellCount := 9, dwellTarget := some .night }))).night.state
      = .night := by decide +kernel

/-- 6.9, the door opens: attempt n of a wake sequence, its deadline at 20,000. -/
def waking (attempt : Nat) : State :=
  starting.setDisplay .left { Display.reset with link := .waking, wakeAttempt := attempt, wakeDeadline := some 20000 }

theorem test_wakeDeadline_retries :
    let t := after (exec (.wakeDeadline .left) (waking 1))
    (t.display .left).wakeAttempt = 2 ∧ (t.display .left).wakeDeadline = some 40000 ∧ (t.display .left).counters.wakeBursts = 1 := by
  decide +kernel

theorem test_wakeDeadline_fails_at_the_fourth :
    let t := after (exec (.wakeDeadline .left) (waking 4))
    (t.display .left).link = .hibernate ∧ (t.display .left).wakeRetry = some 1020000
      ∧ reports t = [.faultRaised (.displayLink .left) false] := by decide +kernel

theorem test_wakeRetryTime_wakes :
    ((after (exec (.wakeRetryTime .left) (running.setDisplay .left { Display.reset with wakeRetry := some 1080000 }))).display
      .left).wakeDeadline = some 1100000 := by decide +kernel

theorem test_ready_synchronises :
    let t := after (exec (.ready .left 0x00C41E07) (atTime 31000 (waking 2)))
    (t.display .left).link = .synced ∧ (t.display .left).state = .priming ∧ (t.display .left).nextScan = some 47667
      ∧ reports t = [.displayChanged .left .dark .priming] := by decide +kernel

theorem test_call_is_absorbed_by_a_wake_in_flight : exec (.call .left) (waking 1) = .next (waking 1) := by rfl

theorem test_call_is_ignored_while_parked :
    ((after (exec (.call .left) State.reset)).display .left).counters.callsIgnored = 1 := by decide +kernel

/-- A LIVE display with a NORMAL slot SHOWN and scans due at 1,030,000. -/
def live : State :=
  (running.setDisplay .left { Display.reset with link := .synced, state := .live, nextScan := some 1030000 }).setStore .left
    ⟨.shown (aRecord 102 .normal), .free, .free, 0, 0, 0, 0, 0⟩

theorem test_scanStart_repeats_and_finds_the_view_stale :
    let t := after (exec (.scanStart .left) live)
    t.sent = [.frame .left 1023 .start] ∧ (t.display .left).echoList = [7] ∧ (t.display .left).nextScan = some 1046667
      ∧ (t.display .left).lastAge = some 1021000 ∧ (t.display .left).state = .hold
      ∧ reports t = [.faultRaised (.viewStale .left) false, .displayChanged .left .live .hold] := by decide +kernel

/-- R103, R79, R80, R88: under a hold_limit of 0 the raise of VIEW_STALE blanks the display, and an IDLE compositor claims a slot at once. -/
theorem test_scanStart_blanks_under_hold_limit_0 :
    let t := after (exec (.scanStart .left) (live.setFaults { live.faults with group := { live.faults.group with holdLimit := 0 } }))
    (t.display .left).state = .blanked ∧ (t.comp .left).blankRequest = false
      ∧ (t.comp .left).inFlight = some ⟨.faultPattern, none, Compositor.reset.latch⟩
      ∧ t.store .left = ⟨.shown (aRecord 102 .normal), .filling, .free, 0, 0, 0, 1, 0⟩ := by decide +kernel

/-- A HOLD display at its limit with FROZEN current. -/
def holding : State :=
  (faulty [.frozen .left] running).setDisplay .left
    { Display.reset with link := .synced, state := .hold, holdCount := 30, nextScan := some 1030000 }

theorem test_holdExpiry_blanks :
    let t := after (exec (.holdExpiry .left) holding)
    (t.display .left).state = .blanked ∧ t.timebase = 1030000 ∧ (t.comp .left).inFlight.isSome = true
      ∧ (t.comp .left).blankRequest = false := by decide +kernel

theorem test_echoSilence_resynchronises :
    let t := after (exec (.echoSilence .left) (live.setDisplay .left { live.display .left with silence := 6 }))
    (t.display .left).link = .waking ∧ (t.display .left).state = .dark ∧ (t.display .left).counters.pathResyncs = 1
      ∧ t.sent = [.sleepNotice .left, .wakeBurst .left]
      ∧ reports t = [.faultRaised (.displayPath .left) false, .displayChanged .left .live .dark] := by decide +kernel

/-- 6.9, an echo goes wrong: the delayed echo of scan 2 matches the oldest A. -/
theorem test_echo_matches_the_oldest :
    ((after (exec (.echo .left 1) (live.setDisplay .left { live.display .left with echoList := [1, 2], silence := 2 }))).display
      .left).echoList = [2] := by decide +kernel

theorem test_echo_that_does_not_match :
    let t := after (exec (.echo .left 9) (live.setDisplay .left { live.display .left with echoList := [3], silence := 1 }))
    (t.display .left).counters.echoMismatches = 1 ∧ t.faults.current = FaultSet.insert 0 (.displayPath .left)
      ∧ (t.display .left).state = .dark := by decide +kernel

/-- 7.11, a masked class: a raise queues nothing. -/
def masked : State := live.setFaults { live.faults with masks := 0x20 }

theorem test_monitorStatus_raises_in_silence :
    let t := after (exec (.monitorStatus .left true 0xF0) masked)
    FaultSet.top t.faults.current = 24 ∧ reports t = [] ∧ temperatureBytes 0xF0 = [0xFF, 0xF0] := by decide +kernel

theorem test_monitorReply_is_reported :
    reports (after (exec (.monitorReply .left [1, 2, 3]) live)) = [.monitorReply .left [1, 2, 3]] := by decide +kernel

/-- 7.11, vehicle data that stops: both fields stored at 10,000,000. -/
def vehicleState : State :=
  after (exec (.vehicle (headOf .vehicle 1 ([3] ++ be16 100 ++ be32 100)) 3 100 100) (atTime 10000000 running))

theorem test_vehicle_sets_both_moments :
    vehicleState.faults.expiryAngle = some 10500001 ∧ vehicleState.faults.expiryLux = some 10500001
      ∧ heldReply vehicleState = some (5, 1, 0, [0]) := by decide +kernel

theorem test_vehicle_clamps_the_angle :
    let t := after (exec (.vehicle (headOf .vehicle 1 ([1] ++ be16 0xFC00 ++ be32 0)) 1 0xFC00 0) running)
    t.link.angle = some (-900, 0) ∧ heldReply t = some (5, 1, 1, [1]) := by decide +kernel

theorem test_vehicleExpiry_raises :
    let t := after (exec (.vehicleExpiry .lux) vehicleState)
    t.faults.expiryLux = none ∧ FaultSet.top t.faults.current = 46 ∧ t.timebase = 10500001 := by decide +kernel

/-- A SETTLED save in flight (9.7). -/
def saving : State :=
  (running.setContext .left { Context.reset with identityCopy := some 0x51, save := some ⟨true, 5100000⟩ }).setLink
    { HostLink.reset with busy := some 9 }

theorem test_saveDeadline_replies :
    let t := after (exec (.saveDeadline .left) saving)
    (heldReply t).map (fun r => (r.1, r.2.1, r.2.2.1, r.2.2.2.length)) = some (9, 9, 0, 171) ∧ t.link.busy = none
      ∧ t.timebase = 5100000 ∧ (t.context .left).saves = 1 := by decide +kernel

/-- 10.6: the WAKE line rises. -/
theorem test_wakeLineEdge_wakes :
    let t := after (exec (.wakeLineEdge true) (atTime 9200000 State.reset))
    t.power = ⟨.starting, some .line, true, false, .released⟩ ∧ t.night.nextEval = some 9300000
      ∧ (t.port .right).trainingDeadline = some 9250000
      ∧ t.sent = [.train .left, .train .right, .wakeBurst .left, .wakeBurst .right] := by decide +kernel

theorem test_wakeLineEdge_that_falls :
    after (exec (.wakeLineEdge false) (State.reset.setPower { State.reset.power with wakeLevel := true })) = State.reset := by
  decide +kernel

theorem test_supplyOn_holds_a_power_on : (after (exec .supplyOn (held .noSupply))).power.hold = .powerOn := by decide +kernel

theorem test_supplyLoss_forgets : after (exec .supplyLoss (faulty [.frozen .left] running)) = held .noSupply := by decide +kernel

theorem test_nrstAsserted_retains :
    let t := after (exec .nrstAsserted ((faulty [.frozen .left] running).setExposure .left { Exposure.reset with e := 250 }))
    t.power = ⟨.off, none, false, false, .partReset true⟩ ∧ (t.exposure .left).e = 240
      ∧ t.faults.accrued = FaultSet.insert 0 (.frozen .left) ∧ t.faults.current = 0 := by decide +kernel

/-- 10.6, a reset by request with AUTOSTART strapped. -/
theorem test_resetEnd_with_autostart :
    let t := after (exec (.resetEnd true false) (held (.partReset false)))
    t.queue = ⟨[⟨.restarted .resetRequest, 0⟩, ⟨.powerChanged .off .starting, 0⟩], true, 0⟩
      ∧ t.power.lastWake = some .autostart ∧ t.night.nextEval = some 100000 := by decide +kernel

/-- R153: the end of a power-on with the strap at PARKED and the line low is State.reset. -/
theorem test_resetEnd_gives_the_reset_state : exec (.resetEnd false false) (held .powerOn) = .next State.reset := by rfl

/-! ### The host link -/

/-- A partial request held (11.8, window 1). -/
def partialState : State :=
  running.setLink { HostLink.reset with partialReq := some [0xA5, 2, 8, 0, 7, 0, 0], partialDeadline := some 1050000 }

theorem test_partialDeadline_discards :
    let t := after (exec .partialDeadline partialState)
    t.link.partialReq = none ∧ t.link.counters.framingErrors = 1 ∧ reports t = [.faultRaised .hostLinkError false]
      ∧ t.link.holder = none ∧ t.timebase = 1050000 := by decide +kernel

theorem test_chipSelectRelease_at_a_boundary_keeps : exec (.chipSelectRelease false) partialState = .next partialState := by rfl

theorem test_chipSelectRelease_in_a_byte_discards :
    (after (exec (.chipSelectRelease true) partialState)).link.counters.framingErrors = 1 := by decide +kernel

theorem test_linkReset_keeps_busy :
    let t := after (exec .linkReset saving)
    t.link.busy = some 9 ∧ t.link.counters.linkResets = 1 ∧ reports t = [] := by decide +kernel

theorem test_overlongRequest_is_refused :
    let t := after (exec (.overlongRequest 2 8 1025) running)
    heldReply t = some (2, 8, 6, []) ∧ t.link.counters.requestsRefused = 0 ∧ reports t = [.faultRaised .hostLinkError false] := by
  decide +kernel

theorem test_unknownKindRequest_is_refused :
    let t := after (exec (.unknownKindRequest ⟨8, requestCrc 15 8 [1]⟩ 15 [1]) running)
    heldReply t = some (15, 8, 5, []) ∧ t.link.counters.requestsRefused = 1 ∧ t.link.counters.requestsTaken = 0 := by decide +kernel

/-- The BAD_CRC reply of 11.8, held. -/
def badCrc : State := after (exec (.collect ⟨9, requestCrc 8 9 [1] + 1⟩ 1) running)

theorem test_collect_with_a_bad_crc :
    badCrc.link.holder = some ⟨0, 0, 8, [0, 1, 1], []⟩ ∧ reports badCrc = [.faultRaised .hostLinkError false] := by decide +kernel

theorem test_readTransaction_then_replyRead :
    let t := after (exec .readTransaction badCrc)
    (t.link.reading.map fun r => (r.bytes.length, r.held)) = some (11, true)
      ∧ (after (exec .replyRead t)).link.holder = none ∧ (after (exec .replyRead t)).rdy = false := by decide +kernel

theorem test_readTransaction_of_an_empty_holder :
    let t := after (exec .readTransaction running)
    t.link.counters.emptyReads = 1 ∧ (t.link.reading.map fun r => r.bytes.take 4) = some [0x5A, 0, 0, 9] := by decide +kernel

theorem test_requestByte_passes_over_bytes_outside : after (exec (.requestByte 0x12) running) = running := by decide +kernel

/-- The 64th 0xFF resets the link (R163). -/
theorem test_requestByte_resets_the_link :
    (after (exec (.requestByte 0xFF) (running.setLink { HostLink.reset with ffRun := 63 }))).link.counters.linkResets = 1 := by
  decide +kernel

/-! ### Requests -/

theorem test_ident_of_a_new_part :
    heldReply (after (exec (.ident (headOf .ident 7 [])) running))
      = some (1, 7, 0, [0x0A, 0x71, 0x00, 0x42, 1] ++ List.replicate 28 0) := by decide +kernel

/-- 12.5: LEFT with both identities, RIGHT with neither. -/
theorem test_ident_of_a_known_side :
    let s := (running.setPort .left { Port.reset with trained := some ⟨0x0102030405060708, 9⟩ }).setDisplay .left
      { Display.reset with identity := some 0xA1A2A3A4 };
    heldReply (after (exec (.ident (headOf .ident 7 [])) s))
      = some (1, 7, 0, [0x0A, 0x71, 0x00, 0x42, 1, 3, 1, 2, 3, 4, 5, 6, 7, 8, 9, 0xA1, 0xA2, 0xA3, 0xA4] ++ List.replicate 14 0) := by
  decide +kernel

theorem test_get_backlight :
    heldReply (after (exec (.get (headOf .get 3 [5, 2]) 5 2) running)) = some (3, 3, 0, [5, 2, 3, 0xFF, 2, 0x58, 0, 180, 0, 0, 0, 0]) := by
  decide +kernel

theorem test_get_of_a_side_group_at_common :
    heldReply (after (exec (.get (headOf .get 3 [0, 2]) 0 2) running)) = some (3, 3, 7, []) := by decide +kernel

/-- Eighteen sections in order; the first holds power state RUNNING at section 1. -/
theorem test_status_opens_with_section_1 :
    ((after (exec (.status (headOf .status 4 [])) running)).link.holder.map fun r => r.payload.take 4) = some [1, 0, 9, 3] := by
  decide +kernel

def setOf (group scope : Byte) (mask : BitVec 32) (values : List Byte) : Instr :=
  .set (headOf .set 8 (setPayload group scope mask values)) group scope mask values

/-- 11.4, R167: A_max 200 is clamped to 96. -/
theorem test_set_clamps :
    let t := after (exec (setOf 1 0 8 [200]) running)
    heldReply t = some (2, 8, 1, [0, 0, 0, 8, 0, 0, 0, 0]) ∧ (t.glare .left).pend.aMax = some 96 ∧ (t.glare .right).pend.aMax = none := by
  decide +kernel

/-- R122, R127: the FAULT group under the lock. -/
theorem test_set_meets_the_lock :
    heldReply (after (exec (setOf 6 2 1 [9]) (running.setFaults { running.faults with locked := true }))) = some (2, 8, 3, []) := by
  decide +kernel

/-- R104, R122: a new hold_limit below the count of a HOLD display ends the HOLD at once. -/
theorem test_set_of_hold_limit_ends_the_hold :
    let t := after (exec (setOf 6 2 2 [12]) holding)
    (t.display .left).state = .blanked ∧ reports t = [.displayChanged .left .hold .blanked] := by decide +kernel

def overlaySetOf (id : Byte) (row : BitVec 16) (thickness palette : Byte) : Instr :=
  .overlaySet (headOf .overlay 6 (overlayPayload 0 0 id row 0 799 thickness palette)) 0 id row 0 799 thickness palette

/-- 5.10, editing the overlay list: 3, 1, 5. -/
def overlaid : State :=
  running.setComp .left { Compositor.reset with overlays := [⟨3, 700, 0, 799, 4, 1⟩, ⟨1, 900, 100, 699, 2, 0⟩, ⟨5, 1100, 0, 799, 2, 3⟩] }

theorem test_overlaySet_replaces_in_place :
    (((after (exec (overlaySetOf 3 720 4 2) overlaid)).comp .left).overlays.map fun o => (o.id, o.row)) = [(3, 720), (1, 900), (5, 1100)] := by
  decide +kernel

theorem test_overlaySet_of_thickness_9 : heldReply (after (exec (overlaySetOf 6 720 9 2) overlaid)) = some (6, 6, 7, []) := by
  decide +kernel

theorem test_overlayDelete_removes :
    (((after (exec (.overlayDelete (headOf .overlay 6 (overlayPayload 1 0 1 0 0 0 0 0)) 0 1 0 0 0 0 0) overlaid)).comp
      .left).overlays.map Overlay.id) = [3, 5] := by decide +kernel

def faultctlOf (presence values : BitVec 16) (clear : BitVec 64) : Instr :=
  .faultctl (headOf .faultctl 2 (be16 presence ++ be16 values ++ be64 clear)) presence values clear

/-- 7.11, a masked class, posted when it is unmasked. -/
theorem test_faultctl_posts :
    let t := after (exec (faultctlOf 0x20 0 0) ((faulty [.monitorFault .left] masked).setFaults
      { (faulty [.monitorFault .left] masked).faults with masks := 0x20 }))
    reports t = [.faultRaised (.monitorFault .left) true] ∧ t.faults.masks = 0 := by decide +kernel

/-- 7.11: a clear set keeps what is current. -/
theorem test_faultctl_keeps_the_current :
    heldReply (after (exec (faultctlOf 0 0 0x1000000) (faulty [.monitorFault .left] running)))
      = some (7, 2, 1, [0, 0, 0, 0, 0, 0, 0, 0, 1, 0, 0, 0]) := by decide +kernel

theorem test_lock_locks : (after (exec (.lock (headOf .lock 2 [])) running)).faults.locked = true := by decide +kernel

theorem test_collect_drains :
    let t := after (exec (.collect (headOf .collect 9 [16]) 16) State.reset)
    t.queue = ⟨[], false, 0⟩
      ∧ heldReply t = some (8, 9, 0, [2, 6, 15, 0, 0, 0, 0, 0, 0, 1, 0, 3, 2, 0, 0, 0, 0, 0, 0, 2, 0, 1]) := by decide +kernel

/-- 8.6, a commit that meets a full queue. -/
theorem test_full_queue_overruns :
    let e : Entry := ⟨.monitorReply .left [], 0⟩
    let q : ReportQueue := ⟨List.replicate 31 e, true, 0⟩
    ((q.arrive 1 e).arrive 1 e).entries.getLast? = some ⟨.overrun 2, 0⟩ ∧ ((q.arrive 1 e).arrive 1 e).lost = 2
      ∧ ((q.arrive 1 e).arrive 1 e).entries.length = 32 := by decide +kernel

def trained : State := running.setContext .left { Context.reset with identityCopy := some 0x51, framesAdapted := 41221 }

theorem test_ctxSaveImmediate_replies_with_the_image :
    (heldReply (after (exec (.ctxSaveImmediate (headOf .ctxSave 9 [0, 0, 0]) 0 0) trained))).map (fun r => (r.2.2.1, r.2.2.2.take 5))
      = some (0, [1, 0, 0, 0, 128]) := by decide +kernel

theorem test_ctxSaveSettled_makes_busy :
    let t := after (exec (.ctxSaveSettled (headOf .ctxSave 9 [0, 1, 0]) 0 0) (atTime 5000000 trained))
    t.link.busy = some 9 ∧ (t.context .left).save = some ⟨false, 5100000⟩ ∧ t.rdy = false := by decide +kernel

/-- 9.7: the image saved from a dusk road. -/
def dusky : Image := ⟨true, false, .dusk, 196, 0x51A00C227E149D03, 300, 228, 620, 41221, List.replicate 128 3, allValid⟩

theorem test_parseImage_reads_what_was_saved : parseImage .left (dusky.bytes .left) = .ok dusky := by
  unfold parseImage
  rw [if_neg (not_not.mpr (Image.bytes_crc dusky .left).symm)]
  rfl

theorem test_parseImage_of_the_other_side : parseImage .right (dusky.bytes .left) = .error .side := by
  unfold parseImage
  rw [if_neg (not_not.mpr (Image.bytes_crc dusky .left).symm)]
  rfl

theorem test_monitor_queues :
    ((after (exec (.monitor (headOf .monitor 11 [0, 1, 2]) 0 [1, 2]) running)).display .left).outQueue = [[1, 2]] := by decide +kernel

theorem test_monitor_of_no_bytes_is_refused :
    heldReply (after (exec (.monitor (headOf .monitor 11 [0]) 0 []) running)) = some (11, 11, 6, []) := by decide +kernel

theorem test_displayEnable_wakes :
    ((after (exec (.displayEnable (headOf .display 12 [0, 1]) 0) (running.setDisplay .left { Display.reset with enabled := false }))).display
      .left).link = .waking := by decide +kernel

theorem test_displayDisable_sleeps :
    let t := after (exec (.displayDisable (headOf .display 12 [0, 0]) 0) (faulty [.displayPath .left] live))
    t.sent = [.sleepNotice .left] ∧ (t.display .left).link = .hibernate
      ∧ reports t = [.displayChanged .left .live .dark, .faultCleared (.displayPath .left)] := by decide +kernel

/-- R97, R106: the match run stays 0 while DISPLAY_PATH is not current. -/
theorem test_displayDisable_zeroes_the_match_run :
    let s := (faulty [.displayPath .left] live).setRuns .left { Runs.zero with pathMatch := 2 }
    let t := after (exec (.displayDisable (headOf .display 12 [0, 0]) 0) s)
    (t.runs .left).pathMatch = 0 ∧ t.faults.current = 0 := by decide +kernel

/-- 10.6, the key is turned off. -/
theorem test_powerPark_stops :
    let t := after (exec (.powerPark (headOf .power 13 [0])) (faulty [.sensorLost .right] live))
    reports t = [.powerChanged .running .parked, .displayChanged .left .live .dark] ∧ t.faults.current = 0
      ∧ t.faults.accrued = FaultSet.insert 0 (.sensorLost .right) ∧ (t.link.holder.map Reply.summary) = some [0, 2, 1] := by
  decide +kernel

theorem test_powerWake_already : heldReply (after (exec (.powerWake (headOf .power 13 [1])) running)) = some (13, 13, 0, [1]) := by
  decide +kernel

theorem test_powerReset_forms_no_reply :
    let t := after (exec (.powerReset (headOf .power 13 [2])) badCrc)
    t.rdy = false ∧ t.power.hold = .partReset false := by decide +kernel

/-! ### A state and operands for each statement's hypotheses -/

theorem witness_StepRunsTheFrontCommand : ({ running with pending := [.supplyLoss] } : State).pending = .supplyLoss :: [] := rfl

theorem witness_IdleStepKeepsTheTimebase :
    ((held .powerOn).pending = [] ∧ (held .powerOn).power.state = .off)
      ∧ (State.reset.pending = [] ∧ State.reset.power.state ≠ .off ∧ dueNow State.reset = [])
      ∧ ((atTime 52000 training).power.state ≠ .off ∧ dueNow (atTime 52000 training) = [.trainingDeadline .left])
      ∧ dueNow (atTime 52000 (training.setPort .right (training.port .left))) = [.trainingDeadline .left, .trainingDeadline .right] := by
  decide +kernel

/-- Events at the moment they are due, one microsecond before it, and in a link or power state that has no such moment. -/
theorem witness_MomentReached :
    MomentReached (atTime 52000 training) (.trainingDeadline .left) ∧ ¬MomentReached (atTime 51999 training) (.trainingDeadline .left)
      ∧ MomentReached (atTime 350000 lost) (.retrainTime .left)
      ∧ ¬MomentReached (atTime 350000 (lost.setPower State.reset.power)) (.retrainTime .left)
      ∧ MomentReached (atTime 150000 streaming) (.lossDeadline .left) ∧ MomentReached (atTime 1030000 live) (.scanStart .left)
      ∧ ¬MomentReached (atTime 1030000 (displayIn .waking .dark live)) (.scanStart .left)
      ∧ MomentReached (atTime 10500001 vehicleState) (.vehicleExpiry .lux) ∧ ¬MomentReached (atTime 52000 training) (.call .left) := by
  simp only [MomentReached]
  decide +kernel

theorem witness_MomentReached_saves : MomentReached (atTime 5100000 saving) (.saveDeadline .left) := ⟨_, rfl, by decide +kernel⟩

/-- `live` meets every law, with a call waiting, and its step goes on: a witness for the five statements that a step keeps a law. -/
theorem witness_every_law : Lawful { live with pending := [.call .left] } ∧ ∃ t, step { live with pending := [.call .left] } = .next t := by
  refine ⟨⟨⟨by decide +kernel, ?_⟩, by unfold MaskLaw; decide +kernel, ⟨by decide +kernel, by decide +kernel, by decide +kernel, ?_⟩, ?_, ?_, ?_, ?_,
    ?_, ?_, ?_⟩, _, rfl⟩
  · intro f _
    exact BitVec.getLsbD_zero
  · intro e he
    exact absurd he (by simp [live, running, State.setDisplay, State.setStore])
  · intro sd; cases sd <;> decide +kernel
  · intro sd g; cases sd <;> exact ⟨by decide +kernel, by decide +kernel, fun a h => (by cases h)⟩
  · intro sd; cases sd <;> decide +kernel
  · intro sd p
    cases sd <;>
      exact ⟨fun n => by cases n <;> exact ⟨fun h => (by cases h), fun ⟨_, h, _⟩ => (by cases h)⟩,
        fun n d => by cases n <;> exact ⟨fun h => (by cases h), fun ⟨_, h, _⟩ => (by cases h)⟩,
        fun ⟨⟨_, h⟩, _⟩ => (by cases h), fun _ => rfl⟩
  · intro sd; cases sd <;> decide +kernel
  · intro sd c; cases sd <;> exact ⟨by decide +kernel, fun o h => (by cases h), by decide +kernel, by decide +kernel, fun w h => (by cases h)⟩
  · unfold PowerLaw; decide +kernel

theorem witness_StepKeepsTheReportQueue :
    let e : Entry := ⟨.monitorReply .left [], 0⟩
    let q (l : List Entry) : ReportQueue := ⟨l, true, 0⟩
    (q (List.replicate 30 e)).entries.length = 30 ∧ (q (List.replicate 31 e)).entries.length = 31
      ∧ (q (List.replicate 31 e ++ [⟨.overrun 254, 0⟩])).entries = List.replicate 31 e ++ [⟨.overrun 254, 0⟩]
      ∧ (q (List.replicate 31 e ++ [⟨.overrun 255, 0⟩])).entries = List.replicate 31 e ++ [⟨.overrun 255, 0⟩]
      ∧ (List.replicate 31 e).length = 31 := by decide +kernel

def locked (s : State) : State := s.setFaults { s.faults with locked := true }

theorem witness_LockHoldsUntilReset :
    (locked running).faults.locked = true ∧ (∃ t, exec .supplyLoss (locked running) = .next t)
      ∧ ∃ t, exec (setOf 6 2 1 [9]) (locked running) = .next t := ⟨rfl, ⟨_, rfl⟩, _, rfl⟩

theorem witness_SidesShareNoState :
    eventSide (.call .left) = some .left ∧ ∃ t, exec (.call .left) running = .next t := ⟨rfl, _, rfl⟩

theorem witness_IdentityRecordCompletesTraining : (training.port .left).link = .training ∧ (running.port .left).link ≠ .training := by
  decide +kernel

/-- A side in TRAINING with an identity copy and a pending restore of `frames` frames. -/
def judged (copy : Option (BitVec 64)) (frames : Nat) : State :=
  training.setContext .left { Context.reset with identityCopy := copy, pendingRestore := some { dusky with framesAdapted := frames } }

theorem witness_TrainingJudgesTheContext :
    ((training.port .left).link = .training ∧ (training.context .left).pendingRestore = none ∧ (training.context .left).identityCopy = none)
      ∧ ((trained.context .left).pendingRestore = none ∧ (trained.context .left).identityCopy = some 0x51)
      ∧ ((trained.setPort .left (training.port .left)).port .left).link = .training
      ∧ ((judged none 29).context .left).pendingRestore = some { dusky with framesAdapted := 29 }
      ∧ ((judged none 30).context .left).pendingRestore = some { dusky with framesAdapted := 30 }
      ∧ ((judged none 30).port .left).link = .training ∧ dusky.identity = 0x51A00C227E149D03
      ∧ ((judged (some 0x51) 30).context .left).identityCopy = some 0x51 ∧ dusky.identity ≠ 0x51 := by decide +kernel

theorem witness_TrainingDeadlineFailsTheTraining :
    (training.port .left).link = .training ∧ (training.port .left).trainingDeadline = some 52000 := by decide +kernel

/-- SENSOR_LOST newly raised while the display is LIVE: under a hold_limit of 0 the view blocks start a fault pattern; under the default they
stand. -/
theorem witness_ViewAfterLoss :
    let s := ((displayIn .synced .live training).setFaults
        { training.faults with group := { training.faults.group with holdLimit := 0 } });
    FaultSet.has s.faults.current (.sensorLost .left) = false ∧ (s.display .left).state = .live ∧ s.faults.group.holdLimit = 0
      ∧ (s.comp .left).inFlight = none ∧ (s.port .left).link = .training ∧ training.faults.group.holdLimit ≠ 0 := by decide +kernel

theorem witness_RetrainTimeBeginsTraining :
    ((lost.port .left).link = .lost ∧ (lost.port .left).retrainTime = some 350000 ∧ lost.power.state = .running)
      ∧ (lost.setPower starting.power).power.state = .starting
      ∧ (running.port .left).link ≠ .lost ∧ (running.port .left).retrainTime = none ∧ State.reset.power.state = .parked
      ∧ (held .powerOn).power.state = .off := by decide +kernel

theorem witness_LossDeadlineLosesTheLink :
    (streaming.port .left).link = .streaming ∧ (streaming.port .left).lossDeadline = some 150000 := by decide +kernel

theorem witness_HeadersAndLinesBuildTheFrame :
    ((streaming.port .left).link = .streaming ∧ (streaming.port .left).inProgress = none)
      ∧ ((receiving 3).port .left).inProgress ≠ none ∧ (running.port .left).link ≠ .streaming
      ∧ (Array.replicate 1920 (0 : Sample)).size = 1920 ∧ (Array.replicate 1919 (0 : Sample)).size ≠ 1920
      ∧ (Array.replicate 1921 (0 : Sample)).size ≠ 1920
      ∧ ((receiving 3).port .left).inProgress = some (inFrame 3) ∧ (inFrame 3).lines.size + 1 ≠ 2160
      ∧ ((receiving 3).port .left).link = .streaming := by decide +kernel

theorem inFrame_size (n : Nat) : (inFrame n).lines.size = n := by simp [inFrame]

theorem receiving_port (n : Nat) :
    ((receiving n).port .left).link = .streaming ∧ ((receiving n).port .left).inProgress = some (inFrame n)
      ∧ ((receiving n).port .left).lastCounter = none := ⟨rfl, rfl, rfl⟩

/-- A frame of 2,159 lines whose header is not healthy, and one of 17 bad lines. -/
def spoiled (healthy : Bool) (bad : Nat) : FrameInProgress :=
  ⟨⟨812, 136, 6, healthy⟩, 9000, (List.replicate bad (⟨#[], false⟩ : Line) ++ List.replicate (2159 - bad) (⟨#[], true⟩ : Line)).toArray⟩

theorem witness_LastLineDiscardsABadFrame (samples : Array Sample) (crc : BitVec 16) (c : PortCounters) :
    ((spoiled false 0).lines.size = 2159 ∧ discardCounted c none (withLine (spoiled false 0) samples crc)
        = some { c with discardHeader := satInc c.discardHeader })
      ∧ ((spoiled true 17).lines.size = 2159 ∧ discardCounted c none (withLine (spoiled true 17) samples crc)
        = some { c with discardLines := satInc c.discardLines })
      ∧ discardCounted c (some 812) (withLine (inFrame 2159) samples crc) = some { c with discardRepeat := satInc c.discardRepeat } := by
  have h : ∀ b : Bool, ¬16 < ([(⟨samples, b⟩ : Line)].filter fun l => !l.good).length := by intro b; cases b <;> simp
  refine ⟨⟨by simp [spoiled, -List.reduceReplicate], by simp [discardCounted, withLine, -List.reduceReplicate, spoiled]⟩, ⟨by simp [spoiled, -List.reduceReplicate], ?_⟩, ?_⟩
  · simp [discardCounted, withLine, -List.reduceReplicate, spoiled, List.filter_append]
    omega
  · simp [discardCounted, withLine, -List.reduceReplicate, inFrame, List.filter_append, h]

theorem witness_LastLineHandsOnAValidFrame (samples : Array Sample) (crc : BitVec 16) (c : PortCounters) :
    (inFrame 2159).lines.size = 2159 ∧ discardCounted c none (withLine (inFrame 2159) samples crc) = none
      ∧ ((spoiled true 16).lines.size = 2159
        ∧ (lineCrc samples = crc → discardCounted c none (withLine (spoiled true 16) samples crc) = none))
      ∧ ((receiving 2159).pipe .left).dev = none
      ∧ (((receiving 2159).setPipe .left ((developing true).pipe .left)).pipe .left).dev ≠ none := by
  have h : ∀ b : Bool, ¬16 < ([(⟨samples, b⟩ : Line)].filter fun l => !l.good).length := by intro b; cases b <;> simp
  refine ⟨inFrame_size 2159, ?_, ⟨by simp [spoiled, -List.reduceReplicate], fun hc => ?_⟩, rfl, by simp [developing]⟩
  · simp [discardCounted, withLine, -List.reduceReplicate, inFrame, List.filter_append, h]
  · simp [discardCounted, withLine, -List.reduceReplicate, spoiled, List.filter_append, hc]

/-- With no frame in development and no composition of a source, FREE buffers meet the buffer law. -/
theorem bufferLaw_of_idle (s : State)
    (h : ∀ sd, (s.pipe sd).dev = none ∧ (s.pipe sd).bufA = .free ∧ (s.pipe sd).bufB = .free ∧ (s.pipe sd).intake = none
      ∧ ∀ c, (s.comp sd).inFlight = some c → c.source = none) : BufferLaw s := by
  intro sd
  obtain ⟨hd, ha, hb, hi, hc⟩ := h sd
  refine ⟨fun n => ?_, fun n d => ?_, fun ⟨⟨_, h⟩, _⟩ => ?_, fun _ => hi⟩
  · cases n <;> simp [Pipeline.buf, ha, hb, hd]
  · have h : ¬∃ c, (s.comp sd).inFlight = some c ∧ c.source = some (n, d) := fun ⟨c, hf, hs⟩ => by simp [hc c hf] at hs
    cases n <;> simp [Pipeline.buf, ha, hb, h]
  · simp [ha] at h

/-- The judgement of an unsettled and of a settled frame, the recovery run at its ends, and a frame start that brings E into its limits. -/
theorem witness_LastLine_judgement :
    BufferLaw (receiving 2159)
      ∧ FaultSet.has (faulty [.sensorLost .left] (receiving 2159)).faults.current (.sensorLost .left) = true
      ∧ ((receiving 2159).runs .left).recovery < 2
      ∧ 2 ≤ (((receiving 2159).setRuns .left { Runs.zero with recovery := 2 }).runs .left).recovery
      ∧ FaultSet.has running.faults.current (.sensorLost .left) = false
      ∧ max (100 : Nat) (min 90 240) ≠ 90 ∧ max (16 : Nat) (min 250 240) ≠ 250 ∧ max (16 : Nat) (min 90 240) = 90 :=
  ⟨bufferLaw_of_idle _ fun sd => by cases sd <;> exact ⟨rfl, rfl, rfl, rfl, fun _ h => (by cases h)⟩, by decide +kernel, by decide +kernel,
    by decide +kernel, by decide +kernel, by decide, by decide, by decide⟩

theorem witness_RepairTakesTheNearestGoodLine :
    let l : List Line := [⟨#[1], false⟩, ⟨#[2], true⟩, ⟨#[3], false⟩, ⟨#[4], true⟩]
    l[2]? = some ⟨#[3], false⟩ ∧ l[1]? = some ⟨#[2], true⟩ ∧ l[0]? = some ⟨#[1], false⟩ ∧ l[3]? = some ⟨#[4], true⟩ := by decide

theorem witness_ToneAndColourOutput : ToneGroup.default.day.length = 21 ∧ curveOk ToneGroup.default.day = true := by decide

theorem witness_PiecewiseLogarithm : 2 ^ 3 ≤ 15 ∧ 15 < 2 ^ (3 + 1) ∧ 2 ^ 4 ≤ 16 ∧ 16 < 2 ^ (4 + 1) := by decide

theorem witness_GlareTargets :
    GlareGroup.default.enable = true ∧ NightState.night ≠ .day ∧ GlareGroup.default.countThreshold ≤ 40
      ∧ 39 < GlareGroup.default.countThreshold ∧ logL 393216 = logL GlareGroup.default.knee + 40 := by decide

theorem witness_StatisticsCompletionCommits :
    ((developing false).pipe .left).dev = some ⟨aFrame 401, .b, false⟩ ∧ ((developing false).context .left).save = none
      ∧ (running.pipe .left).dev = none ∧ ((developing true).pipe .left).dev = some ⟨aFrame 401, .b, true⟩ := by decide +kernel

/-- A frame in development whose statistics are done, both buffers accounted for, an intake frame or none. -/
def developed (intake : Option Frame) : State :=
  running.setPipe .left { Pipeline.reset with dev := some ⟨aFrame 401, .b, true⟩, bufB := .writing, intake := intake }

/-- Each fault count of a commit at its limit and below it, of an identity that is not current and of one that is. -/
theorem witness_CommitCounts :
    (let s := (developing false).setRuns .left
        { Runs.zero with obscuredRaise := 149, saturation := 29, limitRun := 59, frozenSame := 8, frozenPrevious := some 7 };
      150 ≤ (s.runs .left).obscuredRaise + 1 ∧ 30 ≤ (s.runs .left).saturation + 1 ∧ 60 ≤ (s.runs .left).limitRun + 1
        ∧ (s.runs .left).frozenPrevious = some 7 ∧ FaultSet.has s.faults.current (.obscured .left) = false)
      ∧ (Runs.zero.obscuredRaise + 1 < 150 ∧ Runs.zero.frozenPrevious = none ∧ Runs.zero.frozenChange + 1 < 3)
      ∧ (let s := (faulty [.obscured .left, .frozen .left] (developing false)).setRuns .left
          { Runs.zero with obscuredClear := 29, frozenChange := 2, frozenPrevious := some 7 };
        30 ≤ (s.runs .left).obscuredClear + 1 ∧ 3 ≤ (s.runs .left).frozenChange + 1 ∧ (7 : BitVec 32) ≠ 8
          ∧ FaultSet.has s.faults.current (.obscured .left) = true ∧ FaultSet.has s.faults.current (.frozen .left) = true) := by
  decide +kernel

theorem witness_DevelopmentCompletionOffersTheFrame (intake : Option Frame) :
    ((developed intake).pipe .left).dev = some ⟨aFrame 401, .b, true⟩ ∧ SlotLaw (developed intake) ∧ BufferLaw (developed intake) := by
  refine ⟨rfl, fun sd => ?_, fun sd => ?_⟩
  · cases sd <;> exact ⟨rfl, Nat.zero_le _, Nat.zero_le _⟩
  · cases sd
    · refine ⟨fun n => ?_, fun n d => ?_, fun ⟨⟨_, h⟩, _⟩ => ?_, fun h => ?_⟩
      · cases n
        · exact ⟨fun h => (by cases h), fun ⟨_, h, hn⟩ => (by cases h; cases hn)⟩
        · exact ⟨fun _ => ⟨_, rfl, rfl⟩, fun _ => rfl⟩
      · cases n <;> exact ⟨fun h => (by cases h), fun ⟨_, h, _⟩ => (by cases h)⟩
      · cases h
      · cases h
    · exact ⟨fun n => by cases n <;> exact ⟨fun h => (by cases h), fun ⟨_, h, _⟩ => (by cases h)⟩,
        fun n d => by cases n <;> exact ⟨fun h => (by cases h), fun ⟨_, h, _⟩ => (by cases h)⟩,
        fun ⟨⟨_, h⟩, _⟩ => (by cases h), fun _ => rfl⟩

/-- The same while a fault pattern is being composed. -/
def developedBusy (intake : Option Frame) : State :=
  ((developed intake).setComp .left { Compositor.reset with inFlight := some ⟨.faultPattern, none, Compositor.reset.latch⟩ }).setStore .left
    ⟨.filling, .free, .free, 0, 0, 0, 0, 0⟩

theorem witness_DevelopmentCompletion_busy (intake : Option Frame) :
    ((developedBusy intake).pipe .left).dev = some ⟨aFrame 401, .b, true⟩ ∧ ((developedBusy intake).comp .left).inFlight ≠ none
      ∧ SlotLaw (developedBusy intake) ∧ BufferLaw (developedBusy intake) := by
  refine ⟨rfl, fun h => (by cases h), fun sd => ?_, fun sd => ?_⟩
  · cases sd <;> exact ⟨rfl, Nat.zero_le _, Nat.zero_le _⟩
  · cases sd
    · refine ⟨fun n => ?_, fun n d => ?_, fun ⟨⟨_, h⟩, _⟩ => ?_, fun h => ?_⟩
      · cases n
        · exact ⟨fun h => (by cases h), fun ⟨_, h, hn⟩ => (by cases h; cases hn)⟩
        · exact ⟨fun _ => ⟨_, rfl, rfl⟩, fun _ => rfl⟩
      · cases n <;> exact ⟨fun h => (by cases h), fun ⟨_, h, hs⟩ => (by cases h; cases hs)⟩
      · cases h
      · cases h
    · exact ⟨fun n => by cases n <;> exact ⟨fun h => (by cases h), fun ⟨_, h, _⟩ => (by cases h)⟩,
        fun n d => by cases n <;> exact ⟨fun h => (by cases h), fun ⟨_, h, _⟩ => (by cases h)⟩,
        fun ⟨⟨_, h⟩, _⟩ => (by cases h), fun _ => rfl⟩

/-- A composition in flight that reads buffer A, with another frame waiting in B. -/
def composing : State :=
  ((running.setPipe .left { Pipeline.reset with bufA := .reading (aFrame 400), bufB := .waiting (aFrame 401) }).setComp .left
    { Compositor.reset with inFlight := some ⟨.normal, some (.a, aFrame 400), Compositor.reset.latch⟩ }).setStore .left
    ⟨.filling, .free, .free, 0, 0, 0, 0, 0⟩

theorem witness_CompositionCompletionFillsTheSlot :
    (composing.comp .left).inFlight = some ⟨.normal, some (.a, aFrame 400), Compositor.reset.latch⟩ ∧ SlotLaw composing
      ∧ BufferLaw composing ∧ (composing.pipe .left).waiting = some (.b, aFrame 401) := by
  refine ⟨rfl, fun sd => ?_, fun sd => ?_, rfl⟩
  · cases sd <;> exact ⟨rfl, Nat.zero_le _, Nat.zero_le _⟩
  · cases sd
    · refine ⟨fun n => ?_, fun n d => ?_, fun ⟨⟨_, h⟩, _⟩ => ?_, fun _ => rfl⟩
      · cases n <;> exact ⟨fun h => (by cases h), fun ⟨_, h, _⟩ => (by cases h)⟩
      · cases n
        · exact ⟨fun h => (by cases h; exact ⟨_, rfl, rfl⟩), fun ⟨_, h, hs⟩ => (by cases h; cases hs; rfl)⟩
        · exact ⟨fun h => (by cases h), fun ⟨_, h, hs⟩ => (by cases h; cases hs)⟩
      · cases h
    · exact ⟨fun n => by cases n <;> exact ⟨fun h => (by cases h), fun ⟨_, h, _⟩ => (by cases h)⟩,
        fun n d => by cases n <;> exact ⟨fun h => (by cases h), fun ⟨_, h, _⟩ => (by cases h)⟩,
        fun ⟨⟨_, h⟩, _⟩ => (by cases h), fun _ => rfl⟩

/-- A fault pattern in flight in BLANKED, with a further blank request. -/
def blanking : State :=
  ((displayIn .synced .blanked running).setComp .left
    { Compositor.reset with inFlight := some ⟨.faultPattern, none, Compositor.reset.latch⟩, blankRequest := true }).setStore .left
    ⟨.filling, .free, .free, 0, 0, 0, 0, 0⟩

theorem witness_CompositionCompletion_in_blanked :
    (blanking.comp .left).inFlight = some ⟨.faultPattern, none, Compositor.reset.latch⟩ ∧ SlotLaw blanking ∧ BufferLaw blanking
      ∧ (blanking.pipe .left).waiting = none ∧ (blanking.comp .left).blankRequest = true ∧ (blanking.display .left).state = .blanked := by
  refine ⟨rfl, fun sd => ?_, bufferLaw_of_idle _ fun sd => ?_, rfl, rfl, rfl⟩
  · cases sd <;> exact ⟨rfl, Nat.zero_le _, Nat.zero_le _⟩
  · cases sd
    · exact ⟨rfl, rfl, rfl, rfl, fun _ h => by cases h; rfl⟩
    · exact ⟨rfl, rfl, rfl, rfl, fun _ h => by cases h⟩

/-- A pixel under two items, the later one drawn, and one under none, in each field. -/
theorem witness_Raster_pixels :
    let top : Overlay := ⟨5, 700, 0, 799, 4, 3⟩
    let low : Overlay := ⟨1, 700, 100, 699, 2, 0⟩
    let on (o : Overlay) (row col : Nat) : Prop := o.row ≤ row ∧ row < o.row + o.thickness ∧ o.x0 ≤ col ∧ col ≤ o.x1
    [low, top] = [low] ++ top :: [] ∧ on top 700 799 ∧ on top 701 100 ∧ on low 701 100
      ∧ (∀ o ∈ [low, top], ¬on o 704 100) ∧ (∀ o ∈ [low, top], ¬on o 960 799) := by decide

theorem witness_NightEvaluationRetargetsAndRamps :
    (dusk.power.state = .running ∧ dusk.night.nextEval = some 100000)
      ∧ (dusk.freshLux = none ∧ (dusk.port .left).link = .streaming) ∧ vehicleState.freshLux = some 100
      ∧ ((running.port .left).link ≠ .streaming ∧ running.freshLux = none) ∧ running.night.nextEval = none
      ∧ State.reset.power.state = .parked := by decide +kernel

theorem witness_NightEvaluation_moves :
    let s := dusk.setNight { dusk.night with dwellCount := 9, dwellTarget := some .night }
    (∃ t, exec .nightEvaluation s = .next t) ∧ (after (exec .nightEvaluation s)).night.state ≠ s.night.state :=
  ⟨⟨_, rfl⟩, by decide +kernel⟩

/-- Each transition open at the boundary of its condition, and none open next to it, under the reset settings. -/
theorem witness_Night_transitions :
    let g := Night.reset.nightAct
    (Opens g (.exposure g.eDusk) .day .dusk ∧ ¬Opens g (.exposure (g.eDusk - 1)) .day .dusk)
      ∧ (Opens g (.exposure g.eNight) .dusk .night ∧ ¬Opens g (.exposure (g.eNight - 1)) .dusk .night)
      ∧ (Opens g (.exposure (g.eNight - g.hysteresis - 1)) .night .dusk ∧ ¬Opens g (.exposure (g.eNight - g.hysteresis)) .night .dusk)
      ∧ (Opens g (.exposure (g.eDusk - g.hysteresis - 1)) .dusk .day ∧ ¬Opens g (.exposure (g.eDusk - g.hysteresis)) .dusk .day)
      ∧ (Opens g (.lux (g.luxDusk - 1)) .day .dusk ∧ ¬Opens g (.lux g.luxDusk) .day .dusk)
      ∧ (Opens g (.lux (g.luxNight - 1)) .dusk .night ∧ ¬Opens g (.lux g.luxNight) .dusk .night)
      ∧ (Opens g (.lux (2 * g.luxNight)) .night .dusk ∧ ¬Opens g (.lux (2 * g.luxNight - 1)) .night .dusk)
      ∧ (Opens g (.lux (2 * g.luxDusk)) .dusk .day ∧ ¬Opens g (.lux (2 * g.luxDusk - 1)) .dusk .day) := by
  simp only [Opens]
  decide +kernel

theorem witness_WakeDeadlinesRetryThenFail :
    let d (n : Nat) := (waking n).display .left
    (∀ n, (d n).link = .waking ∧ (d n).wakeDeadline = some 20000 ∧ (d n).wakeAttempt = n)
      ∧ (let s := running.setDisplay .left { Display.reset with wakeRetry := some 1080000 };
        (s.display .left).link = .hibernate ∧ (s.display .left).wakeRetry = some 1080000 ∧ s.wanted .left = true)
      ∧ (State.reset.wanted .left = false ∧ (running.display .left).link ≠ .waking) :=
  ⟨fun _ => ⟨rfl, rfl, rfl⟩, ⟨rfl, rfl, rfl⟩, rfl, by decide +kernel⟩

theorem witness_MonitorMessagesActByTheLinkState :
    (((waking 1).display .left).link = .waking ∧ ((waking 1).display .left).state = .dark)
      ∧ ((running.display .left).link = .hibernate ∧ running.wanted .left = true)
      ∧ ((State.reset.display .left).link = .hibernate ∧ State.reset.wanted .left = false)
      ∧ (live.display .left).link = .synced ∧ (List.replicate 32 (0 : Byte)).length ≤ 32
      ∧ 32 < (List.replicate 33 (0 : Byte)).length ∧ (running.display .left).link ≠ .synced := by decide +kernel

theorem witness_ScanJudgesThenHandsASlot :
    (holding.display .left).state = .hold ∧ holding.faults.viewLoss .left = true ∧ (holding.display .left).holdCount = 30
      ∧ holding.faults.group.holdLimit = 30
      ∧ ((⟨.shown (aRecord 100 .normal), .ready (aRecord 101 .faultPattern), .free, 0, 0, 0, 0, 0⟩ : FrameStore).ready
        = some (aRecord 101 .faultPattern))
      ∧ (let x : FrameStore := ⟨.shown (aRecord 102 .faultPattern), .ready (aRecord 103 .normal), .free, 0, 0, 0, 0, 0⟩;
        x.ready.map SlotRecord.kind = some .normal ∧ x.shown ≠ none ∧ x.shown.map SlotRecord.kind = some .faultPattern)
      ∧ (⟨.free, .filling, .free, 0, 0, 0, 0, 0⟩ : FrameStore).ready = none
      ∧ (⟨.free, .filling, .free, 0, 0, 0, 0, 0⟩ : FrameStore).shown = none := by decide +kernel

theorem witness_ScanStartSendsOneFrame :
    (live.display .left).link = .synced ∧ (live.display .left).nextScan = some 1030000 ∧ (live.display .left).silence < 5
      ∧ ((live.setDisplay .left { live.display .left with silence := 5 }).display .left).silence = 5
      ∧ (let judged := judgeDisplay .left { live with timebase := 1030000 };
        ((judged.store .left).scan (judged.display .left).state).handed = some (aRecord 102 .normal))
      ∧ (aRecord 102 .normal).capture = some 9000 ∧ (running.display .left).link ≠ .synced := by decide +kernel

/-- A move to BLANKED with an IDLE compositor and a FREE slot, and with one COMPOSING. -/
theorem witness_BlankStarts :
    (live.comp .left).inFlight = none ∧ Slot.free ∈ (live.store .left).slots ∧ (live.pipe .left).waiting = none
      ∧ (composing.comp .left).inFlight ≠ none := by
  refine ⟨rfl, ?_, rfl, fun h => by cases h⟩
  simp [live, FrameStore.slots, State.setStore, State.store]

theorem witness_HoldExpiryAndEchoSilenceAct :
    ((holding.display .left).state = .hold ∧ holding.faults.viewLoss .left = true
        ∧ holding.faults.group.holdLimit ≤ (holding.display .left).holdCount)
      ∧ (let s := live.setDisplay .left { live.display .left with silence := 6 };
        (s.display .left).link = .synced ∧ 6 ≤ (s.display .left).silence ∧ (s.display .left).state ≠ .dark
          ∧ FaultSet.has s.faults.current (.displayPath .left) = false
          ∧ FaultSet.has (faulty [.displayPath .left] s).faults.current (.displayPath .left) = true)
      ∧ (live.display .left).state ≠ .hold ∧ (live.display .left).silence < 6 := by decide +kernel

theorem witness_EchoIsMatchedAgainstTheList :
    (let s := live.setDisplay .left { live.display .left with echoList := [1, 2, 1] };
      (s.display .left).link = .synced ∧ (s.display .left).echoList = [] ++ 1 :: [2, 1] ∧ (s.display .left).echoList = [1] ++ 2 :: [1]
        ∧ (1 : BitVec 32) ∉ ([] : List (BitVec 32)) ∧ (2 : BitVec 32) ∉ [(1 : BitVec 32)] ∧ (3 : BitVec 32) ∉ (s.display .left).echoList
        ∧ (s.display .left).state ≠ .dark)
      ∧ FaultSet.has (faulty [.displayPath .left] live).faults.current (.displayPath .left) = true
      ∧ ((faulty [.displayPath .left] live).runs .left).pathMatch < 2
      ∧ 2 ≤ ((live.setRuns .left { Runs.zero with pathMatch := 2 }).runs .left).pathMatch := by decide +kernel

theorem witness_VehicleExpiryMakesTheFieldStale :
    vehicleState.faults.expiry .lux = some 10500001 ∧ vehicleState.faults.expiry .angle = some 10500001
      ∧ vehicleState.power.state = .running ∧ vehicleState.link.lux ≠ none ∧ vehicleState.link.angle ≠ none
      ∧ (vehicleState.setPower State.reset.power).power.state = .parked ∧ running.faults.expiry .lux = none := by decide +kernel

theorem witness_SettledSavesEnd :
    ((saving.context .left).save = some ⟨true, 5100000⟩ ∧ saving.link.busy = some 9)
      ∧ (let s := (saving.setPipe .left ((developing false).pipe .left));
        (s.pipe .left).dev = some ⟨aFrame 401, .b, false⟩ ∧ (s.context .left).save = some ⟨true, 5100000⟩ ∧ s.link.busy = some 9
          ∧ ∃ u, exec (.statisticsCompletion .left) (s.setContext .left { s.context .left with save := none }) = .next u) :=
  ⟨⟨rfl, rfl⟩, rfl, rfl, rfl, _, rfl⟩

/-- The two values of reset_after, and an E that reset_after changes at a STREAMING port. -/
theorem witness_SaveEnds :
    let s := (saving.setPort .left (streaming.port .left)).setExposure .left { Exposure.reset with e := 200 };
    (s.context .left).save = some ⟨true, 5100000⟩ ∧ (s.port .left).link = .streaming
      ∧ clampNat 128 (s.pipe .left).expAct.eMin (s.pipe .left).expAct.eMax ≠ (s.exposure .left).e
      ∧ ((s.setContext .left { s.context .left with save := some ⟨false, 5100000⟩ }).context .left).save = some ⟨false, 5100000⟩ :=
  by decide +kernel

/-- Every request of any kind, tag and payload reaches its kind, at a RUNNING part and at a PARKED one: a witness for the first hypothesis
of every statement about a request. -/
theorem witness_Reaches (kind tag : Byte) (payload : List Byte) :
    Reaches kind ⟨tag, requestCrc kind tag payload⟩ payload running ∧ Reaches kind ⟨tag, requestCrc kind tag payload⟩ payload State.reset :=
  ⟨⟨⟨by decide +kernel, rfl, fun h => absurd h.2 (by decide +kernel)⟩, rfl, rfl⟩,
    ⟨by decide +kernel, rfl, fun h => absurd h.2 (by decide +kernel)⟩, rfl, rfl⟩

theorem witness_WakeSourcesWakeAParkedPart :
    (State.reset.power.state = .parked ∧ State.reset.power.wakeLevel = false) ∧ running.power.state = .running
      ∧ starting.power.state = .starting ∧ (held .powerOn).power.state = .off ∧ (running.setPower State.reset.power).power.state = .parked := by
  decide +kernel

theorem witness_ResetsHoldThePartInOff :
    (held .noSupply).power.hold = .noSupply ∧ running.power.hold = .released ∧ (held (.partReset false)).power.hold = .partReset false
      ∧ (held .powerOn).power.hold = .powerOn := by decide +kernel

theorem witness_ResetEndLeavesOff (h : Hold) (hr : h ≠ .released) :
    (held h).power.hold = h ∧ (held h).power.state = .off ∧ HeldInReset (held h) (held h) := by
  refine ⟨rfl, rfl, rfl, hr, rfl, rfl, rfl, rfl, fun sd => ?_, rfl, rfl, rfl, rfl, rfl, rfl, rfl, rfl, rfl, rfl⟩
  cases sd <;> exact ⟨rfl, rfl, rfl, rfl, rfl, rfl, rfl, rfl, rfl, rfl, rfl, rfl⟩

theorem witness_PartialRequestsEnd :
    partialState.link.partialDeadline = some 1050000 ∧ partialState.power.state ≠ .off ∧ partialState.link.partialReq ≠ none
      ∧ running.link.partialReq = none ∧ running.link.partialDeadline = none ∧ (held .powerOn).power.state = .off := by decide +kernel

/-- An interface that takes any byte but the 64th 0xFF. -/
theorem witness_Receives (b : Byte) : Receives b running ∧ Receives b badCrc ∧ Receives b partialState :=
  ⟨⟨by decide +kernel, rfl, fun h => absurd h.2 (by decide +kernel)⟩,
    ⟨by decide +kernel, by decide +kernel, fun h => absurd h.2 (by decide +kernel)⟩,
    ⟨by decide +kernel, rfl, fun h => absurd h.2 (by decide +kernel)⟩⟩

/-- A byte that is not 0xFF is received whatever the run; the 63rd 0xFF is, the 64th is not. -/
theorem witness_Receives_boundary :
    Receives 0xFF (running.setLink { HostLink.reset with ffRun := 62 }) ∧ ¬Receives 0xFF (running.setLink { HostLink.reset with ffRun := 63 })
      ∧ Receives 0xFE (running.setLink { HostLink.reset with ffRun := 63 }) := by
  unfold Receives
  decide +kernel

theorem witness_ReadsShiftOutTheHeldReply :
    badCrc.link.holder = some ⟨0, 0, 8, [0, 1, 1], []⟩ ∧ badCrc.link.partialReq = none ∧ running.link.holder = none
      ∧ (let s := running.setLink { HostLink.reset with partialReq := some [0xA5, 2, 8] };
        s.link.partialReq = some [0xA5, 2, 8] ∧ [0xA5, 2, (8 : Byte)].length < 4 ∧ s.power.state ≠ .off ∧ s.link.reading = none)
      ∧ (after (exec .readTransaction running)).link.reading ≠ none ∧ running.link.reading = none
      ∧ (let p : List Byte := [0xA5, 11, 7, 3];
        p.length = 4 ∧ p[3]? = some 3 ∧ 256 * (3 : Byte).toNat + 0xC3 ≤ 1024)
      ∧ (let p : List Byte := [0xA5, 8, 7, 0, 1];
        p[3]? = some 0 ∧ p[4]? = some 1 ∧ p.length + 1 < 256 * (0 : Byte).toNat + (1 : Byte).toNat + 7)
      ∧ (held .powerOn).power.state = .off := by decide +kernel

/-- A read with this many bytes to come. -/
def reading (left : Nat) : State := running.setLink { HostLink.reset with reading := some ⟨List.replicate 11 0, 11 - left, false⟩ }

theorem witness_EachByteIsTakenByTheLink :
    (held .powerOn).power.state = .off
      ∧ ((running.setLink { HostLink.reset with ffRun := 63 }).link.reading = none
        ∧ 63 ≤ (running.setLink { HostLink.reset with ffRun := 63 }).link.ffRun)
      ∧ ((reading 2).link.reading = some ⟨List.replicate 11 0, 9, false⟩ ∧ 9 + 1 < (List.replicate 11 (0 : Byte)).length)
      ∧ ((reading 1).link.reading = some ⟨List.replicate 11 0, 10, false⟩ ∧ (List.replicate 11 (0 : Byte)).length = 10 + 1)
      ∧ (let p : List Byte := [0xA5, 11, 7, 4];
        p.length = 4 ∧ p[3]? = some 4 ∧ 256 * (4 : Byte).toNat + (0 : Byte).toNat ≤ 1024)
      ∧ (let p : List Byte := [0xA5, 8, 7, 0, 1];
        p[3]? = some 0 ∧ p[4]? = some 1 ∧ p.length + 1 < 256 * (0 : Byte).toNat + (1 : Byte).toNat + 7) := by
  decide +kernel

theorem witness_LastByteCompletesTheRequest :
    (let s := running.setLink { HostLink.reset with partialReq := some ([(0xA5 : Byte), 1, 7, 0, 0] ++ [((headOf .ident 7 []).crc >>> 8).setWidth 8]) };
      requestOf (.ident (headOf .ident 7 [])) = some (1, headOf .ident 7 [], [])
        ∧ (Instr.ident (headOf .ident 7 [])).wellFormed = true
        ∧ s.link.partialReq = some ([(0xA5 : Byte), 1, (headOf .ident 7 []).tag] ++ be16 (BitVec.ofNat 16 ([] : List Byte).length) ++ []
            ++ [((headOf .ident 7 []).crc >>> 8).setWidth 8]))
      ∧ (let s := running.setLink { HostLink.reset with partialReq := some [0xA5, 2, 8, 4] };
        1024 < (1025 : BitVec 16).toNat ∧ s.link.partialReq = some [(0xA5 : Byte), 2, 8, ((1025 : BitVec 16) >>> 8).setWidth 8])
      ∧ (knownKind 0 = false ∧ knownKind 15 = false ∧ ([] : List Byte).length ≤ 1024)
      ∧ (running.link.busy = none ∧ saving.link.busy ≠ none ∧ (1024 : BitVec 16).toNat ≤ 1024)
      ∧ (Instr.monitorReply .left (List.replicate 33 0)).wellFormed = false := by decide +kernel

/-- The state before the last byte of a frame. -/
def beforeLast (kind : Byte) (head : ReqHead) (payload : List Byte) : State :=
  running.setLink { HostLink.reset with partialReq := some ([0xA5, kind, head.tag] ++ be16 (BitVec.ofNat 16 payload.length) ++ payload
    ++ [(head.crc >>> 8).setWidth 8]) }

/-- R164 step 4 and 11.7: an IDENT of one byte, and a POWER argument of 3. -/
theorem test_requestByte_of_an_unspelled_frame :
    (let head := headOf .ident 5 [0];
      heldReply (after (exec (.requestByte (lowByte head.crc)) (beforeLast 1 head [0]))) = some (1, 5, 6, []))
      ∧ (let head := headOf .power 5 [3];
        heldReply (after (exec (.requestByte (lowByte head.crc)) (beforeLast 13 head [3]))) = some (13, 5, 7, [])) := by decide +kernel

/-- Each way a frame is unsuited or has an argument code without a meaning, at its boundary. -/
theorem witness_unspelled_frames :
    (LengthUnsuited 1 1 ∧ LengthUnsuited 10 171 ∧ LengthUnsuited 10 173 ∧ LengthUnsuited 2 5 ∧ LengthUnsuited 11 1 ∧ LengthUnsuited 11 34)
      ∧ (ArgumentUnknown 13 [3] ∧ ArgumentUnknown 9 [0, 2, 0] ∧ ArgumentUnknown 12 [1, 2] ∧ ArgumentUnknown 6 (overlayPayload 2 0 0 0 0 0 1 0)) :=
  ⟨⟨.inl ⟨0, rfl, by decide⟩, .inl ⟨172, rfl, by decide⟩, .inl ⟨172, rfl, by decide⟩, .inr (.inl ⟨rfl, by decide⟩),
      .inr (.inr ⟨rfl, .inl (by decide)⟩), .inr (.inr ⟨rfl, .inr (by decide)⟩)⟩,
    ⟨rfl, .inl ⟨rfl, by decide⟩⟩, ⟨rfl, .inr (.inr (.inl ⟨rfl, by decide⟩))⟩, ⟨rfl, .inr (.inr (.inr ⟨rfl, by decide⟩))⟩,
    ⟨rfl, .inr (.inl ⟨rfl, by decide⟩)⟩⟩

theorem witness_RequestsMeetTheLinkFirst :
    requestOf (.lock ⟨2, 0xFF⟩) = some (14, ⟨2, 0xFF⟩, []) ∧ (Instr.lock ⟨2, 0xFF⟩).wellFormed = true ∧ (held .powerOn).power.state = .off
      ∧ (reading 2).link.reading ≠ none ∧ (reading 2).power.state ≠ .off ∧ lowByte 0xFF = 0xFF
      ∧ saving.link.busy ≠ none ∧ requestCrc 14 2 [] ≠ 0xFF ∧ running.link.busy = none := by decide +kernel

theorem witness_SetIsJudgedThenWritten :
    groupOf 0 = some .exposure ∧ groupOf 1 = some .glare ∧ groupOf 2 = some .tone ∧ groupOf 3 = some .view ∧ groupOf 4 = some .night
      ∧ groupOf 5 = some .backlight ∧ groupOf 6 = some .fault ∧ 6 < (7 : Byte).toNat ∧ 2 ^ (Group.widths .fault).length ≤ (32 : BitVec 32).toNat
      ∧ (31 : BitVec 32).toNat < 2 ^ (Group.widths .fault).length ∧ presentWidth (Group.widths .fault) 0 31 = 9
      ∧ presentWidth (Group.widths .tone) 0 3 = 84 ∧ 3 < (4 : Byte).toNat ∧ ¬3 < (3 : Byte).toNat ∧ (3 : Byte) ≠ 2
      ∧ (locked running).faults.locked = true ∧ running.faults.locked = false ∧ Group.isSideGroup .view = true := by decide +kernel

theorem witness_SetFieldsFollowTheirKind :
    (let f : Fields := ⟨[some [1], none, none, some [97]]⟩;
      f.num 0 = some 1 ∧ f.num 1 = none ∧ f.num 3 = some 97)
      ∧ (let f : Fields := ⟨[none, none, some [200], some [199]]⟩;
        199 < (f.num 2).getD 0 ∧ (f.num 3).getD 0 < (f.num 2).getD 0)
      ∧ (let f : Fields := ⟨[some (windowBytes ⟨1020, 0, 900, 1080⟩), some (windowBytes ⟨0, 0, 399, 1080⟩)]⟩;
        f.raw 0 = some (windowBytes ⟨1020, 0, 900, 1080⟩) ∧ windowOf (windowBytes ⟨1020, 0, 900, 1080⟩) = ⟨1020, 0, 900, 1080⟩
          ∧ (windowOf (windowBytes ⟨0, 0, 399, 1080⟩)).w < 400)
      ∧ (let f : Fields := ⟨[none, none, none, some (i16Bytes (-129))]⟩;
        f.signed 3 = some (-129)) := by decide +kernel

theorem witness_VehicleStoresItsFields :
    3 < (4 : Byte).toNat ∧ (3 : Byte).toNat ≤ 3 ∧ (3 : Byte).getLsbD 0 = true ∧ (3 : Byte).getLsbD 1 = true
      ∧ State.reset.power.state = .parked ∧ running.power.state = .running := by decide +kernel

/-- A request that carries one field, with the other received and expired, and with the other fresh. -/
theorem witness_VehicleStoresItsFields_one :
    (1 : Byte) ≠ 0 ∧ (1 : Byte).getLsbD 0 = true ∧ (1 : Byte).getLsbD 1 = false
      ∧ (let s := vehicleState.setFaults { vehicleState.faults with expiryLux := none };
        s.link.lux.isSome = true ∧ s.faults.expiryLux.isNone = true)
      ∧ vehicleState.faults.expiryLux.isNone = false ∧ running.link.lux.isSome = false := by decide +kernel

theorem witness_OverlayRequestsEditTheList :
    overlayAccepted 1 7 2047 2047 2047 8 3 ∧ overlayAccepted 0 0 0 0 0 1 0 ∧ ¬overlayAccepted 0 0 2048 0 0 1 0
      ∧ ¬overlayAccepted 0 0 0 1 0 1 0
      ∧ ((overlaid.comp .left).overlays = [⟨3, 700, 0, 799, 4, 1⟩] ++ ⟨1, 900, 100, 699, 2, 0⟩ :: [⟨5, 1100, 0, 799, 2, 3⟩]
        ∧ ∀ o ∈ (overlaid.comp .left).overlays, o.id ≠ 6) := by
  unfold overlayAccepted
  decide +kernel

theorem witness_FaultctlAndLockActOnTheSupervisor :
    0x1FFF < (0x2000 : BitVec 16).toNat ∧ ¬0x1FFF < (0x1FFF : BitVec 16).toNat ∧ (1 : BitVec 64) &&& ~~~FaultSet.every ≠ 0
      ∧ (0x1000000 : BitVec 64) &&& ~~~FaultSet.every = 0 ∧ (locked running).faults.locked = true
      ∧ ((locked running).faults.masks &&& ~~~(0x20 : BitVec 16)) ||| (0x20 &&& 0x20) ≠ (locked running).faults.masks := by decide +kernel

theorem witness_ContextSavesTakeTheImage :
    (trained.context .left).identityCopy ≠ none ∧ (running.context .left).identityCopy = none ∧ (0 : Byte).toNat = sideCode .left
      ∧ (1 : Byte).toNat = sideCode .right ∧ 1 < (2 : Byte).toNat := by decide +kernel

theorem witness_ContextLoadsAreJudgedInOrder :
    (dusky.bytes .left).length = 171 ∧ (crc32 ((dusky.bytes .left).take 167)).toNat = imageNat (dusky.bytes .left) 167 4
      ∧ imageNat (dusky.bytes .left) 0 1 = 1 ∧ imageNat (dusky.bytes .left) 1 1 = (0 : Byte).toNat
      ∧ imageNat (dusky.bytes .left) 1 1 ≠ (1 : Byte).toNat ∧ imageNat (dusky.bytes .left) 3 1 ≤ 2
      ∧ running.power.state = .running ∧ State.reset.power.state ≠ .running := by
  refine ⟨rfl, (Image.bytes_crc dusky .left).symm, rfl, rfl, ?_, ?_, rfl, by decide +kernel⟩ <;> decide +kernel

theorem witness_SavedImageLoadsBack :
    dusky.e < 256 ∧ dusky.gainR < 65536 ∧ dusky.gainB < 65536 ∧ dusky.backlight < 65536 ∧ dusky.framesAdapted < 4294967296
      ∧ dusky.grid.length = 128 ∧ (∀ g ∈ dusky.grid, g ≤ 96) ∧ dusky.tags.length = 128 ∧ State.reset.power.state ≠ .running := by
  decide +kernel

theorem witness_MonitorRequestsQueueTheirBytes :
    (running.display .left).outQueue.length < 4
      ∧ 4 ≤ ((running.setDisplay .left { Display.reset with outQueue := [[1], [2], [3], [4]] }).display .left).outQueue.length := by
  decide +kernel

theorem witness_DisplayRequestsSetTheEnable :
    ((running.display .left).enabled = true ∧ running.awake = true ∧ State.reset.awake = false)
      ∧ (let s := running.setDisplay .left { Display.reset with enabled := false };
        (s.display .left).enabled = false ∧ (s.display .left).link = .hibernate ∧ s.awake = true)
      ∧ (live.display .left).link = .synced ∧ (live.display .left).enabled = true := by decide +kernel

theorem witness_PowerParkStopsEverything : State.reset.power.state = .parked ∧ running.power.state = .running ∧ starting.power.state = .starting := by
  decide +kernel

theorem witness_EarlyStagesOfAPixel :
    3328 ≤ 3328 ∧ 3584 ≤ 3584 ∧ (256 ≤ 256 ∧ 3584 = 3328 + 256) ∧ (0 ≤ 256 ∧ 3328 = 3328 + 0) ∧ (0 < 1920 ∧ 1919 < 1920 ∧ 0 < 1080 ∧ 1079 < 1080)
      ∧ ∀ x y, (fun _ _ => 1048575 : Nat → Nat → Nat) x y ≤ 1048575 :=
  ⟨by decide, by decide, by decide, by decide, by decide, fun _ _ => Nat.le_refl _⟩

theorem witness_PixelGainMixesTheCorners :
    (15 < 16 ∧ 7 < 8) ∧ (∀ n, n < 128 → (List.replicate 128 64).getD n 0 ≤ 64) ∧ ∀ n, n < 128 → allEmpty.getD n false = false := by
  decide +kernel

theorem witness_AttenuationAndCompression : (95 < 96 ∧ 96 ≤ 96) ∧ 65536 ≤ 65536 ∧ 65536 < 65537 := by decide

/-- The pan at its target, above it and below it, and an angle of each sign. -/
theorem witness_PanMovesWithinTheRoom :
    (let c := Compositor.startFrame .left (some 1) { Compositor.reset with panOffset := 400 };
      c.panTarget ≤ min 400 (panRoom c.act))
      ∧ (let c := Compositor.startFrame .left (some 250) Compositor.reset;
      min 0 (panRoom c.act) ≤ c.panTarget)
      ∧ (0 : Int) < 1 ∧ (-1 : Int) < 0 ∧ (0 : Int) ≤ 0 := by decide

theorem witness_ReadingRequestsChangeNothing :
    (3 : Byte).toNat ≤ 3 ∧ 1 < (2 : Byte).toNat ∧ 4 ≤ (4 : Byte).toNat ∧ (6 : Byte).toNat ≤ 6 ∧ (3 : Byte) ≠ 2 ∧ 6 < (7 : Byte).toNat
      ∧ (1 : Byte).toNat = sideCode .right := by decide

theorem witness_CollectReturnsTheOldestEntries :
    1 ≤ (1 : Byte).toNat ∧ (16 : Byte).toNat ≤ 16 ∧ (0 : Byte).toNat = 0 ∧ 16 < (17 : Byte).toNat := by decide

end Sys2Proof.Tests
end

section
/-! Image development (02): the stages of a pixel up to its luma, the zone statistics, and tone with the output colour. -/

namespace Sys2Proof.Proofs.ImageDevelopment

open Sys2Proof Sys2Proof.Machine

/-! ### The piecewise logarithm -/

/-- The first bit and the four bits below it, as a number from 16 to 31. -/
theorem mantissa_mem {x : Nat} (hx : x ≠ 0) : 16 ≤ 16 * x / 2 ^ x.log2 ∧ 16 * x / 2 ^ x.log2 < 32 := by
  have hlo : 2 ^ x.log2 ≤ x := Nat.log2_self_le hx
  have hhi : x < 2 ^ (x.log2 + 1) := Nat.lt_log2_self
  rw [Nat.pow_succ] at hhi
  rw [Nat.le_div_iff_mul_le (Nat.two_pow_pos _), Nat.div_lt_iff_lt_mul (Nat.two_pow_pos _)]
  omega

/-- One form of the logarithm for both of its cases: sixteen steps of equal width in each octave. -/
theorem logL_add_sixteen {x : Nat} (hx : x ≠ 0) : logL x + 16 = 16 * x.log2 + 16 * x / 2 ^ x.log2 := by
  obtain ⟨hlo, hhi⟩ := mantissa_mem hx
  have fraction : (if 4 ≤ x.log2 then x / 2 ^ (x.log2 - 4) % 16 else x * 2 ^ (4 - x.log2) % 16) = 16 * x / 2 ^ x.log2 % 16 := by
    split
    next hp =>
      have hpow : 2 ^ x.log2 = 16 * 2 ^ (x.log2 - 4) := (pow_sub_mul_pow 2 hp).symm.trans (Nat.mul_comm ..)
      rw [hpow, Nat.mul_div_mul_left _ _ (by decide)]
    next hp =>
      have hpow : 2 ^ (4 - x.log2) * 2 ^ x.log2 = 16 := pow_sub_mul_pow 2 (by omega)
      rw [Nat.mul_comm 16, ← hpow, ← Nat.mul_assoc, Nat.mul_div_cancel _ (Nat.two_pow_pos _)]
  simp only [logL, if_neg hx, fraction]
  omega

theorem logL_zero : logL 0 = 0 := rfl

theorem logL_lt_of_log2_lt {x p : Nat} (hp : 0 < p) (h : x.log2 < p) : logL x < 16 * p := by
  obtain rfl | hx := Nat.eq_zero_or_pos x
  · simpa [logL_zero] using hp
  · have h1 := logL_add_sixteen hx.ne'
    have h2 := (mantissa_mem hx.ne').2
    omega

theorem le_logL {x : Nat} (hx : x ≠ 0) : 16 * x.log2 ≤ logL x := by
  have h1 := logL_add_sixteen hx
  have h2 := (mantissa_mem hx).1
  omega

theorem logL_mono {x y : Nat} (h : x ≤ y) : logL x ≤ logL y := by
  obtain rfl | hx := Nat.eq_zero_or_pos x
  · exact Nat.zero_le _
  have hy : y ≠ 0 := by omega
  have hxy : x.log2 ≤ y.log2 := by
    rw [Nat.log2_eq_log_two, Nat.log2_eq_log_two]
    exact Nat.log_mono_right h
  obtain hlt | heq := Nat.lt_or_eq_of_le hxy
  · have h1 : logL x < 16 * y.log2 := logL_lt_of_log2_lt (by omega) hlt
    have h2 := le_logL hy
    omega
  · have h1 := logL_add_sixteen hx.ne'
    have h2 := logL_add_sixteen hy
    have h3 : 16 * x / 2 ^ y.log2 ≤ 16 * y / 2 ^ y.log2 := Nat.div_le_div_right (Nat.mul_le_mul_left 16 h)
    rw [heq] at h1
    omega

theorem logL_two_pow (k : Nat) : logL (2 ^ k) = 16 * k := by
  have h := logL_add_sixteen (Nat.two_pow_pos k).ne'
  rw [Nat.log2_two_pow, Nat.mul_div_cancel _ (Nat.two_pow_pos k)] at h
  omega

/-- The logarithm of a 20-bit luma lies in segments 0 to 19. -/
theorem logL_lt_of_le_lumaMax {x : Nat} (h : x ≤ 1048575) : logL x < 320 := by
  obtain rfl | hx := Nat.eq_zero_or_pos x
  · decide
  · exact logL_lt_of_log2_lt (p := 20) (by decide) ((Nat.log2_lt hx.ne').mpr (by omega))

/-! ### Curves and tone (R29) -/

theorem curveOk_iff (curve : Curve) : curveOk curve = true ↔ curve.SortedLE ∧ ∀ k ∈ curve, k ≤ 1023 := by
  rw [List.sortedLE_iff_isChain]
  induction curve using curveOk.induct with
  | case1 => simp [curveOk]
  | case2 k => simp [curveOk]
  | case3 k l rest ih =>
    rw [curveOk, Bool.and_eq_true, ih, decide_eq_true_eq, List.isChain_cons_cons]
    constructor
    · rintro ⟨hkl, hchain, hle⟩
      exact ⟨⟨hkl, hchain⟩, List.forall_mem_cons.mpr ⟨hkl.trans (hle l List.mem_cons_self), hle⟩⟩
    · rintro ⟨⟨hkl, hchain⟩, hle⟩
      exact ⟨hkl, hchain, (List.forall_mem_cons.mp hle).2⟩

section

variable {curve : Curve} (hlen : curve.length = 21) (hok : curveOk curve = true)
include hlen hok

theorem knot_mono {i j : Nat} (hij : i ≤ j) (hj : j ≤ 20) : curve.getD i 0 ≤ curve.getD j 0 := by
  rw [List.getD_eq_getElem _ _ (by omega), List.getD_eq_getElem _ _ (by omega)]
  exact ((curveOk_iff curve).mp hok).1.getElem_le_getElem_of_le hij

theorem knot_le {i : Nat} (hi : i ≤ 20) : curve.getD i 0 ≤ 1023 := by
  rw [List.getD_eq_getElem _ _ (by omega)]
  exact ((curveOk_iff curve).mp hok).2 _ (List.getElem_mem _)

end

/-- The point of a curve at a value u of the piecewise logarithm. -/
def curveAt (curve : Curve) (u : Nat) : Nat :=
  curve.getD (u / 16) 0 + (curve.getD (u / 16 + 1) 0 - curve.getD (u / 16) 0) * (u % 16) / 16

theorem tone_eq_curveAt (curve : Curve) (y : Nat) : tone curve y = curveAt curve (logL y) := rfl

theorem knot_le_curveAt (curve : Curve) (u : Nat) : curve.getD (u / 16) 0 ≤ curveAt curve u := Nat.le_add_right ..

theorem curveAt_sixteen_mul (curve : Curve) (k : Nat) : curveAt curve (16 * k) = curve.getD k 0 := by simp [curveAt]

/-- The share of a step taken at a fraction below 16 stays within the step. -/
theorem share_le (step : Nat) {fr : Nat} (h : fr < 16) : step * fr / 16 ≤ step :=
  Nat.div_le_of_le_mul (by rw [Nat.mul_comm 16]; exact Nat.mul_le_mul_left _ h.le)

section

variable {curve : Curve} (hlen : curve.length = 21) (hok : curveOk curve = true)
include hlen hok

theorem curveAt_le_knot {u : Nat} (hu : u < 320) : curveAt curve u ≤ curve.getD (u / 16 + 1) 0 := by
  have hstep := knot_mono hlen hok (Nat.le_add_right (u / 16) 1) (by omega)
  have hshare := share_le (curve.getD (u / 16 + 1) 0 - curve.getD (u / 16) 0) (Nat.mod_lt u (by decide))
  unfold curveAt
  omega

/-- Within a segment the share grows with the fraction; between segments a knot lies between the two points. -/
theorem curveAt_mono {u v : Nat} (huv : u ≤ v) (hv : v < 320) : curveAt curve u ≤ curveAt curve v := by
  obtain hlt | heq := Nat.lt_or_eq_of_le (Nat.div_le_div_right (c := 16) huv)
  · calc curveAt curve u ≤ curve.getD (u / 16 + 1) 0 := curveAt_le_knot hlen hok (by omega)
      _ ≤ curve.getD (v / 16) 0 := knot_mono hlen hok hlt (by omega)
      _ ≤ curveAt curve v := knot_le_curveAt curve v
  · have hfr : u % 16 ≤ v % 16 := by omega
    unfold curveAt
    rw [heq]
    exact Nat.add_le_add_left (Nat.div_le_div_right (Nat.mul_le_mul_left _ hfr)) _

theorem tone_between_knots {y : Nat} (hy : y ≤ 1048575) :
    curve.getD (logL y / 16) 0 ≤ tone curve y ∧ tone curve y ≤ curve.getD (logL y / 16 + 1) 0 ∧ tone curve y ≤ 1023 := by
  have hu := logL_lt_of_le_lumaMax hy
  have hhi : tone curve y ≤ curve.getD (logL y / 16 + 1) 0 := curveAt_le_knot hlen hok hu
  exact ⟨knot_le_curveAt curve _, hhi, hhi.trans (knot_le hlen hok (by omega))⟩

theorem tone_mono {y z : Nat} (hyz : y ≤ z) (hz : z ≤ 1048575) : tone curve y ≤ tone curve z :=
  curveAt_mono hlen hok (logL_mono hyz) (logL_lt_of_le_lumaMax hz)

end

theorem tone_two_pow (curve : Curve) (k : Nat) : tone curve (2 ^ k) = curve.getD k 0 := by
  rw [tone_eq_curveAt, logL_two_pow, curveAt_sixteen_mul]

/-! ### Compression and the output colour (R71, R30) -/

theorem compress_of_le {knee y : Nat} (a : Nat) (h : y ≤ knee) : compress knee a y = y := if_pos h

/-- The multiplier of a gain of 0 is 1. -/
theorem compress_zero (knee y : Nat) : compress knee 0 y = y := by
  have hm : attenM 0 = 65536 := rfl
  rw [compress, hm]
  split <;> omega

theorem outChannel_zero (c t : Nat) : outChannel c t 0 = 0 := rfl

theorem outChannel_of_ne {y : Nat} (c t : Nat) (h : y ≠ 0) : outChannel c t y = min 1023 (c * t / y) := if_neg h

/-- Settles O22: the tone is a point of the curve at the piecewise logarithm, and both never decrease. -/
theorem toneAndColourOutput : Obligations.ToneAndColourOutput := by
  refine ⟨fun _ _ => rfl, fun curve hlen hok => ⟨fun y => tone_between_knots hlen hok, fun y z => tone_mono hlen hok,
    fun k _ => tone_two_pow curve k⟩, fun d x y => ⟨fun hl => ?black, fun hl => ?lit, fun h => ?uncompressed⟩, by decide, by decide⟩
  case black => simp only [Developed.pixel, hl, outChannel_zero]
  case lit => simp only [Developed.pixel, outChannel_of_ne _ _ hl]
  case uncompressed =>
    obtain hle | hgain := h
    · simp only [compress_of_le _ hle]
    · simp only [hgain, compress_zero]

/-! ### Merge and white balance (R21 to R23) -/

theorem merge_of_le {lg : Nat} (code sh : Nat) (h : lg ≤ 3328) : merge code lg sh = lg := by
  simp [merge, Nat.sub_eq_zero_of_le h]

theorem merge_of_ge {lg : Nat} (code sh : Nat) (h : 3584 ≤ lg) : merge code lg sh = sh * 2 ^ code := by
  have hw : min (lg - 3328) 256 = 256 := by omega
  simp [merge, hw]

theorem merge_of_blend (code sh : Nat) {w : Nat} (h : w ≤ 256) :
    merge code (3328 + w) sh = ((3328 + w) * (256 - w) + sh * 2 ^ code * w) / 256 := by
  simp [merge, h]

/-- A blend of two values stays within a bound of both. -/
theorem blend_le {a b m w : Nat} (ha : a ≤ m) (hb : b ≤ m) (hw : w ≤ 256) : (a * (256 - w) + b * w) / 256 ≤ m := by
  have h : a * (256 - w) + b * w ≤ 256 * m :=
    calc a * (256 - w) + b * w ≤ m * (256 - w) + m * w := by gcongr
      _ = 256 * m := by rw [← Nat.mul_add, Nat.sub_add_cancel hw, Nat.mul_comm]
  omega

theorem merge_le {code lg sh : Nat} (hcode : code ≤ 8) (hlg : lg ≤ 4095) (hsh : sh ≤ 4095) : merge code lg sh ≤ 1048320 := by
  have hshort : sh * 2 ^ code ≤ 4095 * 2 ^ 8 := Nat.mul_le_mul hsh (Nat.pow_le_pow_right (by decide) hcode)
  exact blend_le (by omega) hshort (Nat.min_le_right ..)

theorem filterAt_eq_r_iff (x y : Nat) : filterAt x y = .r ↔ y % 2 = 0 ∧ x % 2 = 0 := by
  unfold filterAt; split <;> split <;> simp_all

theorem filterAt_eq_g_iff (x y : Nat) : filterAt x y = .g ↔ y % 2 ≠ x % 2 := by
  unfold filterAt; split <;> split <;> simp <;> omega

theorem filterAt_eq_b_iff (x y : Nat) : filterAt x y = .b ↔ y % 2 = 1 ∧ x % 2 = 1 := by
  unfold filterAt; split <;> split <;> simp <;> omega

section

variable (d : Developed) {x y : Nat}

theorem balanced_of_r (h : filterAt x y = .r) : d.balanced x y = min (d.merged x y * d.latched.gainR / 256) 1048575 := by
  simp only [Developed.balanced, h, balance, lumaMax]

theorem balanced_of_g (h : filterAt x y = .g) : d.balanced x y = d.merged x y := by
  simp only [Developed.balanced, h]

theorem balanced_of_b (h : filterAt x y = .b) : d.balanced x y = min (d.merged x y * d.latched.gainB / 256) 1048575 := by
  simp only [Developed.balanced, h, balance, lumaMax]

end

/-! ### Demosaic and luma (R24, R25) -/

theorem after_frameWidth (x : Nat) : after frameWidth x = if x = 1919 then 1918 else x + 1 := by simp [after, frameWidth]

theorem after_frameHeight (y : Nat) : after frameHeight y = if y = 1079 then 1078 else y + 1 := by simp [after, frameHeight]

section

variable (v : Nat → Nat → Nat) {x y : Nat}

theorem demosaic_of_r (h : filterAt x y = .r) : demosaic v x y = ⟨v x y, meanCross v x y, meanDiagonal v x y⟩ := by
  simp only [demosaic, h]

theorem demosaic_of_b (h : filterAt x y = .b) : demosaic v x y = ⟨meanDiagonal v x y, meanCross v x y, v x y⟩ := by
  simp only [demosaic, h]

/-- A green photosite in a red row has its red neighbours beside it, in a blue row above and below it. -/
theorem demosaic_of_g (h : filterAt x y = .g) :
    demosaic v x y = if y % 2 = 0 then ⟨meanSides v x y, v x y, meanAboveBelow v x y⟩
      else ⟨meanAboveBelow v x y, v x y, meanSides v x y⟩ := by
  simp only [demosaic, h]

theorem meanCross_eq (x y : Nat) :
    meanCross v x y =
      (v (before x) y + v (after frameWidth x) y + (v x (before y) + v x (after frameHeight y))) / 4 := by
  rw [meanCross, Nat.add_assoc (v (before x) y + v (after frameWidth x) y)]

variable {v} {m : Nat} (hv : ∀ x y, v x y ≤ m) (x y : Nat)
include hv

theorem meanSides_le : meanSides v x y ≤ m := by
  have := hv (before x) y; have := hv (after frameWidth x) y
  unfold meanSides; omega

theorem meanAboveBelow_le : meanAboveBelow v x y ≤ m := by
  have := hv x (before y); have := hv x (after frameHeight y)
  unfold meanAboveBelow; omega

theorem meanCross_le : meanCross v x y ≤ m := by
  have := hv (before x) y; have := hv (after frameWidth x) y; have := hv x (before y); have := hv x (after frameHeight y)
  unfold meanCross; omega

theorem meanDiagonal_le : meanDiagonal v x y ≤ m := by
  have := hv (before x) (before y); have := hv (after frameWidth x) (before y)
  have := hv (before x) (after frameHeight y); have := hv (after frameWidth x) (after frameHeight y)
  unfold meanDiagonal; omega

theorem demosaic_le : (demosaic v x y).r ≤ m ∧ (demosaic v x y).g ≤ m ∧ (demosaic v x y).b ≤ m := by
  cases h : filterAt x y with
  | r => rw [demosaic_of_r v h]; exact ⟨hv x y, meanCross_le hv x y, meanDiagonal_le hv x y⟩
  | g =>
    rw [demosaic_of_g v h]
    split
    · exact ⟨meanSides_le hv x y, hv x y, meanAboveBelow_le hv x y⟩
    · exact ⟨meanAboveBelow_le hv x y, hv x y, meanSides_le hv x y⟩
  | b => rw [demosaic_of_b v h]; exact ⟨meanDiagonal_le hv x y, meanCross_le hv x y, hv x y⟩

end

/-- The three weights add up to 256. -/
theorem luma_le {c : Colour} {m : Nat} (hr : c.r ≤ m) (hg : c.g ≤ m) (hb : c.b ≤ m) : luma c ≤ m := by
  unfold luma; omega

/-- The top left corner: both edge neighbours count twice, the diagonal one four times. -/
theorem demosaic_top_left (v : Nat → Nat → Nat) : demosaic v 0 0 = ⟨v 0 0, (2 * v 1 0 + 2 * v 0 1) / 4, v 1 1⟩ := by
  have cross : meanCross v 0 0 = (2 * v 1 0 + 2 * v 0 1) / 4 := by simp [meanCross, before, after, frameWidth, frameHeight]; omega
  have diagonal : meanDiagonal v 0 0 = v 1 1 := by simp [meanDiagonal, before, after, frameWidth, frameHeight]; omega
  rw [demosaic_of_r v rfl, cross, diagonal]

theorem demosaic_bottom_right (v : Nat → Nat → Nat) :
    demosaic v 1919 1079 = ⟨v 1918 1078, (2 * v 1918 1079 + 2 * v 1919 1078) / 4, v 1919 1079⟩ := by
  have cross : meanCross v 1919 1079 = (2 * v 1918 1079 + 2 * v 1919 1078) / 4 := by
    simp [meanCross, before, after, frameWidth, frameHeight]; omega
  have diagonal : meanDiagonal v 1919 1079 = v 1918 1078 := by
    simp [meanDiagonal, before, after, frameWidth, frameHeight]; omega
  rw [demosaic_of_b v rfl, cross, diagonal]

/-! ### Zones and their statistics (R26) -/

theorem mem_zonePixels {n x y : Nat} :
    (x, y) ∈ zonePixels n ↔
      120 * (n % 16) ≤ x ∧ x < 120 * (n % 16) + 120 ∧ 135 * (n / 16) ≤ y ∧ y < 135 * (n / 16) + 135 := by
  simp only [zonePixels, zoneCol, zoneRow, List.mem_flatMap, List.mem_map, List.mem_range, Prod.mk.injEq]
  constructor
  · rintro ⟨j, hj, i, hi, rfl, rfl⟩
    omega
  · rintro ⟨hx, hx', hy, hy'⟩
    exact ⟨y - 135 * (n / 16), by omega, x - 120 * (n % 16), by omega, by omega, by omega⟩

theorem zonePixels_length (n : Nat) : (zonePixels n).length = 16200 := by simp [zonePixels, List.length_flatMap]

/-- No pixel twice in a row of the zone, and no two rows share one. -/
theorem zonePixels_nodup (n : Nat) : (zonePixels n).Nodup := by
  rw [zonePixels, List.nodup_flatMap]
  refine ⟨fun j _ => List.nodup_range.map fun a b h => ?columns, List.nodup_range.imp fun {j k} hjk p hj hk => ?rows⟩
  case columns =>
    rw [Prod.mk.injEq] at h
    omega
  case rows =>
    obtain ⟨i, -, rfl⟩ := List.mem_map.mp hj
    obtain ⟨i', -, h⟩ := List.mem_map.mp hk
    rw [Prod.mk.injEq] at h
    omega

theorem foldl_max_attained {l : List Nat} (h : l ≠ []) : ∃ m ∈ l, (∀ b ∈ l, b ≤ m) ∧ l.foldl max 0 = m := by
  obtain ⟨m, hm⟩ := Option.ne_none_iff_exists'.mp (mt List.max?_eq_none_iff.mp h)
  obtain ⟨hmem, hle⟩ := List.max?_eq_some_iff.mp hm
  exact ⟨m, hmem, hle, by rw [List.foldl_max, hm, Option.getD_some, Nat.zero_max]⟩

theorem foldl_min_attained {l : List Nat} (a : Nat) (h : l ≠ []) : ∃ m ∈ l, (∀ b ∈ l, m ≤ b) ∧ l.foldl min a = min a m := by
  obtain ⟨m, hm⟩ := Option.ne_none_iff_exists'.mp (mt List.min?_eq_none_iff.mp h)
  obtain ⟨hmem, hle⟩ := List.min?_eq_some_iff.mp hm
  exact ⟨m, hmem, hle, by rw [List.foldl_min, hm, Option.getD_some]⟩

theorem filterMean_eq (merged : Nat → Nat → Nat) (f : Filter) (pixels : List (Nat × Nat)) (p : Nat × Nat → Bool)
    (h : ∀ q, p q = true ↔ filterAt q.1 q.2 = f) :
    filterMean merged f pixels = ((pixels.filter p).map fun q => merged q.1 q.2).sum / (pixels.filter p).length := by
  have hp : p = fun q => decide (filterAt q.1 q.2 = f) := funext fun q => by rw [Bool.eq_iff_iff, h, decide_eq_true_eq]
  rw [filterMean, meanOf, List.length_map, hp]

section

variable (lumas merged : Nat → Nat → Nat) (bright n : Nat)

theorem zoneRecord_meanY :
    (zoneRecord lumas merged bright n).meanY = ((zonePixels n).map fun p => lumas p.1 p.2).sum / 16200 := by
  simp only [zoneRecord, meanOf, List.length_map, zonePixels_length]

theorem zoneLumas_ne_nil : ((zonePixels n).map fun p => lumas p.1 p.2) ≠ [] := by
  intro h
  have := congrArg List.length h
  simp [zonePixels_length] at this

theorem zoneRecord_maxY :
    (∀ p ∈ zonePixels n, lumas p.1 p.2 ≤ (zoneRecord lumas merged bright n).maxY)
      ∧ ∃ p ∈ zonePixels n, lumas p.1 p.2 = (zoneRecord lumas merged bright n).maxY := by
  obtain ⟨m, hmem, hle, heq⟩ := foldl_max_attained (zoneLumas_ne_nil lumas n)
  have hmax : (zoneRecord lumas merged bright n).maxY = m := by simp only [zoneRecord, heq]
  rw [hmax]
  exact ⟨fun p hp => hle _ (List.mem_map_of_mem hp), List.mem_map.mp hmem⟩

/-- The search for the smallest luma begins at the 20-bit limit, so that it is attained where the lumas are within it. -/
theorem zoneRecord_minY :
    (∀ p ∈ zonePixels n, (zoneRecord lumas merged bright n).minY ≤ lumas p.1 p.2)
      ∧ ((∀ p ∈ zonePixels n, lumas p.1 p.2 ≤ 1048575) →
        ∃ p ∈ zonePixels n, lumas p.1 p.2 = (zoneRecord lumas merged bright n).minY) := by
  obtain ⟨m, hmem, hle, heq⟩ := foldl_min_attained lumaMax (zoneLumas_ne_nil lumas n)
  have hmin : (zoneRecord lumas merged bright n).minY = min lumaMax m := by simp only [zoneRecord, heq]
  rw [hmin]
  refine ⟨fun p hp => (Nat.min_le_right ..).trans (hle _ (List.mem_map_of_mem hp)), fun hrange => ?_⟩
  obtain ⟨p, hp, hpm⟩ := List.mem_map.mp hmem
  have hlimit : lumas p.1 p.2 ≤ lumaMax := hrange p hp
  exact ⟨p, hp, by omega⟩

theorem zoneRecord_bright :
    (zoneRecord lumas merged bright n).bright = ((zonePixels n).filter fun p => bright ≤ lumas p.1 p.2).length := by
  simp only [zoneRecord, List.countP_map]
  simp only [List.countP_eq_length_filter, Function.comp_def]

theorem zoneRecord_flat :
    (zoneRecord lumas merged bright n).flat = true ↔
      (zoneRecord lumas merged bright n).maxY < (zoneRecord lumas merged bright n).minY + 2048 := by
  simp only [zoneRecord, decide_eq_true_eq]
  omega

end

theorem records_length (d : Developed) : d.records.length = 128 := by simp [Developed.records, zones, zoneCount]

theorem records_getElem? (d : Developed) {n : Nat} (h : n < 128) :
    d.records[n]? = some (zoneRecord d.lumaAt d.merged d.latched.brightThreshold n) := by
  simp [Developed.records, zones, zoneCount, h]

/-! ### The bytes of a record (R27) -/

/-- The last byte of a value apart from the ones before it. -/
theorem beBytes_succ (k n : Nat) : beBytes (k + 1) n = beBytes k (n / 256) ++ [BitVec.ofNat 8 n] := by
  have hfront : ∀ i ∈ List.range k, BitVec.ofNat 8 (n / 256 ^ (k - i)) = BitVec.ofNat 8 (n / 256 / 256 ^ (k - 1 - i)) := by
    intro i hi
    have hik : k - i = k - 1 - i + 1 := by have := List.mem_range.mp hi; omega
    rw [hik, Nat.pow_succ', Nat.div_div_eq_div_mul]
  simp only [beBytes, List.range_succ, List.map_append, Nat.add_sub_cancel, List.map_congr_left hfront]
  simp

/-- Bytes written most significant first read back as the value, within the width. -/
theorem beNat_beBytes {k n : Nat} (h : n < 256 ^ k) : beNat (beBytes k n) = n := by
  induction k generalizing n with
  | zero => rw [Nat.pow_zero] at h; rw [Nat.lt_one_iff.mp h]; rfl
  | succ k ih =>
    have hhigh : n / 256 < 256 ^ k := Nat.div_lt_of_lt_mul (by rwa [← Nat.pow_succ'])
    have hread := ih hhigh
    rw [beNat] at hread
    rw [beBytes_succ, beNat, List.foldl_append, hread, List.foldl_cons, List.foldl_nil, BitVec.toNat_ofNat]
    omega

/-- What a run of k bytes at an offset of a record's bytes reads as, where it holds one value's bytes. -/
theorem field_eq {z : ZoneRecord} {offset k n : Nat} (hbytes : (z.bytes.drop offset).take k = beBytes k n) (h : n < 256 ^ k) :
    ((z.bytes.drop offset).take k).foldl (fun n b => 256 * n + b.toNat) 0 = n := by
  rw [hbytes]
  exact beNat_beBytes h

theorem bytes_length (z : ZoneRecord) : z.bytes.length = 21 := by simp [ZoneRecord.bytes, beBytes_length]

/-- Settles O21: each stage by the lemmas about it, the record of a zone field by field. -/
theorem earlyStagesOfAPixel : Obligations.EarlyStagesOfAPixel := by
  refine ⟨fun code lg sh => ⟨merge_of_le code sh, merge_of_ge code sh, fun w hw hlg => ?blend, merge_le⟩,
    fun d x y => ⟨rfl, fun hy hx => balanced_of_r d ((filterAt_eq_r_iff x y).mpr ⟨hy, hx⟩),
      fun h => balanced_of_g d ((filterAt_eq_g_iff x y).mpr h),
      fun hy hx => balanced_of_b d ((filterAt_eq_b_iff x y).mpr ⟨hy, hx⟩)⟩,
    fun v x y _ _ => ?demosaic, fun v => ⟨demosaic_top_left v, demosaic_bottom_right v⟩, fun v m hv x y => ?range,
    fun d x y _ _ => ⟨rfl, rfl⟩, fun c => rfl, fun n x y _ => mem_zonePixels, fun n _ => ⟨zonePixels_nodup n, zonePixels_length n⟩,
    fun d n hn => ⟨_, records_getElem? d hn, ?record⟩, records_length, fun l => rfl, fun z => ?bytes⟩
  case blend => rw [hlg, merge_of_blend code sh hw]
  case demosaic =>
    intro left right up down beside above corners
    have hright : after frameWidth x = right := after_frameWidth x
    have hdown : after frameHeight y = down := after_frameHeight y
    have hsides : meanSides v x y = beside / 2 := by rw [meanSides, hright]; rfl
    have habove : meanAboveBelow v x y = above / 2 := by rw [meanAboveBelow, hdown]; rfl
    have hcross : meanCross v x y = (beside + above) / 4 := by rw [meanCross_eq, hright, hdown]; rfl
    have hcorners : meanDiagonal v x y = corners / 4 := by rw [meanDiagonal, hright, hdown]; rfl
    refine ⟨fun hy hx => ?_, fun hy hx => ?_, fun hy hx => ?_, fun hy hx => ?_⟩
    · rw [demosaic_of_r v ((filterAt_eq_r_iff x y).mpr ⟨hy, hx⟩), hcross, hcorners]
    · rw [demosaic_of_g v ((filterAt_eq_g_iff x y).mpr (by omega)), if_pos hy, hsides, habove]
    · rw [demosaic_of_g v ((filterAt_eq_g_iff x y).mpr (by omega)), if_neg (by omega), hsides, habove]
    · rw [demosaic_of_b v ((filterAt_eq_b_iff x y).mpr ⟨hy, hx⟩), hcross, hcorners]
  case range =>
    obtain ⟨hr, hg, hb⟩ := demosaic_le hv x y
    exact ⟨hr, hg, hb, luma_le hr hg hb⟩
  case record =>
    obtain ⟨hmax, hmaxAt⟩ := zoneRecord_maxY d.lumaAt d.merged d.latched.brightThreshold n
    obtain ⟨hmin, hminAt⟩ := zoneRecord_minY d.lumaAt d.merged d.latched.brightThreshold n
    refine ⟨zoneRecord_meanY .., fun p hp => ⟨hmax p hp, hmin p hp⟩, hmaxAt, hminAt, zoneRecord_bright .., zoneRecord_flat ..,
      filterMean_eq _ _ _ _ fun p => ?_, filterMean_eq _ _ _ _ fun p => ?_, filterMean_eq _ _ _ _ fun p => ?_⟩
    · rw [filterAt_eq_r_iff, decide_eq_true_eq]
    · rw [filterAt_eq_g_iff, decide_eq_true_eq]
    · rw [filterAt_eq_b_iff, decide_eq_true_eq]
  case bytes =>
    have hflat : (if z.flat then 1 else 0) < 256 ^ 1 := by split <;> decide
    exact ⟨bytes_length z, fun h => field_eq rfl h, fun h => field_eq rfl h, fun h => field_eq rfl h, fun h => field_eq rfl h,
      fun h => field_eq rfl h, fun h => field_eq rfl h, fun h => field_eq rfl h, field_eq rfl hflat⟩

end Sys2Proof.Proofs.ImageDevelopment
end

section
/-! Glare dimming (04): the piecewise logarithm, the multiplier and the compression, the gain of a pixel, and the targets with their
temporal filter. -/

namespace Sys2Proof.Proofs.GlareDimming

open Sys2Proof Sys2Proof.Machine Sys2Proof.Proofs.ImageDevelopment

/-! ### The piecewise logarithm (R57) -/

theorem log2_eq_of_octave {x p : Nat} (hlo : 2 ^ p ≤ x) (hhi : x < 2 ^ (p + 1)) : x.log2 = p :=
  (Nat.log2_eq_iff (Nat.ne_of_gt (Nat.lt_of_lt_of_le (Nat.two_pow_pos p) hlo))).mpr ⟨hlo, hhi⟩

/-- The whole part and the fraction of a value whose leading one is at p. -/
theorem logL_of_octave {x p : Nat} (hlo : 2 ^ p ≤ x) (hhi : x < 2 ^ (p + 1)) :
    logL x = 16 * p + (if 4 ≤ p then x / 2 ^ (p - 4) % 16 else x * 2 ^ (4 - p) % 16) := by
  have hx : x ≠ 0 := Nat.ne_of_gt (Nat.lt_of_lt_of_le (Nat.two_pow_pos p) hlo)
  simp only [logL, if_neg hx, log2_eq_of_octave hlo hhi]

/-- Doubling moves the leading one by one place and leaves the mantissa as it is. -/
theorem logL_two_mul {x : Nat} (hx : x ≠ 0) : logL (2 * x) = logL x + 16 := by
  have hlog : (2 * x).log2 = x.log2 + 1 := Nat.log2_two_mul hx
  have hmantissa : 16 * (2 * x) / 2 ^ (x.log2 + 1) = 16 * x / 2 ^ x.log2 := by
    rw [Nat.mul_left_comm, Nat.pow_succ', Nat.mul_div_mul_left _ _ (by decide)]
  have hx' := logL_add_sixteen hx
  have h2x := logL_add_sixteen (x := 2 * x) (by omega)
  rw [hlog, hmantissa] at h2x
  omega

/-- The k-th of the sixteen equal steps between two powers of two. -/
theorem logL_of_step {p k j : Nat} (hp : 4 ≤ p) (hk : k < 16) (hj : j < 2 ^ (p - 4)) :
    logL (2 ^ p + k * 2 ^ (p - 4) + j) = 16 * p + k := by
  have hpow : 2 ^ p = 16 * 2 ^ (p - 4) := (pow_sub_mul_pow 2 hp).symm.trans (Nat.mul_comm ..)
  have hx : 2 ^ p + k * 2 ^ (p - 4) + j = j + 2 ^ (p - 4) * (16 + k) := by rw [hpow]; ring
  have hquot : (j + 2 ^ (p - 4) * (16 + k)) / 2 ^ (p - 4) = 16 + k := by
    rw [Nat.add_mul_div_left _ _ (Nat.two_pow_pos _), Nat.div_eq_of_lt hj, Nat.zero_add]
  have hsteps : k * 2 ^ (p - 4) ≤ 15 * 2 ^ (p - 4) := Nat.mul_le_mul_right _ (by omega)
  have hlo : 2 ^ p ≤ 2 ^ p + k * 2 ^ (p - 4) + j := by omega
  have hhi : 2 ^ p + k * 2 ^ (p - 4) + j < 2 ^ (p + 1) := by rw [Nat.pow_succ]; omega
  rw [logL_of_octave hlo hhi, if_pos hp, hx, hquot]
  omega

/-- Settles O24: the octave of a value gives its whole part and fraction; the rest are the logarithm's laws. -/
theorem piecewiseLogarithm : Obligations.PiecewiseLogarithm := by
  refine ⟨logL_zero, fun x p hlo hhi => ⟨fun hp => ?fromFour, fun hp => ?belowFour⟩,
    fun x hx => Nat.le_of_lt_succ (logL_lt_of_le_lumaMax hx),
    fun x y => logL_mono, fun x hx => logL_two_mul (Nat.ne_of_gt hx), fun p k j => logL_of_step, ?table⟩
  case fromFour => rw [logL_of_octave hlo hhi, if_pos hp]
  case belowFour => rw [logL_of_octave hlo hhi, if_neg (Nat.not_le.mpr hp)]
  case table => decide

/-! ### The attenuation multiplier (R58) -/

/-- Every division in M is exact: a run of sixteen steps takes 32 to 17 times one power of two. -/
theorem attenM_eq {a : Nat} (ha : a / 16 ≤ 11) : attenM a = (32 - a % 16) * 2 ^ (11 - a / 16) := by
  have hpow : 2 ^ (11 - a / 16) * 2 ^ (a / 16) = 2048 := pow_sub_mul_pow 2 ha
  have hnum : 65536 - 2048 * (a % 16) = (32 - a % 16) * 2 ^ (11 - a / 16) * 2 ^ (a / 16) := by
    rw [Nat.mul_assoc, hpow]
    omega
  rw [attenM, hnum, Nat.mul_div_cancel _ (Nat.two_pow_pos _)]

theorem attenM_exact {a : Nat} (ha : a / 16 ≤ 11) : attenM a * 2 ^ (a / 16) = 65536 - 2048 * (a % 16) := by
  rw [attenM_eq ha, Nat.mul_assoc, pow_sub_mul_pow 2 ha]
  omega

/-- Within a run a step takes one power of two away; at its end 17 of them stand above the next run's first 16. -/
theorem attenM_succ_lt {a : Nat} (ha : a < 96) : attenM (a + 1) < attenM a := by
  rw [attenM_eq (a := a) (by omega), attenM_eq (a := a + 1) (by omega)]
  obtain hrun | hlast : a % 16 < 15 ∨ a % 16 = 15 := by omega
  · have hdiv : (a + 1) / 16 = a / 16 := by omega
    rw [hdiv]
    exact Nat.mul_lt_mul_of_pos_right (by omega) (Nat.two_pow_pos _)
  · have hmod : (a + 1) % 16 = 0 := by omega
    have hpow : 2 ^ (11 - a / 16) = 2 * 2 ^ (11 - (a + 1) / 16) := by
      rw [← Nat.pow_succ']
      congr 1
      omega
    have hpos := Nat.two_pow_pos (11 - (a + 1) / 16)
    rw [hmod, hlast, hpow]
    omega

theorem attenM_lt_of_lt {a b : Nat} (hab : a < b) (hb : b ≤ 96) : attenM b < attenM a := by
  induction hab with
  | refl => exact attenM_succ_lt hb
  | step _ ih => exact (attenM_succ_lt hb).trans (ih (Nat.le_of_lt hb))

theorem attenM_le (a : Nat) : attenM a ≤ 65536 := (Nat.div_le_self ..).trans (Nat.sub_le ..)

theorem le_attenM {a : Nat} (ha : a ≤ 96) : 1024 ≤ attenM a := by
  have hlast : attenM 96 = 1024 := rfl
  obtain hlt | rfl := Nat.lt_or_eq_of_le ha
  · exact hlast ▸ (attenM_lt_of_lt hlt (Nat.le_refl _)).le
  · exact hlast.ge

/-! ### The compression (R71) -/

theorem compress_of_lt {knee y : Nat} (a : Nat) (h : knee < y) : compress knee a y = knee + (y - knee) * attenM a / 65536 :=
  if_neg (Nat.not_le.mpr h)

theorem min_le_compress (knee a y : Nat) : min y knee ≤ compress knee a y := by
  obtain h | h := le_or_gt y knee
  · rw [compress_of_le a h]
    exact Nat.min_le_left ..
  · rw [compress_of_lt a h]
    exact (Nat.min_le_right ..).trans (Nat.le_add_right ..)

/-- The part above the knee is scaled by a factor of at most 1. -/
theorem compress_le (knee a y : Nat) : compress knee a y ≤ y := by
  obtain h | h := le_or_gt y knee
  · exact (compress_of_le a h).le
  · have hpart : (y - knee) * attenM a / 65536 ≤ y - knee :=
      Nat.div_le_of_le_mul (by rw [Nat.mul_comm 65536]; exact Nat.mul_le_mul_left _ (attenM_le a))
    rw [compress_of_lt a h]
    omega

theorem compress_mono (knee a : Nat) {y z : Nat} (hyz : y ≤ z) : compress knee a y ≤ compress knee a z := by
  obtain h | h := le_or_gt y knee
  · have hmin := min_le_compress knee a z
    rw [compress_of_le a h]
    omega
  · rw [compress_of_lt a h, compress_of_lt a (h.trans_le hyz)]
    gcongr

/-- Settles O25: the multiplier is 32 to 17 times a power of two, from which its order follows; it never exceeds 1. -/
theorem attenuationAndCompression : Obligations.AttenuationAndCompression :=
  ⟨fun _ => rfl, fun _ _ => attenM_lt_of_lt, fun a ha => ⟨le_attenM ha, attenM_le a, attenM_exact (by omega)⟩, by decide,
    fun _ a _ => compress_of_le a, fun _ a _ => compress_of_lt a, fun knee a y => ⟨min_le_compress knee a y, compress_le knee a y⟩,
    compress_zero, fun knee a _ _ => compress_mono knee a⟩

/-! ### The bilinear mix (R70) -/

section

variable {dx dy : Nat} (hdx : dx ≤ 120) (hdy : dy ≤ 135)
include hdx hdy

/-- The four weights add up to 16,200. -/
theorem corner_weights (m : Nat) :
    m * (120 - dx) * (135 - dy) + m * dx * (135 - dy) + m * (120 - dx) * dy + m * dx * dy = 16200 * m :=
  calc _ = m * (120 - dx + dx) * (135 - dy + dy) := by ring
    _ = 16200 * m := by rw [Nat.sub_add_cancel hdx, Nat.sub_add_cancel hdy]; omega

variable {g00 g10 g01 g11 m : Nat}

theorem bilinear_le (h00 : g00 ≤ m) (h10 : g10 ≤ m) (h01 : g01 ≤ m) (h11 : g11 ≤ m) : bilinear g00 g10 g01 g11 dx dy ≤ m := by
  have hsum : g00 * (120 - dx) * (135 - dy) + g10 * dx * (135 - dy) + g01 * (120 - dx) * dy + g11 * dx * dy ≤ 16200 * m := by
    rw [← corner_weights hdx hdy m]
    gcongr
  unfold bilinear
  omega

theorem le_bilinear (h00 : m ≤ g00) (h10 : m ≤ g10) (h01 : m ≤ g01) (h11 : m ≤ g11) : m ≤ bilinear g00 g10 g01 g11 dx dy := by
  have hsum : 16200 * m ≤ g00 * (120 - dx) * (135 - dy) + g10 * dx * (135 - dy) + g01 * (120 - dx) * dy + g11 * dx * dy := by
    rw [← corner_weights hdx hdy m]
    gcongr
  unfold bilinear
  omega

end

/-- At its own centre the first corner carries the whole weight. -/
theorem bilinear_zero_zero (g00 g10 g01 g11 : Nat) : bilinear g00 g10 g01 g11 0 0 = g00 := by
  simp only [bilinear, Nat.sub_zero, Nat.mul_zero, Nat.zero_mul, Nat.add_zero]
  omega

/-! ### The gain of a pixel (R69, R70) -/

/-- The left column of the corner zones of a pixel. -/
def leftColumn (x : Nat) : Nat := (clampNat x 60 1860 - 60) / 120

/-- The top row of the corner zones of a pixel. -/
def topRow (y : Nat) : Nat := (clampNat y 67 1012 - 67) / 135

/-- How far a pixel lies right of its left column's centres. -/
def offsetX (x : Nat) : Nat := clampNat x 60 1860 - (120 * leftColumn x + 60)

/-- How far a pixel lies below its top row's centres. -/
def offsetY (y : Nat) : Nat := clampNat y 67 1012 - (135 * topRow y + 67)

theorem leftColumn_le (x : Nat) : leftColumn x ≤ 15 := by
  have hle : clampNat x 60 1860 ≤ 1860 := clampNat_le (by decide)
  unfold leftColumn
  omega

theorem topRow_le (y : Nat) : topRow y ≤ 7 := by
  have hle : clampNat y 67 1012 ≤ 1012 := clampNat_le (by decide)
  unfold topRow
  omega

theorem offsetX_le (x : Nat) : offsetX x ≤ 119 := by
  unfold offsetX leftColumn
  omega

theorem offsetY_le (y : Nat) : offsetY y ≤ 134 := by
  unfold offsetY topRow
  omega

theorem clampNat_clampNat (x : Nat) {lo hi : Nat} (h : lo ≤ hi) : clampNat (clampNat x lo hi) lo hi = clampNat x lo hi := by
  rw [clampNat_eq (clampNat x lo hi), Nat.min_eq_left (clampNat_le h), Nat.max_eq_right (le_clampNat x lo hi)]

section

variable (grid : ZoneMap Nat) (tags : ZoneMap Bool)

theorem pixelGain_eq (x y : Nat) :
    pixelGain grid tags x y =
      bilinear (cornerGain grid tags (leftColumn x) (topRow y)) (cornerGain grid tags (min (leftColumn x + 1) 15) (topRow y))
        (cornerGain grid tags (leftColumn x) (min (topRow y + 1) 7))
        (cornerGain grid tags (min (leftColumn x + 1) 15) (min (topRow y + 1) 7)) (offsetX x) (offsetY y) := rfl

/-- Outside the outer ring of centres a pixel takes the gain of the ring's nearest point. -/
theorem pixelGain_clampNat (x y : Nat) : pixelGain grid tags (clampNat x 60 1860) (clampNat y 67 1012) = pixelGain grid tags x y := by
  simp only [pixelGain, clampNat_clampNat x (show 60 ≤ 1860 by decide), clampNat_clampNat y (show 67 ≤ 1012 by decide)]

theorem pixelGain_centre {c r : Nat} (hc : c < 16) (hr : r < 8) :
    pixelGain grid tags (120 * c + 60) (135 * r + 67) = cornerGain grid tags c r := by
  have hx : clampNat (120 * c + 60) 60 1860 = 120 * c + 60 := by rw [clampNat_eq]; omega
  have hy : clampNat (135 * r + 67) 67 1012 = 135 * r + 67 := by rw [clampNat_eq]; omega
  have hcol : leftColumn (120 * c + 60) = c := by rw [leftColumn, hx]; omega
  have hrow : topRow (135 * r + 67) = r := by rw [topRow, hy]; omega
  have hdx : offsetX (120 * c + 60) = 0 := by rw [offsetX, hx, hcol, Nat.sub_self]
  have hdy : offsetY (135 * r + 67) = 0 := by rw [offsetY, hy, hrow, Nat.sub_self]
  rw [pixelGain_eq, hdx, hdy, bilinear_zero_zero, hcol, hrow]

variable {grid tags}

/-- A bound of every zone's contribution bounds the mix. -/
theorem pixelGain_le {m : Nat} (h : ∀ c r, c < 16 → r < 8 → cornerGain grid tags c r ≤ m) (x y : Nat) : pixelGain grid tags x y ≤ m := by
  have hleft : leftColumn x < 16 := Nat.lt_succ_of_le (leftColumn_le x)
  have hright : min (leftColumn x + 1) 15 < 16 := Nat.lt_succ_of_le (Nat.min_le_right ..)
  have htop : topRow y < 8 := Nat.lt_succ_of_le (topRow_le y)
  have hbottom : min (topRow y + 1) 7 < 8 := Nat.lt_succ_of_le (Nat.min_le_right ..)
  rw [pixelGain_eq]
  exact bilinear_le ((offsetX_le x).trans (by decide)) ((offsetY_le y).trans (by decide)) (h _ _ hleft htop) (h _ _ hright htop)
    (h _ _ hleft hbottom) (h _ _ hright hbottom)

theorem cornerGain_of_empty {c r : Nat} (h : tags.getD (zoneAt c r) false = false) : cornerGain grid tags c r = 0 := by
  rw [cornerGain, h]
  rfl

theorem cornerGain_le {c r m : Nat} (h : grid.getD (zoneAt c r) 0 ≤ m) : cornerGain grid tags c r ≤ m := by
  unfold cornerGain
  split
  · exact h
  · exact Nat.zero_le m

end

theorem zoneAt_lt {c r : Nat} (hc : c < 16) (hr : r < 8) : zoneAt c r < 128 := by
  unfold zoneAt
  omega

/-- Settles O23: the gain is the bilinear mix at the pixel's offsets, whose weights add up to 16,200. -/
theorem pixelGainMixesTheCorners : Obligations.PixelGainMixesTheCorners := by
  refine fun grid tags => ⟨fun x y => ?pixel, fun c r => pixelGain_centre grid tags, fun m x y h => ?bounded, fun x y h => ?empty⟩
  case pixel =>
    have hdx : offsetX x ≤ 120 := (offsetX_le x).trans (by decide)
    have hdy : offsetY y ≤ 135 := (offsetY_le y).trans (by decide)
    refine ⟨rfl, offsetX_le x, offsetY_le y, leftColumn_le x, topRow_le y, ?least, ?largest, (pixelGain_clampNat grid tags x y).symm⟩
    case least =>
      exact le_bilinear hdx hdy ((Nat.min_le_left ..).trans (Nat.min_le_left ..)) ((Nat.min_le_left ..).trans (Nat.min_le_right ..))
        ((Nat.min_le_right ..).trans (Nat.min_le_left ..)) ((Nat.min_le_right ..).trans (Nat.min_le_right ..))
    case largest =>
      exact bilinear_le hdx hdy ((Nat.le_max_left ..).trans (Nat.le_max_left ..)) ((Nat.le_max_right ..).trans (Nat.le_max_left ..))
        ((Nat.le_max_left ..).trans (Nat.le_max_right ..)) ((Nat.le_max_right ..).trans (Nat.le_max_right ..))
  case bounded => exact pixelGain_le (fun c r hc hr => cornerGain_le (h _ (zoneAt_lt hc hr))) x y
  case empty => exact Nat.le_zero.mp (pixelGain_le (fun c r hc hr => (cornerGain_of_empty (h _ (zoneAt_lt hc hr))).le) x y)

/-! ### Raw targets (R63, R64) -/

section

variable {g : GlareGroup} {ns : NightState} {valid : Bool} {z : ZoneRecord}

theorem rawTarget_of_excluded (h : g.enable = false ∨ ns = .day ∨ valid = false ∨ z.bright < g.countThreshold) :
    rawTarget g ns valid z = 0 := by
  refine if_pos ?_
  obtain h | h | h | h := h <;> simp [h]

theorem rawTarget_of_formed (hon : g.enable = true) (hns : ns ≠ .day) (hvalid : valid = true) (hbright : g.countThreshold ≤ z.bright) :
    rawTarget g ns valid z = min g.aMax ((logL z.maxY - logL g.knee) * g.strength / 16) :=
  if_neg (by simp [hon, hns, hvalid, hbright])

end

theorem rawTarget_le (g : GlareGroup) (ns : NightState) (valid : Bool) (z : ZoneRecord) : rawTarget g ns valid z ≤ g.aMax := by
  unfold rawTarget
  split
  · exact Nat.zero_le _
  · exact Nat.min_le_left ..

/-! ### Neighbours and spread targets (R65) -/

theorem mem_axisNear {n i j : Nat} (hi : i < n) : j ∈ axisNear n i ↔ j < n ∧ j ≤ i + 1 ∧ i ≤ j + 1 := by
  unfold axisNear
  split <;> split <;> simp only [List.mem_append, List.mem_singleton, List.not_mem_nil, false_or, or_false] <;> omega

/-- A neighbour is near on both axes and is not the zone itself. -/
theorem mem_neighbours {n m : Nat} (hn : n < 128) :
    m ∈ neighbours n ↔ m < 128 ∧ m ≠ n ∧ m % 16 ≤ n % 16 + 1 ∧ n % 16 ≤ m % 16 + 1 ∧ m / 16 ≤ n / 16 + 1 ∧ n / 16 ≤ m / 16 + 1 := by
  have hrow : zoneRow n < 8 := by unfold zoneRow; omega
  have hcol : zoneCol n < 16 := Nat.mod_lt _ (by decide)
  simp only [neighbours, List.mem_filter, List.mem_flatMap, List.mem_map, mem_axisNear hrow, mem_axisNear hcol, decide_eq_true_eq]
  simp only [zoneRow, zoneCol, zoneAt]
  constructor
  · rintro ⟨⟨r, hr, c, hc, rfl⟩, hne⟩
    omega
  · rintro ⟨hlt, hne, hc, hc', hr, hr'⟩
    exact ⟨⟨m / 16, by omega, m % 16, by omega, Nat.div_add_mod m 16⟩, hne⟩

/-- The least upper bound of a list of naturals, 0 for the empty list. -/
theorem foldl_max_le_iff {l : List Nat} {m : Nat} : l.foldl max 0 ≤ m ↔ ∀ b ∈ l, b ≤ m := by
  obtain rfl | hl := eq_or_ne l []
  · simp
  · obtain ⟨k, hk, hle, heq⟩ := foldl_max_attained hl
    rw [heq]
    exact ⟨fun hkm b hb => (hle b hb).trans hkm, fun h => h k hk⟩

section

variable (drop : Nat) (raw : ZoneMap Nat) (n : Nat)

theorem raw_le_spreadTarget : raw.getD n 0 ≤ spreadTarget drop raw n := Nat.le_max_left ..

theorem neighbour_le_spreadTarget {m : Nat} (hm : m ∈ neighbours n) : raw.getD m 0 - drop ≤ spreadTarget drop raw n := by
  have hle : raw.getD m 0 ≤ ((neighbours n).map fun m => raw.getD m 0).foldl max 0 :=
    foldl_max_le_iff.mp (Nat.le_refl _) _ (List.mem_map_of_mem hm)
  exact (Nat.sub_le_sub_right hle drop).trans (Nat.le_max_right ..)

/-- The spread target is one of the values it is the largest of. -/
theorem spreadTarget_attained :
    spreadTarget drop raw n = raw.getD n 0 ∨ ∃ m ∈ neighbours n, spreadTarget drop raw n = raw.getD m 0 - drop := by
  obtain hnil | hne := eq_or_ne ((neighbours n).map fun m => raw.getD m 0) []
  · left
    rw [spreadTarget, hnil, List.foldl_nil, Nat.zero_sub, Nat.max_zero]
  · obtain ⟨k, hk, -, heq⟩ := foldl_max_attained hne
    obtain ⟨m, hm, rfl⟩ := List.mem_map.mp hk
    rw [spreadTarget, heq]
    obtain h | h := Nat.le_total (raw.getD m 0 - drop) (raw.getD n 0)
    · exact .inl (Nat.max_eq_left h)
    · exact .inr ⟨m, hm, Nat.max_eq_right h⟩

theorem spreadTarget_le {aMax : Nat} (h : ∀ m, raw.getD m 0 ≤ aMax) : spreadTarget drop raw n ≤ aMax := by
  obtain heq | ⟨m, -, heq⟩ := spreadTarget_attained drop raw n
  · exact heq ▸ h n
  · exact heq ▸ (Nat.sub_le ..).trans (h m)

end

/-! ### The temporal filter (R66) -/

section

variable (g : GlareGroup) {target gain : Nat}

theorem filterGain_of_lt (h : gain < target) : filterGain g target gain = min target (gain + g.attack) := if_pos h

theorem filterGain_of_gt (h : target < gain) : filterGain g target gain = max target (gain - g.release) := by
  rw [filterGain, if_neg (Nat.lt_asymm h), if_pos h]

theorem filterGain_of_eq (h : target = gain) : filterGain g target gain = gain := by simp [filterGain, h]

/-- The filter never passes its target in either direction. -/
theorem filterGain_between (target gain : Nat) :
    min target gain ≤ filterGain g target gain ∧ filterGain g target gain ≤ max target gain := by
  obtain h | h | h := Nat.lt_trichotomy gain target
  · rw [filterGain_of_lt g h]
    omega
  · rw [filterGain_of_eq g h.symm]
    omega
  · rw [filterGain_of_gt g h]
    omega

end

/-- Settles O26: the raw target case by case, the spread target as the largest of its values, the filter between gain and target. -/
theorem glareTargetsSpreadAndFilter : Obligations.GlareTargetsSpreadAndFilter := by
  refine ⟨fun g ns valid z => ⟨rawTarget_of_excluded, fun hon hns hvalid hbright => ⟨fun hknee => ?dark, fun excess hexcess => ?formed⟩,
      rawTarget_le g ns valid z⟩,
    fun n m => mem_neighbours,
    fun drop raw n => ⟨raw_le_spreadTarget drop raw n, fun m => neighbour_le_spreadTarget drop raw n, spreadTarget_attained drop raw n,
      fun aMax => spreadTarget_le drop raw n⟩,
    fun g target gain => ?filter⟩
  case dark =>
    rw [rawTarget_of_formed hon hns hvalid hbright, Nat.sub_eq_zero_of_le (logL_mono hknee)]
    simp
  case formed => rw [rawTarget_of_formed hon hns hvalid hbright, hexcess, Nat.add_sub_cancel_left]
  case filter =>
    obtain ⟨hlo, hhi⟩ := filterGain_between g target gain
    exact ⟨filterGain_of_lt g, filterGain_of_gt g, filterGain_of_eq g, hlo, hhi, fun aMax ht hg => hhi.trans (Nat.max_le.mpr ⟨ht, hg⟩),
      by decide, by decide, by decide, by decide⟩

end Sys2Proof.Proofs.GlareDimming
end

section
/-! The report queue and attention (08): how the queue takes a report, and the law of the queue through every step. Nearly every event
changes the queue by reports alone; the three that do not, COLLECT, a SET of the attention threshold and the beginnings of a reset, are
treated on their own. -/

namespace Sys2Proof.Proofs.ReportQueueAndAttention

open Sys2Proof Sys2Proof.Machine

/-! ### One report handed to the queue (R133) -/

section
variable {q : ReportQueue} (threshold : Nat) (e : Entry)

theorem arrive_of_room (h : q.entries.length ≤ 30) :
    q.arrive threshold e = { q with entries := q.entries ++ [e], attn := attnLevel threshold (q.entries ++ [e]) } := if_pos h

theorem arrive_at_last_place (h : q.entries.length = 31) :
    q.arrive threshold e =
      { entries := q.entries ++ [⟨.overrun 1, e.time⟩]
        attn := attnLevel threshold (q.entries ++ [⟨.overrun 1, e.time⟩])
        lost := satInc q.lost } := by
  simp [ReportQueue.arrive, h]

theorem bumpNewest_overrun (older : List Entry) (n : Nat) (first : Time) :
    bumpNewest (older ++ [⟨.overrun n, first⟩]) = older ++ [⟨.overrun (min (n + 1) 255), first⟩] := by
  simp [bumpNewest]

theorem arrive_at_overrun {older : List Entry} {n : Nat} {first : Time} (h : q.entries = older ++ [⟨.overrun n, first⟩])
    (hlen : older.length = 31) :
    q.arrive threshold e =
      { q with entries := older ++ [⟨.overrun (min (n + 1) 255), first⟩], lost := satInc q.lost } := by
  simp [ReportQueue.arrive, h, hlen, bumpNewest_overrun]

end

/-! ### The law of a queue -/

/-- The law of the queue (R133) with the longest detail (R131): what it says of the entries alone. -/
structure EntriesLaw (l : List Entry) : Prop where
  length_le : l.length ≤ 32
  newest_overrun : l.length = 32 → (l.getLast?.map fun e => e.report.isOverrun) = some true
  detail_le : ∀ e ∈ l, e.report.detail.length ≤ 32

/-- ATTN stands at its level (R137). -/
def AttnAtLevel (threshold : Nat) (q : ReportQueue) : Prop := q.attn = attnLevel threshold q.entries

theorem queueLaw_iff (s : State) :
    QueueLaw s ↔ EntriesLaw s.queue.entries ∧ AttnAtLevel s.faults.group.attentionThreshold s.queue :=
  ⟨fun ⟨hlen, hnewest, hattn, hdetail⟩ => ⟨⟨hlen, hnewest, hdetail⟩, hattn⟩,
    fun ⟨⟨hlen, hnewest, hdetail⟩, hattn⟩ => ⟨hlen, hnewest, hattn, hdetail⟩⟩

/-- A queue of 32 ends in the OVERRUN entry that its law gives it. -/
theorem EntriesLaw.full {l : List Entry} (h : EntriesLaw l) (hlen : l.length = 32) :
    ∃ older n first, l = older ++ [⟨.overrun n, first⟩] ∧ older.length = 31 := by
  obtain ⟨⟨r, first⟩, hlast, hr⟩ := Option.map_eq_some_iff.mp (h.newest_overrun hlen)
  obtain ⟨older, rfl⟩ := List.getLast?_eq_some_iff.mp hlast
  cases r with
  | overrun n => exact ⟨older, n, first, rfl, by simpa using hlen⟩
  | _ => cases hr

/-- The three ways a report meets a queue under its law. -/
theorem EntriesLaw.room_or_last_or_full {l : List Entry} (h : EntriesLaw l) :
    l.length ≤ 30 ∨ l.length = 31 ∨ ∃ older n first, l = older ++ [⟨.overrun n, first⟩] ∧ older.length = 31 := by
  obtain hle | hlen | hlen : l.length ≤ 30 ∨ l.length = 31 ∨ l.length = 32 := by have := h.length_le; omega
  · exact .inl hle
  · exact .inr (.inl hlen)
  · exact .inr (.inr (h.full hlen))

theorem overrun_detail_length (n : Nat) : (Report.overrun n).detail.length ≤ 32 := by simp [Report.detail, beBytes_length]

/-- One entry more is within the law where it fits the queue: below 32 any entry, as the 32nd an OVERRUN entry. -/
theorem entriesLaw_append {l : List Entry} {e : Entry} (hl : ∀ x ∈ l, x.report.detail.length ≤ 32) (he : e.report.detail.length ≤ 32)
    (hfits : l.length ≤ 30 ∨ l.length = 31 ∧ e.report.isOverrun = true) : EntriesLaw (l ++ [e]) := by
  have hlen : (l ++ [e]).length = l.length + 1 := List.length_append
  refine ⟨by omega, fun hfull => ?_, ?_⟩
  · obtain hle | ⟨-, hover⟩ := hfits
    · omega
    · simp [hover]
  · exact List.forall_mem_append.mpr ⟨hl, by simpa using he⟩

theorem attnLevel_of_overrun (threshold : Nat) (older : List Entry) (n : Nat) (first : Time) :
    attnLevel threshold (older ++ [⟨.overrun n, first⟩]) = true := by
  simp [attnLevel, Report.isOverrun]

section
variable {q : ReportQueue} (threshold : Nat) {e : Entry}

theorem entriesLaw_arrive (h : EntriesLaw q.entries) (he : e.report.detail.length ≤ 32) :
    EntriesLaw (q.arrive threshold e).entries := by
  obtain hle | hlen | ⟨older, n, first, hq, hlen⟩ := h.room_or_last_or_full
  · rw [arrive_of_room threshold e hle]
    exact entriesLaw_append h.detail_le he (.inl hle)
  · rw [arrive_at_last_place threshold e hlen]
    exact entriesLaw_append h.detail_le (overrun_detail_length 1) (.inr ⟨hlen, rfl⟩)
  · rw [arrive_at_overrun threshold e hq hlen]
    have holder : ∀ x ∈ older, x.report.detail.length ≤ 32 := fun x hx => h.detail_le x (by simp [hq, hx])
    exact entriesLaw_append holder (overrun_detail_length _) (.inr ⟨hlen, rfl⟩)

/-- An appended entry has ATTN judged; a counted one leaves ATTN asserted under the OVERRUN entry. -/
theorem attnAtLevel_arrive (h : EntriesLaw q.entries) (ha : AttnAtLevel threshold q) : AttnAtLevel threshold (q.arrive threshold e) := by
  obtain hle | hlen | ⟨older, n, first, hq, hlen⟩ := h.room_or_last_or_full
  · rw [arrive_of_room threshold e hle]; rfl
  · rw [arrive_at_last_place threshold e hlen]; rfl
  · rw [arrive_at_overrun threshold e hq hlen]
    unfold AttnAtLevel at ha ⊢
    rw [hq, attnLevel_of_overrun] at ha
    rw [ha, attnLevel_of_overrun]

end

/-! ### Changes of the queue by reports alone -/

/-- From s to t the attention threshold stands and the queue has taken reports with details of at most 32 bytes, if any. -/
def TakesReports (s t : State) : Prop :=
  t.faults.group.attentionThreshold = s.faults.group.attentionThreshold
    ∧ ∃ l : List Entry, (∀ e ∈ l, e.report.detail.length ≤ 32)
      ∧ t.queue = l.foldl (fun q e => q.arrive s.faults.group.attentionThreshold e) s.queue

section
variable {s t u : State}

/-- Updates that leave queue and FAULT group as they are take no report. -/
theorem TakesReports.of_same (hq : t.queue = s.queue) (hg : t.faults.group = s.faults.group) : TakesReports s t :=
  ⟨by rw [hg], [], by simp, hq⟩

theorem TakesReports.refl : TakesReports s s := .of_same rfl rfl

theorem TakesReports.trans (h : TakesReports s t) (h' : TakesReports t u) : TakesReports s u := by
  obtain ⟨hg, l, hl, hq⟩ := h
  obtain ⟨hg', l', hl', hq'⟩ := h'
  refine ⟨hg'.trans hg, l ++ l', List.forall_mem_append.mpr ⟨hl, hl'⟩, ?_⟩
  rw [List.foldl_append, ← hq, hq', hg]

/-- Such updates before reports. -/
theorem TakesReports.after (h : TakesReports t u) (hq : t.queue = s.queue) (hg : t.faults.group = s.faults.group) :
    TakesReports s u :=
  (TakesReports.of_same hq hg).trans h

/-! Such updates after reports, by the part they write. -/

section
variable {sd : Side}

theorem TakesReports.setPipe {v : Pipeline} (h : TakesReports s t) : TakesReports s (t.setPipe sd v) := h.trans (.of_same rfl rfl)
theorem TakesReports.setComp {v : Compositor} (h : TakesReports s t) : TakesReports s (t.setComp sd v) := h.trans (.of_same rfl rfl)
theorem TakesReports.setDisplay {v : Display} (h : TakesReports s t) : TakesReports s (t.setDisplay sd v) := h.trans (.of_same rfl rfl)
theorem TakesReports.setContext {v : Context} (h : TakesReports s t) : TakesReports s (t.setContext sd v) := h.trans (.of_same rfl rfl)
theorem TakesReports.setRuns {v : Runs} (h : TakesReports s t) : TakesReports s (t.setRuns sd v) := h.trans (.of_same rfl rfl)
theorem TakesReports.setNight {v : Night} (h : TakesReports s t) : TakesReports s (t.setNight v) := h.trans (.of_same rfl rfl)
theorem TakesReports.setPower {v : Power} (h : TakesReports s t) : TakesReports s (t.setPower v) := h.trans (.of_same rfl rfl)

theorem TakesReports.reply {k tag : Byte} {r : Result} {payload : List Byte} (h : TakesReports s t) :
    TakesReports s (formReply k tag r payload t) := h.trans (.of_same rfl rfl)

end

/-- What a frame names neither the queue nor the FAULT group in takes no report. -/
theorem TakesReports.of_unchanged {l : List Part} (h : Unchanged l s t) (hl : .queue ∉ l ∧ .faultGroup ∉ l) : TakesReports s t :=
  .of_same (h .queue hl.1) (h .faultGroup hl.2)

theorem TakesReports.entriesLaw (h : TakesReports s t) (hs : EntriesLaw s.queue.entries) : EntriesLaw t.queue.entries := by
  obtain ⟨-, l, hl, hq⟩ := h
  rw [hq]
  exact List.foldlRecOn (motive := fun q : ReportQueue => EntriesLaw q.entries) l _ hs
    fun q hq e he => entriesLaw_arrive _ hq (hl e he)

theorem TakesReports.queueLaw (h : TakesReports s t) (hs : QueueLaw s) : QueueLaw t := by
  obtain ⟨hg, l, hl, hq⟩ := h
  rw [queueLaw_iff, hq, hg]
  exact List.foldlRecOn (motive := fun q : ReportQueue => EntriesLaw q.entries ∧ AttnAtLevel s.faults.group.attentionThreshold q) l _
    ((queueLaw_iff s).mp hs)
    fun q ⟨hentries, hattn⟩ e he => ⟨entriesLaw_arrive _ hentries (hl e he), attnAtLevel_arrive _ hentries hattn⟩

end

/-! ### Reports, display moves and faults -/

section
variable (s : State) (sd : Side)

theorem takes_report {r : Report} (hr : r.detail.length ≤ 32) : TakesReports s (s.report r) :=
  ⟨rfl, [⟨r, s.timebase⟩], by simpa using hr, rfl⟩

theorem takes_reportFault (f : FaultId) {r : Report} (hr : r.detail.length ≤ 32) : TakesReports s (reportFault f r s) := by
  unfold reportFault; split
  · exact takes_report s hr
  · exact .refl

theorem takes_tryFrameStart : TakesReports s (tryFrameStart sd s) := .of_unchanged (unchanged_tryFrameStart s sd) (by simp)

theorem takes_changeDisplay (new : DisplayState) : TakesReports s (changeDisplay sd new s) := by
  have moved : TakesReports s (s.report (.displayChanged sd (s.display sd).state new)) := takes_report s (by simp [Report.detail])
  unfold changeDisplay; simp only
  cases new with
  | dark => exact moved.setDisplay.setComp.setRuns
  | blanked => exact moved.setDisplay.setComp.trans (takes_tryFrameStart _ sd)
  | _ => exact moved.setDisplay.setComp

theorem takes_viewLossRaised : TakesReports s (viewLossRaised sd s) := by
  unfold viewLossRaised; split
  · split <;> exact takes_changeDisplay s sd _
  · exact .refl

theorem takes_expireHold : TakesReports s (expireHold sd s) := by
  unfold expireHold; split
  · split
    · exact takes_changeDisplay s sd _
    · exact .refl
  · exact .refl

theorem raised_detail_length (f : FaultId) (posted : Bool) : (Report.faultRaised f posted).detail.length ≤ 32 := by
  cases posted <;> exact Nat.le_of_ble_eq_true rfl

theorem takes_raiseEvent (f : FaultId) : TakesReports s (raiseEvent f s) :=
  (takes_reportFault _ f (raised_detail_length f false)).after rfl rfl

theorem takes_raise (f : FaultId) : TakesReports s (raise f s) := by
  unfold raise; split
  · exact .refl
  · have reported (u : State) : TakesReports u (reportFault f (.faultRaised f false) u) :=
      takes_reportFault u f (raised_detail_length f false)
    simp only
    split
    · exact ((reported _).trans (takes_viewLossRaised _ _)).after rfl rfl
    · exact (reported _).after rfl rfl

theorem takes_clearFault (f : FaultId) : TakesReports s (clearFault f s) := by
  unfold clearFault; split
  · exact (takes_reportFault _ f (Nat.zero_le _)).after rfl rfl
  · exact .refl

theorem takes_judgeVehicle : TakesReports s (judgeVehicle s) := by
  unfold judgeVehicle; split
  · split
    · exact takes_raise s _
    · exact takes_clearFault s _
  · exact .refl

/-! ### The monitor link, training and the power state -/

theorem takes_startWake : TakesReports s (startWake sd s) := .of_unchanged (unchanged_startWake s sd) (by simp)

theorem takes_sleepLink : TakesReports s (sleepLink sd s) := .of_unchanged (unchanged_sleepLink s sd) (by simp)

theorem takes_moveDark : TakesReports s (moveDark sd s) := by
  unfold moveDark; split
  · exact .refl
  · exact takes_changeDisplay s sd .dark

theorem takes_becomeUnwanted : TakesReports s (becomeUnwanted sd s) :=
  (takes_sleepLink s sd).setDisplay.trans (takes_moveDark _ sd)

theorem takes_sleepAndWake : TakesReports s (sleepAndWake sd s) :=
  ((takes_sleepLink s sd).setDisplay.trans (takes_moveDark _ sd)).setDisplay.trans (takes_startWake _ sd)

theorem takes_pathFailed {k : State → State} (hk : TakesReports s (k s)) : TakesReports s (pathFailed sd k s) := by
  unfold pathFailed; split
  · exact hk
  · exact (takes_raise s _).trans (takes_sleepAndWake _ sd)

theorem takes_startTraining : TakesReports s (startTraining sd s) := .of_unchanged (unchanged_startTraining s sd) (by simp)

theorem takes_changePower (new : PowerState) : TakesReports s (changePower new s) :=
  (takes_report _ (by simp [Report.detail])).after rfl rfl

theorem takes_judgeRunning : TakesReports s (judgeRunning s) := by
  unfold judgeRunning; split
  · split
    · exact takes_changePower s _
    · exact .refl
  · exact .refl

theorem takes_wakeEnabled : TakesReports s (if (s.display sd).enabled then startWake sd s else s) :=
  .of_unchanged (unchanged_wakeEnabled s sd) (by simp)

theorem takes_startingEffects : TakesReports s (startingEffects s) :=
  takes_startTraining s .left
    |>.trans (takes_startTraining _ .right)
    |>.trans (takes_wakeEnabled _ .left) |>.trans (takes_wakeEnabled _ .right)
    |>.setNight |>.trans (takes_judgeVehicle _)

theorem takes_enterStarting (w : WakeSource) : TakesReports s (enterStarting w s) :=
  (takes_changePower s .starting).setPower.trans (takes_startingEffects _)

/-! ### Training completions, saves and replies -/

theorem takes_applyRestore (i : Image) : TakesReports s (applyRestore sd i s) :=
  TakesReports.of_unchanged (unchanged_install s sd _ _ _ _ _ _ _) (by simp)
    |>.trans (.of_unchanged (unchanged_adoptNight _ i.night) (by simp))
    |>.setContext |>.trans (takes_report _ (by simp [Report.detail]))

theorem takes_rejectRestore : TakesReports s (rejectRestore sd s) :=
  ((takes_raiseEvent s (.contextRejected sd)).trans (takes_report _ (by simp [Report.detail]))).setContext

theorem takes_judgeRestore (identity : BitVec 64) : TakesReports s (judgeRestore sd identity s) := by
  unfold judgeRestore; split
  · exact .refl
  · simp only
    split
    · exact (takes_applyRestore s sd _).setContext
    · exact (takes_rejectRestore s sd).setContext

theorem takes_judgeTraining (identity : BitVec 64) : TakesReports s (judgeTraining sd identity s) :=
  (TakesReports.of_unchanged (unchanged_judgeRetained s sd identity) (by simp)).trans (takes_judgeRestore _ sd identity)

theorem takes_completeSave (tag : Byte) (settled resetAfter : Bool) : TakesReports s (completeSave sd tag settled resetAfter s) :=
  .of_unchanged (unchanged_completeSave s sd tag settled resetAfter) (by simp [answerParts])

theorem takes_endSave (settled : Bool) : TakesReports s (endSave sd settled s) :=
  .of_unchanged (unchanged_endSave s sd settled) (by simp [answerParts])

theorem takes_refuseWith (k tag : Byte) (r : Result) (payload : List Byte) : TakesReports s (refuseWith k tag r payload s) :=
  .of_same rfl rfl

theorem takes_refuse (k tag : Byte) (r : Result) : TakesReports s (refuse k tag r s) := .of_same rfl rfl

end

/-! ### What a command's outcome keeps -/

/-- Where the command goes on from s, the law of the queue holds after it as before. -/
def KeepsQueueLaw (s : State) (o : Host.Outcome State Fault Refusal) : Prop := QueueLaw s → ∀ t, o = .next t → QueueLaw t

section
variable {s t : State}

theorem KeepsQueueLaw.next (h : QueueLaw s → QueueLaw t) : KeepsQueueLaw s (.next t) := by
  rintro hs _ ⟨⟩
  exact h hs

theorem KeepsQueueLaw.reports (h : TakesReports s t) : KeepsQueueLaw s (.next t) := .next h.queueLaw

theorem KeepsQueueLaw.stay : KeepsQueueLaw s (.next s) := .next id

theorem KeepsQueueLaw.fault (f : Fault) : KeepsQueueLaw s (.fault f) := by
  rintro - _ ⟨⟩

end

/-! ### The sensor port -/

section
variable (s : State) (sd : Side)

theorem takes_enterLost : TakesReports s (enterLost sd s) :=
  ((takes_raise _ _).trans (takes_judgeRunning _)).after rfl rfl

theorem takes_startStreaming : TakesReports s (startStreaming sd s) := .of_same rfl rfl

theorem keeps_identityRecord (identity : BitVec 64) (revision : Byte) : KeepsQueueLaw s (execIdentityRecord sd identity revision s) := by
  unfold execIdentityRecord; split
  · have stored : TakesReports s (storeIdentity sd identity revision s) := .of_same rfl rfl
    exact .reports (stored
      |>.trans (takes_judgeTraining _ sd identity)
      |>.trans (takes_startStreaming _ sd)
      |>.trans (takes_judgeRunning _))
  · exact .stay

theorem keeps_trainingDeadline : KeepsQueueLaw s (execTrainingDeadline sd s) := by
  unfold execTrainingDeadline; split
  · exact .stay
  · exact .reports ((takes_enterLost _ sd).after rfl rfl)

theorem keeps_retrainTime : KeepsQueueLaw s (execRetrainTime sd s) := by
  unfold execRetrainTime; split
  · exact .stay
  · exact .reports ((takes_startTraining _ sd).after rfl rfl)

theorem keeps_lossDeadline : KeepsQueueLaw s (execLossDeadline sd s) := by
  unfold execLossDeadline; split
  · exact .stay
  · exact .reports ((takes_enterLost _ sd).after rfl rfl)

theorem keeps_sensorHeader (counter : BitVec 16) (exposure ratio : Byte) (healthy : Bool) :
    KeepsQueueLaw s (execSensorHeader sd counter exposure ratio healthy s) := by
  unfold execSensorHeader; simp only; split
  · split <;> exact .reports (.of_same rfl rfl)
  · exact .stay

theorem takes_deliverE : TakesReports s (deliverE sd s) := .of_unchanged (unchanged_deliverE s sd) (by simp)

theorem takes_applyLimits : TakesReports s (applyLimits sd s) := by
  unfold applyLimits; simp only; split
  · exact .refl
  · exact (takes_deliverE _ sd).after rfl rfl

theorem takes_beginDevelopment (f : Frame) (n : BufName) (drops : Bool) : TakesReports s (beginDevelopment sd f n drops s) := by
  have applied : TakesReports s (applyPending sd s) := .of_same rfl rfl
  exact (applied.trans (takes_applyLimits _ sd)).setPipe

theorem takes_handOver (f : Frame) : TakesReports s (handOver sd f s) := by
  unfold handOver; simp only; split
  · exact takes_beginDevelopment s sd f _ _
  · exact .of_same rfl rfl

theorem takes_judgeSettled (settled : Bool) : TakesReports s (judgeSettled sd settled s) := by
  unfold judgeSettled; simp only; split
  · exact .of_same rfl rfl
  · split
    · split <;> exact .of_same rfl rfl
    · exact .of_same rfl rfl

theorem takes_advanceRecovery : TakesReports s (advanceRecovery sd s) := by
  unfold advanceRecovery; simp only; split
  · split
    · exact (takes_clearFault _ _).after rfl rfl
    · exact .of_same rfl rfl
  · exact .of_same rfl rfl

theorem takes_judgeControl (settled : Bool) (run : Nat) : TakesReports s (judgeControl sd settled run s) := by
  unfold judgeControl; split
  · exact takes_clearFault s _
  · split
    · exact takes_raise s _
    · exact .refl

theorem takes_completeFrame (f : FrameInProgress) : TakesReports s (completeFrame sd f s) := by
  unfold completeFrame; simp only; split
  · exact .of_same rfl rfl
  · have accepted : TakesReports s (acceptFrame sd f s) := .of_same rfl rfl
    exact accepted
      |>.trans (takes_judgeSettled _ sd _)
      |>.trans (takes_handOver _ sd _)
      |>.trans (takes_advanceRecovery _ sd)
      |>.trans (takes_judgeControl _ sd _ _)

theorem takes_storeLine (f : FrameInProgress) (samples : Array Sample) (crc : BitVec 16) :
    TakesReports s (storeLine sd f samples crc s) := by
  unfold storeLine; simp only; split
  · exact (takes_completeFrame _ sd _).after rfl rfl
  · exact .of_same rfl rfl

theorem keeps_sensorLine (samples : Array Sample) (crc : BitVec 16) : KeepsQueueLaw s (execSensorLine sd samples crc s) := by
  unfold execSensorLine; split
  · split
    · exact .reports (takes_storeLine s sd _ samples crc)
    · exact .stay
  · exact .fault _

/-! ### The development pipeline and the adaptation commit -/

theorem takes_frozenCount (signature : BitVec 32) : TakesReports s (frozenCount sd signature s) := by
  unfold frozenCount; simp only; split
  · split
    · exact (takes_clearFault _ _).after rfl rfl
    · exact .of_same rfl rfl
  · split
    · exact (takes_raise _ _).after rfl rfl
    · exact .of_same rfl rfl

theorem takes_request (p : RunPair) (f : FaultId) : TakesReports s (p.request f s) := by
  unfold RunPair.request; split
  · exact takes_raise s f
  · split
    · exact takes_clearFault s f
    · exact .refl

theorem takes_obscuredCount (flat : Nat) : TakesReports s (obscuredCount sd flat s) :=
  (takes_request _ _ _).after rfl rfl

theorem takes_limitCount (settled condition : Bool) : TakesReports s (limitCount sd settled condition s) := by
  unfold limitCount; split
  · exact (takes_request _ _ _).after rfl rfl
  · exact .refl

theorem takes_saturationCount (atMax : Nat) : TakesReports s (saturationCount sd atMax s) :=
  (takes_request _ _ _).after rfl rfl

theorem takes_faultCounts (settled : Bool) (signature : BitVec 32) (flat : Nat) :
    TakesReports s (faultCounts sd settled signature flat s) :=
  TakesReports.after
    (takes_frozenCount _ sd signature
      |>.trans (takes_obscuredCount _ sd flat)
      |>.trans (takes_limitCount _ sd settled _)
      |>.trans (takes_saturationCount _ sd _)) rfl rfl

theorem takes_commitGlare (records : List ZoneRecord) : TakesReports s (commitGlare sd records s) := .of_same rfl rfl

theorem takes_commitExposure (settled : Bool) (records : List ZoneRecord) (tags : ZoneMap Bool) :
    TakesReports s (commitExposure sd settled records tags s) := .of_same rfl rfl

theorem takes_commit (settled : Bool) (records : List ZoneRecord) (signature : BitVec 32) :
    TakesReports s (commit sd settled records signature s) := by
  have counted := takes_commitGlare s sd records
    |>.trans (takes_commitExposure _ sd settled records (s.glare sd).tags)
    |>.trans (takes_faultCounts _ sd settled signature (records.countP ZoneRecord.flat))
  refine TakesReports.trans ?_ (takes_endSave _ sd true)
  split
  · exact counted
  · exact counted.trans (takes_deliverE _ sd)

theorem keeps_statisticsCompletion : KeepsQueueLaw s (execStatisticsCompletion sd s) := by
  unfold execStatisticsCompletion; split
  · exact .stay
  · split
    · exact .stay
    · exact .reports ((takes_commit _ sd _ _ _).after rfl rfl)

theorem takes_startIntake : TakesReports s (startIntake sd s) := by
  unfold startIntake; split
  · exact .refl
  · exact (takes_handOver _ sd _).after rfl rfl

theorem keeps_developmentCompletion : KeepsQueueLaw s (execDevelopmentCompletion sd s) := by
  unfold execDevelopmentCompletion; split
  · exact .stay
  · split
    · exact .reports (((takes_startIntake _ sd).trans (takes_tryFrameStart _ sd)).after rfl rfl)
    · exact .stay

theorem takes_finishComposition (c : Composition) : TakesReports s (finishComposition sd c s) := by
  unfold finishComposition; simp only; split <;> exact .of_same rfl rfl

theorem keeps_compositionCompletion : KeepsQueueLaw s (execCompositionCompletion sd s) := by
  unfold execCompositionCompletion; split
  · exact .stay
  · exact .reports ((takes_finishComposition s sd _).trans (takes_tryFrameStart _ sd))

theorem keeps_nightEvaluation : KeepsQueueLaw s (execNightEvaluation s) := by
  unfold execNightEvaluation; split
  · exact .stay
  · exact .reports (.of_same rfl rfl)

/-! ### The display port -/

theorem keeps_wakeDeadline : KeepsQueueLaw s (execWakeDeadline sd s) := by
  unfold execWakeDeadline; split
  · exact .stay
  · simp only
    split
    · exact .reports (.of_same rfl rfl)
    · exact .reports ((takes_raise _ _).after rfl rfl)

theorem keeps_wakeRetryTime : KeepsQueueLaw s (execWakeRetryTime sd s) := by
  unfold execWakeRetryTime; split
  · exact .stay
  · exact .reports ((takes_startWake _ sd).after rfl rfl)

theorem keeps_ready (identity : BitVec 32) : KeepsQueueLaw s (execReady sd identity s) := by
  unfold execReady; split
  · exact .reports (((takes_clearFault _ _).trans (takes_changeDisplay _ sd _)).after rfl rfl)
  · exact .stay

theorem keeps_call : KeepsQueueLaw s (execCall sd s) := by
  unfold execCall; simp only; split
  · split
    · exact .reports (takes_startWake s sd)
    · exact .reports (.of_same rfl rfl)
  · exact .stay

theorem takes_judgePriming : TakesReports s (judgePriming sd s) := by
  unfold judgePriming; split
  · exact takes_changeDisplay s sd _
  · split
    · exact takes_changeDisplay s sd _
    · exact .refl

theorem takes_judgeHold : TakesReports s (judgeHold sd s) := by
  unfold judgeHold; split
  · split
    · exact takes_changeDisplay s sd _
    · exact .of_same rfl rfl
  · exact takes_changeDisplay s sd _

theorem takes_judgeDisplay : TakesReports s (judgeDisplay sd s) := by
  unfold judgeDisplay; split
  · exact takes_judgePriming s sd
  · exact takes_judgeHold s sd
  · split
    · exact .refl
    · exact takes_changeDisplay s sd _
  · exact .refl

theorem takes_sendFrame (handed : Option SlotRecord) : TakesReports s (sendFrame sd handed s) := by
  unfold sendFrame; simp only; split <;> exact .of_same rfl rfl

theorem takes_sendOutbound : TakesReports s (sendOutbound sd s) := by
  unfold sendOutbound; split
  · exact .refl
  · exact .of_same rfl rfl

theorem takes_judgeStale (age : Time) : TakesReports s (judgeStale sd age s) := by
  unfold judgeStale; simp only; split
  · split
    · exact .of_same rfl rfl
    · split
      · exact (takes_clearFault _ _).after rfl rfl
      · exact .of_same rfl rfl
  · split
    · exact (takes_raise _ _).after rfl rfl
    · exact .of_same rfl rfl

theorem takes_evaluateStale (handed : Option SlotRecord) : TakesReports s (evaluateStale sd handed s) := by
  unfold evaluateStale; split
  · exact takes_judgeStale s sd _
  · exact .refl

theorem takes_silenceReached : TakesReports s (silenceReached sd s) :=
  .after (takes_pathFailed _ sd (.of_same rfl rfl)) rfl rfl

theorem takes_judgeSilence : TakesReports s (judgeSilence sd s) := by
  unfold judgeSilence; simp only; split
  · exact (takes_silenceReached _ sd).after rfl rfl
  · exact .of_same rfl rfl

theorem takes_presentScan : TakesReports s (presentScan sd s).1 := .of_same rfl rfl

theorem takes_scan : TakesReports s (scan sd s) :=
  takes_judgeDisplay s sd
    |>.trans (takes_presentScan _ sd)
    |>.trans (takes_sendFrame _ sd _)
    |>.trans (takes_sendOutbound _ sd)
    |>.trans (takes_evaluateStale _ sd _)
    |>.trans (takes_judgeSilence _ sd)

theorem keeps_scanStart : KeepsQueueLaw s (execScanStart sd s) := by
  unfold execScanStart; split
  · exact .stay
  · exact .reports ((takes_scan _ sd).after rfl rfl)

theorem keeps_holdExpiry : KeepsQueueLaw s (execHoldExpiry sd s) := by
  unfold execHoldExpiry; simp only; split
  · split
    · exact .reports ((takes_expireHold _ sd).after rfl rfl)
    · exact .stay
  · exact .stay

theorem keeps_echoSilence : KeepsQueueLaw s (execEchoSilence sd s) := by
  unfold execEchoSilence; split
  · split
    · exact .reports (takes_silenceReached s sd)
    · exact .stay
  · exact .stay

theorem takes_advanceMatch : TakesReports s (advanceMatch sd s) := by
  unfold advanceMatch; simp only; split
  · split
    · exact (takes_clearFault _ _).after rfl rfl
    · exact .of_same rfl rfl
  · exact .refl

theorem takes_judgeEcho (x : BitVec 32) : TakesReports s (judgeEcho sd x s) := by
  unfold judgeEcho; simp only; split
  · exact (takes_advanceMatch _ sd).after rfl rfl
  · exact (takes_pathFailed _ sd .refl).after rfl rfl

theorem keeps_echo (signature : BitVec 32) : KeepsQueueLaw s (execEcho sd signature s) := by
  unfold execEcho; split
  · exact .reports (takes_judgeEcho s sd signature)
  · exact .stay

theorem keeps_monitorStatus (fault : Bool) (temperature : Byte) : KeepsQueueLaw s (execMonitorStatus sd fault temperature s) := by
  unfold execMonitorStatus; split
  · simp only
    split
    · exact .reports ((takes_raise _ _).after rfl rfl)
    · exact .reports ((takes_clearFault _ _).after rfl rfl)
  · exact .stay

/-- The one report whose detail comes from outside: the monitor's bytes, which the link bounds at 32 (R110). -/
theorem keeps_monitorReply (bytes : List Byte) : KeepsQueueLaw s (execMonitorReply sd bytes s) := by
  unfold execMonitorReply; split
  · next hbytes =>
    have fits : (Report.monitorReply sd bytes).detail.length ≤ 32 := by simpa [wellFormedReply, Report.detail] using hbytes
    split
    · exact .reports (takes_report s fits).setDisplay
    · exact .stay
  · exact .fault _

/-! ### The power controller -/

theorem keeps_vehicleExpiry (field : VehicleField) : KeepsQueueLaw s (execVehicleExpiry field s) := by
  unfold execVehicleExpiry; split
  · exact .stay
  · exact .reports ((takes_judgeVehicle _).after rfl (by cases field <;> rfl))

theorem keeps_saveDeadline : KeepsQueueLaw s (execSaveDeadline sd s) := by
  unfold execSaveDeadline; split
  · exact .stay
  · exact .reports ((takes_endSave _ sd false).after rfl rfl)

theorem keeps_wakeLineEdge (high : Bool) : KeepsQueueLaw s (execWakeLineEdge high s) := by
  unfold execWakeLineEdge; simp only; split
  · exact .stay
  · split
    · exact .reports ((takes_enterStarting _ _).after rfl rfl)
    · exact .reports (.of_same rfl rfl)
  · exact .reports (.of_same rfl rfl)

theorem takes_haltPort : TakesReports s (haltPort sd s) := by
  unfold haltPort; simp only; split
  · exact .refl
  · exact .of_same rfl rfl

theorem takes_abandonComposition : TakesReports s (abandonComposition sd s) := by
  unfold abandonComposition releaseTaken; simp only; split <;> exact .of_same rfl rfl

theorem takes_parkDisplay : TakesReports s (parkDisplay sd s) := (takes_becomeUnwanted s sd).setDisplay

theorem takes_abandonDevelopment : TakesReports s (abandonDevelopment sd s) := .of_same rfl rfl

theorem takes_stopNight : TakesReports s (stopNight s) := .of_same rfl rfl

theorem takes_emptyCurrent : TakesReports s (emptyCurrent s) := .of_same rfl rfl

theorem takes_park : TakesReports s (park s) :=
  takes_changePower s .parked
    |>.trans (takes_haltPort _ .left) |>.trans (takes_haltPort _ .right)
    |>.trans (takes_abandonDevelopment _ .left) |>.trans (takes_abandonDevelopment _ .right)
    |>.trans (takes_abandonComposition _ .left) |>.trans (takes_abandonComposition _ .right)
    |>.trans (takes_stopNight _)
    |>.trans (takes_parkDisplay _ .left) |>.trans (takes_parkDisplay _ .right)
    |>.trans (takes_emptyCurrent _)

/-! ### Resets -/

/-- While a reset is held the queue is empty and ATTN deasserted (R158). -/
theorem queueLaw_of_empty {t : State} (h : t.queue = ⟨[], false, 0⟩) : QueueLaw t := by
  simp [QueueLaw, h, attnLevel]

theorem queueLaw_heldState (h : Hold) : QueueLaw (heldState h s) := queueLaw_of_empty rfl

theorem queueLaw_beginPartReset (pin : Bool) : QueueLaw (beginPartReset pin s) := queueLaw_of_empty rfl

theorem keeps_supplyOn : KeepsQueueLaw s (execSupplyOn s) := by
  unfold execSupplyOn; split
  · exact .next fun _ => queueLaw_heldState s _
  · exact .stay

theorem keeps_supplyLoss : KeepsQueueLaw s (execSupplyLoss s) := .next fun _ => queueLaw_heldState s _

theorem keeps_nrstAsserted : KeepsQueueLaw s (execNrstAsserted s) := by
  unfold execNrstAsserted; split
  · exact .next fun _ => queueLaw_beginPartReset s _
  · exact .reports (.of_same rfl rfl)
  · exact .stay

theorem takes_endReset (cause : RestartCause) (autostart wakeHigh : Bool) : TakesReports s (endReset cause autostart wakeHigh s) := by
  have restarted : TakesReports s ((openMonitorLinks { s with timebase := 0, restartCause := cause }).report (.restarted cause)) :=
    (takes_report _ (by simp [Report.detail])).after rfl rfl
  unfold endReset; simp only; split
  · exact (restarted.setPower.setPower.trans (takes_changePower _ _)).trans (takes_startingEffects _)
  · exact restarted.setPower.trans (takes_changePower _ _)

theorem keeps_resetEnd (autostart wakeHigh : Bool) : KeepsQueueLaw s (execResetEnd autostart wakeHigh s) := by
  unfold execResetEnd; split
  · exact .reports (takes_endReset s .powerOn autostart wakeHigh)
  · exact .reports (takes_endReset s .resetPin autostart wakeHigh)
  · exact .reports (takes_endReset s .resetRequest autostart wakeHigh)
  · exact .stay

/-! ### The host link without its requests -/

theorem takes_discardPartial : TakesReports s (discardPartial s) :=
  (takes_raiseEvent _ _).after rfl rfl

theorem keeps_partialDeadline : KeepsQueueLaw s (execPartialDeadline s) := by
  unfold execPartialDeadline; split
  · exact .stay
  · exact .reports ((takes_discardPartial _).after rfl rfl)

theorem keeps_chipSelectRelease (midByte : Bool) : KeepsQueueLaw s (execChipSelectRelease midByte s) := by
  unfold execChipSelectRelease; split
  · exact .stay
  · split
    · exact .reports ((takes_discardPartial _).after rfl rfl)
    · exact .reports (.of_same rfl rfl)

theorem keeps_linkReset : KeepsQueueLaw s (execLinkReset s) := by
  unfold execLinkReset; split
  · exact .stay
  · exact .reports (.of_same rfl rfl)

theorem keeps_replyRead : KeepsQueueLaw s (execReplyRead s) := by
  unfold execReplyRead; split
  · exact .stay
  · exact .reports (.of_same rfl rfl)

theorem takes_shiftByte (r : Reading) : TakesReports s (shiftByte r s) := by
  unfold shiftByte; simp only; split <;> exact .of_same rfl rfl

/-- A byte clocked in keeps the law where what it does at the interface does. -/
theorem queueLaw_clocked (b : Byte) {k : State → State} (hk : ∀ u, QueueLaw u → QueueLaw (k u)) (hs : QueueLaw s) :
    QueueLaw (clocked b k s) := by
  unfold clocked; split
  · exact hs
  · exact (takes_shiftByte s _).queueLaw hs
  · dsimp only
    generalize (if b = 0xFF then s.link.ffRun + 1 else 0) = run
    split
    · exact hs
    · exact hk _ hs

theorem takes_refuseCrc : TakesReports s (refuseCrc s) :=
  (takes_raiseEvent _ .hostLinkError).reply.after rfl rfl

theorem takes_endOverlong (kind tag : Byte) : TakesReports s (endOverlong kind tag s) := by
  unfold endOverlong; simp only; split
  · exact .of_same rfl rfl
  · exact (takes_raiseEvent _ _).reply.after rfl rfl

end

/-! ### The FAULT group written by SET (R122) -/

section
variable (s : State)

theorem writeFault_threshold {f : Fields} (h : (f.raw 4).isSome = false) (g : FaultGroup) :
    (writeFault f g).value.attentionThreshold = g.attentionThreshold := by
  simp only [Option.isSome_eq_false_iff, Option.isNone_iff_eq_none] at h
  simp [writeFault, Fields.num, h, clampField]

theorem takes_applyTimeout : TakesReports s (applyTimeout s) := (takes_judgeVehicle _).after rfl rfl

/-- The effects of a FAULT SET but for the judgement of ATTN. -/
def holdAndTimeoutEffects (f : Fields) (s : State) : State :=
  let s := if (f.raw 1).isSome then expireHold .right (expireHold .left s) else s
  if (f.raw 3).isSome then applyTimeout s else s

theorem applyFaultFields_eq (f : Fields) :
    applyFaultFields f s =
      if (f.raw 4).isSome then (holdAndTimeoutEffects f s).judgeAttn else holdAndTimeoutEffects f s := rfl

theorem takes_holdAndTimeoutEffects (f : Fields) : TakesReports s (holdAndTimeoutEffects f s) := by
  have held : TakesReports s (if (f.raw 1).isSome then expireHold .right (expireHold .left s) else s) := by
    split
    · exact (takes_expireHold s .left).trans (takes_expireHold _ .right)
    · exact .refl
  unfold holdAndTimeoutEffects; simp only
  split
  · exact held.trans (takes_applyTimeout _)
  · exact held

/-- A judgement of ATTN establishes its level, so that the law of the entries is enough before it (R137). -/
theorem queueLaw_judgeAttn (h : EntriesLaw s.queue.entries) : QueueLaw s.judgeAttn := (queueLaw_iff _).mpr ⟨h, rfl⟩

/-- Where the threshold is written ATTN is judged after the other effects; where it is not, the group's threshold stands. -/
theorem queueLaw_writeFault (f : Fields) (hs : QueueLaw s) :
    QueueLaw (applyFaultFields f (s.setFaults { s.faults with group := (writeFault f s.faults.group).value })) := by
  obtain ⟨hentries, hattn⟩ := (queueLaw_iff s).mp hs
  have effects := takes_holdAndTimeoutEffects (s.setFaults { s.faults with group := (writeFault f s.faults.group).value }) f
  rw [applyFaultFields_eq]
  split
  · exact queueLaw_judgeAttn _ (effects.entriesLaw hentries)
  · next habsent =>
    refine effects.queueLaw ((queueLaw_iff _).mpr ⟨hentries, ?_⟩)
    rw [State.setFaults_faults, writeFault_threshold (by simpa using habsent)]
    exact hattn

theorem takes_writeSide (g : Group) (f : Fields) (sd : Side) : TakesReports s (writeSide g f sd s).value := by
  cases g <;> exact .of_same rfl rfl

theorem queueLaw_writeCommon (g : Group) (f : Fields) (hs : QueueLaw s) : QueueLaw (writeCommon g f s).value := by
  cases g with
  | fault => exact queueLaw_writeFault s f hs
  | _ => exact hs

theorem queueLaw_writeScope (g : Group) (f : Fields) (sides : List Side) (hs : QueueLaw s) : QueueLaw (writeScope g f sides s).value := by
  unfold writeScope; split
  · exact queueLaw_writeCommon s g f hs
  · exact (takes_writeSide s g f _).queueLaw hs
  · exact ((takes_writeSide s g f _).trans (takes_writeSide _ g f _)).queueLaw hs

/-! ### Requests -/

theorem queueLaw_takeSet (tag : Byte) (payload : List Byte) (hs : QueueLaw s) : QueueLaw (takeSet tag payload s) := by
  unfold takeSet; split
  · exact hs
  · split
    · exact hs
    · split
      · exact hs
      · exact queueLaw_writeScope s _ _ _ hs

theorem takes_takeGet (tag : Byte) (payload : List Byte) : TakesReports s (takeGet tag payload s) := by
  unfold takeGet; simp only; split <;> exact .of_same rfl rfl

theorem takes_storeVehicle (hasAngle hasLux : Bool) (angle : Int) (lux : Nat) :
    TakesReports s (storeVehicle hasAngle hasLux angle lux s) := by
  unfold storeVehicle
  cases hasAngle <;> cases hasLux
  case false.false => exact .refl
  all_goals exact (takes_judgeVehicle _).after rfl rfl

theorem takes_takeVehicle (tag : Byte) (payload : List Byte) : TakesReports s (takeVehicle tag payload s) := by
  unfold takeVehicle; simp only; split
  · exact takes_refuse s _ _ _
  · exact (takes_storeVehicle s _ _ _ _).reply

theorem takes_takeOverlay (tag : Byte) (payload : List Byte) : TakesReports s (takeOverlay tag payload s) := by
  unfold takeOverlay; simp only; split
  · exact takes_refuse s _ _ _
  · split
    · exact takes_refuse s _ _ _
    · split
      · split
        · exact .of_same rfl rfl
        · exact takes_refuse s _ _ _
      · split
        · exact .of_same rfl rfl
        · exact takes_refuse s _ _ _

/-- The posts of a FAULTCTL, one after another (R124). -/
theorem takes_postUnmasked (old : ClassSet) : TakesReports s (postUnmasked old s) := by
  unfold postUnmasked
  refine List.foldlRecOn FaultId.all _ TakesReports.refl fun u hu f _ => ?_
  split
  · exact hu.trans (takes_report u (raised_detail_length f true))
  · exact hu

theorem takes_acknowledge (clear : FaultSet) : TakesReports s (acknowledge clear s) := .of_same rfl rfl

theorem takes_controlFaults (presence values : ClassSet) (clear : FaultSet) : TakesReports s (controlFaults presence values clear s) :=
  ((takes_postUnmasked _ _).trans (takes_acknowledge _ clear)).after rfl rfl

theorem takes_takeFaultctl (tag : Byte) (payload : List Byte) : TakesReports s (takeFaultctl tag payload s) := by
  unfold takeFaultctl; simp only; split
  · exact takes_refuse s _ _ _
  · split
    · exact takes_refuse s _ _ _
    · exact (takes_controlFaults s _ _ _).reply

theorem EntriesLaw.drop {l : List Entry} (h : EntriesLaw l) (n : Nat) : EntriesLaw (l.drop n) := by
  have hlen : (l.drop n).length = l.length - n := List.length_drop
  have hle := h.length_le
  refine ⟨by omega, fun hfull => ?_, fun e he => h.detail_le e (List.mem_of_mem_drop he)⟩
  obtain rfl : n = 0 := by omega
  exact h.newest_overrun hfull

/-- COLLECT removes entries at the oldest end and judges ATTN (R135, R137). -/
theorem queueLaw_collectEntries (n : Nat) (hs : QueueLaw s) : QueueLaw (collectEntries n s) :=
  queueLaw_judgeAttn _ (((queueLaw_iff s).mp hs).1.drop n)

theorem queueLaw_takeCollect (tag : Byte) (payload : List Byte) (hs : QueueLaw s) : QueueLaw (takeCollect tag payload s) := by
  unfold takeCollect; simp only; split
  · exact hs
  · exact queueLaw_collectEntries s _ hs

theorem takes_takeCtxSave (tag : Byte) (payload : List Byte) : TakesReports s (takeCtxSave tag payload s) := by
  unfold takeCtxSave; simp only; split
  · exact takes_refuse s _ _ _
  · split
    · exact takes_refuse s _ _ _
    · split
      · exact takes_refuse s _ _ _
      · split
        · exact takes_completeSave s _ _ _ _
        · exact .of_same rfl rfl

theorem takes_takeCtxLoad (tag : Byte) (payload : List Byte) : TakesReports s (takeCtxLoad tag payload s) := by
  unfold takeCtxLoad; split
  · exact .of_same rfl rfl
  · split
    · exact .of_same rfl rfl
    · split
      · exact ((takes_raiseEvent _ _).trans (takes_refuseWith _ _ _ _ _)).after rfl rfl
      · exact .of_same rfl rfl

theorem takes_takeMonitor (tag : Byte) (payload : List Byte) : TakesReports s (takeMonitor tag payload s) := by
  unfold takeMonitor; split
  · exact takes_refuse s _ _ _
  · simp only
    split <;> exact .of_same rfl rfl

theorem takes_clearViewPath (sd : Side) : TakesReports s (clearViewPath sd s) :=
  (((takes_clearFault s _).trans (takes_clearFault _ _)).trans (takes_clearFault _ _)).setRuns

theorem takes_enableDisplay (sd : Side) (on : Bool) : TakesReports s (enableDisplay sd on s) := by
  unfold enableDisplay; simp only; split
  · exact .refl
  · split
    · split
      · exact (takes_startWake _ sd).after rfl rfl
      · exact ((takes_becomeUnwanted _ sd).trans (takes_clearViewPath _ sd)).after rfl rfl
    · exact .of_same rfl rfl

theorem takes_takeDisplay (tag : Byte) (payload : List Byte) : TakesReports s (takeDisplay tag payload s) := by
  unfold takeDisplay; simp only; split
  · exact takes_refuse s _ _ _
  · split
    · exact takes_refuse s _ _ _
    · exact (takes_enableDisplay s _ _).reply

theorem takes_takePark (tag : Byte) : TakesReports s (takePark tag s) := by
  unfold takePark; split
  · exact (takes_park s).reply
  · exact .of_same rfl rfl

theorem takes_takeWake (tag : Byte) : TakesReports s (takeWake tag s) := by
  unfold takeWake; split
  · exact .of_same rfl rfl
  · exact (takes_enterStarting s _).reply

theorem queueLaw_takePower (tag : Byte) (payload : List Byte) (hs : QueueLaw s) : QueueLaw (takePower tag payload s) := by
  unfold takePower; simp only; split
  · exact (takes_takePark s tag).queueLaw hs
  · split
    · exact (takes_takeWake s tag).queueLaw hs
    · split
      · exact queueLaw_beginPartReset s false
      · exact hs

theorem queueLaw_carryOut (k : Kind) (tag : Byte) (payload : List Byte) (hs : QueueLaw s) : QueueLaw (carryOut k tag payload s) := by
  cases k with
  | ident | status | lock => exact hs
  | set => exact queueLaw_takeSet s tag payload hs
  | get => exact (takes_takeGet s tag payload).queueLaw hs
  | vehicle => exact (takes_takeVehicle s tag payload).queueLaw hs
  | overlay => exact (takes_takeOverlay s tag payload).queueLaw hs
  | faultctl => exact (takes_takeFaultctl s tag payload).queueLaw hs
  | collect => exact queueLaw_takeCollect s tag payload hs
  | ctxSave => exact (takes_takeCtxSave s tag payload).queueLaw hs
  | ctxLoad => exact (takes_takeCtxLoad s tag payload).queueLaw hs
  | monitor => exact (takes_takeMonitor s tag payload).queueLaw hs
  | display => exact (takes_takeDisplay s tag payload).queueLaw hs
  | power => exact queueLaw_takePower s tag payload hs

theorem queueLaw_judgeRequest (kind tag : Byte) (payload : List Byte) (crc : BitVec 16) (hs : QueueLaw s) :
    QueueLaw (judgeRequest kind tag payload crc s) := by
  unfold judgeRequest; split
  · exact hs
  · split
    · unfold judgeKind; split
      · exact hs
      · split
        · exact hs
        · exact queueLaw_carryOut _ _ tag payload hs
    · exact (takes_refuseCrc s).queueLaw hs

theorem takes_outsideByte (b : Byte) : TakesReports s (outsideByte b s) := by
  unfold outsideByte beginRead; split
  · exact .of_same rfl rfl
  · split
    · split <;> exact .of_same rfl rfl
    · exact .refl

theorem queueLaw_appendByte (bytes : List Byte) (hs : QueueLaw s) : QueueLaw (appendByte bytes s) := by
  unfold appendByte; split
  · exact (takes_endOverlong s _ _).queueLaw hs
  · split
    · exact queueLaw_judgeRequest _ _ _ _ _ hs
    · exact hs

theorem queueLaw_takeByte (b : Byte) (hs : QueueLaw s) : QueueLaw (takeByte b s) := by
  unfold takeByte; split
  · exact (takes_outsideByte s b).queueLaw hs
  · exact queueLaw_appendByte s _ hs

/-- Every request row is its last byte: what it does is what the judged request does. -/
theorem keeps_completeRequest (kind : Byte) (head : ReqHead) (payload : List Byte) :
    KeepsQueueLaw s (.next (completeRequest kind head payload s)) :=
  .next (queueLaw_clocked s _ fun _ hu => queueLaw_judgeRequest _ _ _ _ _ hu)

theorem keeps_clockedByte (b : Byte) : KeepsQueueLaw s (.next (clocked b (takeByte b) s)) :=
  .next (queueLaw_clocked s b fun u hu => queueLaw_takeByte u b hu)

theorem keeps_overlongRequest (kind tag : Byte) (length : BitVec 16) : KeepsQueueLaw s (execOverlongRequest kind tag length s) := by
  unfold execOverlongRequest; split
  · exact .next (queueLaw_clocked s _ fun u hu => (takes_endOverlong u kind tag).queueLaw hu)
  · exact .fault _

/-- A request row that a length can rule out (log entry 27). -/
theorem keeps_boundedRequest (fits : Bool) (kind : Byte) (head : ReqHead) (payload : List Byte) :
    KeepsQueueLaw s (if fits then .next (completeRequest kind head payload s) else .fault .malformed) := by
  split
  · exact keeps_completeRequest s kind head payload
  · exact .fault _

/-! ### Every step -/

theorem keeps_exec (c : Instr) : KeepsQueueLaw s (exec c s) := by
  cases c with
  | identityRecord sd identity revision => exact keeps_identityRecord s sd identity revision
  | trainingDeadline sd => exact keeps_trainingDeadline s sd
  | retrainTime sd => exact keeps_retrainTime s sd
  | lossDeadline sd => exact keeps_lossDeadline s sd
  | sensorHeader sd counter exposure ratio healthy => exact keeps_sensorHeader s sd counter exposure ratio healthy
  | sensorLine sd samples crc => exact keeps_sensorLine s sd samples crc
  | statisticsCompletion sd => exact keeps_statisticsCompletion s sd
  | developmentCompletion sd => exact keeps_developmentCompletion s sd
  | compositionCompletion sd => exact keeps_compositionCompletion s sd
  | nightEvaluation => exact keeps_nightEvaluation s
  | wakeDeadline sd => exact keeps_wakeDeadline s sd
  | wakeRetryTime sd => exact keeps_wakeRetryTime s sd
  | ready sd identity => exact keeps_ready s sd identity
  | call sd => exact keeps_call s sd
  | scanStart sd => exact keeps_scanStart s sd
  | holdExpiry sd => exact keeps_holdExpiry s sd
  | echoSilence sd => exact keeps_echoSilence s sd
  | echo sd signature => exact keeps_echo s sd signature
  | monitorStatus sd fault temperature => exact keeps_monitorStatus s sd fault temperature
  | monitorReply sd bytes => exact keeps_monitorReply s sd bytes
  | vehicleExpiry field => exact keeps_vehicleExpiry s field
  | saveDeadline sd => exact keeps_saveDeadline s sd
  | wakeLineEdge high => exact keeps_wakeLineEdge s high
  | supplyOn => exact keeps_supplyOn s
  | supplyLoss => exact keeps_supplyLoss s
  | nrstAsserted => exact keeps_nrstAsserted s
  | resetEnd autostart wakeHigh => exact keeps_resetEnd s autostart wakeHigh
  | partialDeadline => exact keeps_partialDeadline s
  | chipSelectRelease midByte => exact keeps_chipSelectRelease s midByte
  | linkReset => exact keeps_linkReset s
  | overlongRequest kind tag length => exact keeps_overlongRequest s kind tag length
  | replyRead => exact keeps_replyRead s
  | readTransaction => exact keeps_clockedByte s 0xC3
  | requestByte byte => exact keeps_clockedByte s byte
  | unknownKindRequest | set | ctxLoad | monitor => exact keeps_boundedRequest s _ _ _ _
  | ident | get | status | vehicle | overlaySet | overlayDelete | faultctl | lock | collect | ctxSaveImmediate | ctxSaveSettled
  | displayEnable | displayDisable | powerPark | powerWake | powerReset => exact keeps_completeRequest s _ _ _

/-- The part's own clock: nothing, a microsecond, or an event that is due. -/
theorem keeps_idle : KeepsQueueLaw s (idle s) := by
  unfold idle; split
  · exact .stay
  · exact .reports (.of_same rfl rfl)
  · exact keeps_exec s _
  · exact fun hs => keeps_exec { s with raceCount := s.raceCount + 1 } _ hs

theorem keeps_step : KeepsQueueLaw s (step s) := by
  unfold step; split
  · exact fun hs => keeps_exec { s with pending := _ } _ hs
  · exact keeps_idle s

end

/-- Settles O5: the three arrivals by their equations, and the law through the reports that each event hands to the queue. -/
theorem stepKeepsTheReportQueue : Obligations.StepKeepsTheReportQueue := by
  refine ⟨fun q threshold e => ⟨fun hroom => ?_, fun hlast => ?_, fun older n first hq hlen => ?_⟩, fun s t hs => keeps_step s hs t⟩
  · rw [arrive_of_room threshold e hroom]
    exact ⟨rfl, rfl⟩
  · rw [arrive_at_last_place threshold e hlast]
    exact ⟨rfl, rfl⟩
  · rw [arrive_at_overrun threshold e hq hlen]
    exact ⟨rfl, rfl⟩

end Sys2Proof.Proofs.ReportQueueAndAttention
end

section
set_option Elab.async false
/-! What a step can do to the state, said once for every law. A command's effect is a chain of moves: each is quiet (it touches nothing
that a law reads), or is one of the image blocks' own operations, or is one of the panel's (power, displays, faults, masks, night).
A move is as large as it must be for the laws to hold on both sides of it, and carries what the command has established before it. At most
one reset begins, and nothing follows it. -/

namespace Sys2Proof.Proofs.StepMoves

open Sys2Proof Sys2Proof.Machine

/-! ### Quiet moves -/

/-- What the laws read is the same in both states. -/
structure Quiet (s t : State) : Prop where
  state : t.power.state = s.power.state := by rfl
  hold : t.power.hold = s.power.hold := by rfl
  pipe : ∀ sd, t.pipe sd = s.pipe sd := by intro; rfl
  exposure : ∀ sd, t.exposure sd = s.exposure sd := by intro; rfl
  glare : ∀ sd, t.glare sd = s.glare sd := by intro; rfl
  comp : ∀ sd, t.comp sd = s.comp sd := by intro; rfl
  store : ∀ sd, t.store sd = s.store sd := by intro; rfl
  display : ∀ sd, t.display sd = s.display sd := by intro; rfl
  runs : ∀ sd, t.runs sd = s.runs sd := by intro; rfl
  target : t.night.target = s.night.target := by rfl
  current : t.faults.current = s.faults.current := by rfl
  accrued : t.faults.accrued = s.faults.accrued := by rfl
  masks : t.faults.masks = s.faults.masks := by rfl
  locked : t.faults.locked = s.faults.locked := by rfl
  group : t.faults.group = s.faults.group := by rfl

/-- The pieces that no law reads. -/
def quietParts : List Part :=
  [.timebase, .restartCause, .port .left, .port .right, .expiries, .flatZones .left, .flatZones .right, .queue, .context .left,
    .context .right, .receiver, .holder, .vehicle, .linkCounters, .sent, .raceCount, .pending]

theorem Quiet.of_unchanged {s t : State} {l : List Part} (h : Unchanged l s t) (hl : l ⊆ quietParts) : Quiet s t where
  state := congrArg Power.state (h .power fun hp => by simpa [quietParts] using hl hp)
  hold := congrArg Power.hold (h .power fun hp => by simpa [quietParts] using hl hp)
  pipe sd := h (.pipe sd) fun hp => by simpa [quietParts] using hl hp
  exposure sd := h (.exposure sd) fun hp => by simpa [quietParts] using hl hp
  glare sd := h (.glare sd) fun hp => by simpa [quietParts] using hl hp
  comp sd := h (.comp sd) fun hp => by simpa [quietParts] using hl hp
  store sd := h (.store sd) fun hp => by simpa [quietParts] using hl hp
  display sd := h (.display sd) fun hp => by simpa [quietParts] using hl hp
  runs sd := h (.runs sd) fun hp => by simpa [quietParts] using hl hp
  target := congrArg Night.target (h .night fun hp => by simpa [quietParts] using hl hp)
  current := (h .faultSets fun hp => by simpa [quietParts] using hl hp).1
  accrued := (h .faultSets fun hp => by simpa [quietParts] using hl hp).2
  masks := h .masks fun hp => by simpa [quietParts] using hl hp
  locked := h .lock fun hp => by simpa [quietParts] using hl hp
  group := h .faultGroup fun hp => by simpa [quietParts] using hl hp

/-! ### Moves of the image blocks -/

/-- One operation of a pipeline, an exposure controller, a glare unit, a compositor or a frame store. -/
inductive BlockMove : State → State → Prop
  /-- E and the gains of an installation (R39, R47). -/
  | installExposure (s : State) (sd : Side) (e gainR gainB : Nat) : BlockMove s (s.setExposure sd
      { s.exposure sd with
        e := inLimits (s.pipe sd).expAct e, gainR := clampNat gainR 128 1023, gainB := clampNat gainB 128 1023 })
  /-- The grid and the tags of an installation (R62). -/
  | installGlare (s : State) (sd : Side) (grid : ZoneMap Nat) (tags : ZoneMap Bool) : BlockMove s (s.setGlare sd
      { s.glare sd with grid := grid.map (min · (s.glare sd).act.aMax), tags := tags })
  /-- Step 1 of a commit (R61). -/
  | updateGlare (s : State) (sd : Side) (ns : NightState) (records : List ZoneRecord) :
      BlockMove s (s.setGlare sd ((s.glare sd).update ns records))
  /-- Step 2 of a commit (R41). -/
  | adaptExposure (s : State) (sd : Side) (ns : NightState) (settled : Bool) (m : Metered) :
      BlockMove s (s.setExposure sd ((s.exposure sd).adapt (s.pipe sd).expAct ns settled m))
  /-- A SET of a side group (R167). -/
  | writeSide (s : State) (g : Group) (f : Fields) (sd : Side) : BlockMove s (writeSide g f sd s).value
  | putOverlay (s : State) (sd : Side) (o : Overlay) (hid : o.id ≤ 7) (hok : o.ok = true) :
      BlockMove s (s.setComp sd { s.comp sd with overlays := putOverlay (s.comp sd).overlays o })
  | dropOverlay (s : State) (sd : Side) (id : Nat) :
      BlockMove s (s.setComp sd { s.comp sd with overlays := dropOverlay (s.comp sd).overlays id })
  | finishStatistics (s : State) (sd : Side) (d : InDevelopment) (signature : BitVec 32) (hdev : (s.pipe sd).dev = some d) :
      BlockMove s (finishStatistics sd d signature s)
  | handOver (s : State) (sd : Side) (f : Frame) : BlockMove s (handOver sd f s)
  /-- The end of a development with the start of the intake frame: between them an IDLE pipeline may hold one. -/
  | finishDevelopment (s : State) (sd : Side) (d : InDevelopment) (hdev : (s.pipe sd).dev = some d) :
      BlockMove s (startIntake sd (finishDevelopment sd d s))
  | tryFrameStart (s : State) (sd : Side) : BlockMove s (tryFrameStart sd s)
  | finishComposition (s : State) (sd : Side) (c : Composition) (hc : (s.comp sd).inFlight = some c) :
      BlockMove s (finishComposition sd c s)
  | scanStore (s : State) (sd : Side) (presented : DisplayState) : BlockMove s (s.setStore sd ((s.store sd).scan presented).store)
  | abandonDevelopment (s : State) (sd : Side) : BlockMove s (abandonDevelopment sd s)
  | abandonComposition (s : State) (sd : Side) : BlockMove s (abandonComposition sd s)

/-! ### Moves of the panel -/

/-- An update of a display port that moves neither its state nor its link into or out of SYNCED or OFF. -/
structure DisplayKept (d d' : Display) : Prop where
  state : d'.state = d.state := by rfl
  link : d'.link = d.link ∨ (d.link ≠ .off ∧ d.link ≠ .synced ∧ d'.link ≠ .synced) := by exact .inl rfl
  echo : d.echoList.length ≤ 4 → d'.echoList.length ≤ 4 := by exact id
  out : d.outQueue.length ≤ 4 → d'.outQueue.length ≤ 4 := by exact id
  backlight : d.backlight ≤ 1023 → d'.backlight ≤ 1023 := by exact id

/-- An update of a side's runs that advances the match run only while DISPLAY_PATH is current, and the clear run only while VIEW_STALE is
current in SYNCED. -/
structure RunsKept (s : State) (sd : Side) (r : Runs) : Prop where
  pathMatch : r.pathMatch = (s.runs sd).pathMatch ∨ r.pathMatch = 0 ∨ FaultSet.has s.faults.current (.displayPath sd) = true := by
    exact .inl rfl
  staleClear : r.staleClear = (s.runs sd).staleClear ∨ r.staleClear = 0
    ∨ (FaultSet.has s.faults.current (.viewStale sd) = true ∧ (s.display sd).link = .synced) := by exact .inl rfl

/-- A link that goes to sleep, whatever it was: not SYNCED after, and OFF where it was OFF. -/
structure Sleeps (d d' : Display) : Prop where
  state : d'.state = d.state := by rfl
  link : d'.link ≠ .synced
  off : d.link = .off → d'.link = .off
  echo : d'.echoList = d.echoList := by rfl
  out : d'.outQueue = d.outQueue := by rfl
  backlight : d'.backlight = d.backlight := by rfl

/-- One operation of the power controller, a display port, the fault supervisor or the night state controller. -/
inductive PanelMove : State → State → Prop
  | setPower (s : State) (v : Power) (hstate : v.state = .off ↔ s.power.state = .off)
      (hhold : v.hold = .released ↔ s.power.hold = .released) : PanelMove s (s.setPower v)
  /-- The end of a held reset: out of OFF, the monitor links in HIBERNATE (R153, R96). -/
  | release (s : State) (v : Power) (hheld : s.power.hold ≠ .released) (hstate : v.state ≠ .off) (hhold : v.hold = .released) :
      PanelMove s ((openMonitorLinks s).setPower v)
  | setDisplay (s : State) (sd : Side) (d : Display) (h : DisplayKept (s.display sd) d) : PanelMove s (s.setDisplay sd d)
  | changeDisplay (s : State) (sd : Side) (new : DisplayState) (hold : (s.display sd).state ≠ .dark) (hnew : new ≠ .dark)
      (hlive : new = .live → s.faults.viewLoss sd = false) : PanelMove s (changeDisplay sd new s)
  | completeWake (s : State) (sd : Side) (identity : BitVec 32) (hlink : (s.display sd).link = .waking) :
      PanelMove s (completeWake sd identity s)
  /-- A link goes to sleep and its display to DARK (R101, R102, R108). -/
  | sleep (s : State) (sd : Side) (d : Display) (h : Sleeps (s.display sd) d) : PanelMove s (moveDark sd (s.setDisplay sd d))
  /-- The clears of a disabled display (R97). -/
  | clearViewPath (s : State) (sd : Side) (hdark : (s.display sd).state = .dark) : PanelMove s (clearViewPath sd s)
  | raise (s : State) (f : FaultId) (hf : f.isEvent = false) : PanelMove s (raise f s)
  | raiseEvent (s : State) (f : FaultId) : PanelMove s (raiseEvent f s)
  | clearFault (s : State) (f : FaultId) (hpath : ∀ sd, f = .displayPath sd → (s.runs sd).pathMatch = 0)
      (hstale : ∀ sd, f = .viewStale sd → (s.runs sd).staleClear = 0) : PanelMove s (clearFault f s)
  | setRuns (s : State) (sd : Side) (r : Runs) (h : RunsKept s sd r) : PanelMove s (s.setRuns sd r)
  | acknowledge (s : State) (clear : FaultSet) : PanelMove s (acknowledge clear s)
  | writeMasks (s : State) (presence values : ClassSet)
      (hlock : s.faults.locked = true → writtenMasks s.faults.masks presence values = s.faults.masks) :
      PanelMove s (s.setFaults { s.faults with masks := writtenMasks s.faults.masks presence values })
  | setGroup (s : State) (g : FaultGroup) (hlock : s.faults.locked = false) : PanelMove s (s.setFaults { s.faults with group := g })
  | lock (s : State) : PanelMove s (s.setFaults { s.faults with locked := true })
  | emptyCurrent (s : State) : PanelMove s (emptyCurrent s)
  | setNight (s : State) (v : Night) (h : ∀ sd, s.night.target.get sd ≤ 1023 → v.target.get sd ≤ 1023) : PanelMove s (s.setNight v)

/-! ### Chains of moves -/

/-- One move. -/
inductive Move (s t : State) : Prop
  | quiet (h : Quiet s t)
  | block (h : BlockMove s t)
  | panel (h : PanelMove s t)

/-- Moves one after another. -/
def Moves : State → State → Prop := Relation.ReflTransGen Move

/-- The end of an event: nothing more, or the beginning of a reset. -/
inductive Ends : State → State → Prop
  | here (s : State) : Ends s s
  | held (s : State) (h : Hold) (hh : h ≠ .released) : Ends s (heldState h s)
  | partReset (s : State) (pin : Bool) : Ends s (beginPartReset pin s)

/-- What an event does: moves, then its end. -/
def Does (s t : State) : Prop := ∃ u, Moves s u ∧ Ends u t

section
variable {s t u : State}

theorem Moves.refl : Moves s s := Relation.ReflTransGen.refl
theorem Moves.trans (h : Moves s t) (h' : Moves t u) : Moves s u := Relation.ReflTransGen.trans h h'
theorem Moves.quiet (h : Quiet s t) : Moves s t := Relation.ReflTransGen.single (.quiet h)
theorem Moves.block (h : BlockMove s t) : Moves s t := Relation.ReflTransGen.single (.block h)
theorem Moves.panel (h : PanelMove s t) : Moves s t := Relation.ReflTransGen.single (.panel h)

/-- What a frame names only quiet pieces of is quiet. -/
theorem Moves.of_unchanged {l : List Part} (h : Unchanged l s t) (hl : l ⊆ quietParts) : Moves s t := .quiet (.of_unchanged h hl)

theorem Moves.does (h : Moves s t) : Does s t := ⟨t, h, .here t⟩

theorem Moves.then_does (h : Moves s t) (h' : Does t u) : Does s u := by
  obtain ⟨v, hv, he⟩ := h'
  exact ⟨v, h.trans hv, he⟩

/-- A law that every move keeps, and that every reset establishes or keeps, is kept by an event. -/
theorem Does.keeps {P : State → Prop} (hmove : ∀ s t, Move s t → P s → P t) (hheld : ∀ s h, h ≠ .released → P (heldState h s))
    (hpart : ∀ s pin, P s → P (beginPartReset pin s)) (h : Does s t) (hs : P s) : P t := by
  obtain ⟨u, hu, he⟩ := h
  have kept : P u := by
    clear he
    induction hu with
    | refl => exact hs
    | tail _ hmv ih => exact hmove _ _ hmv ih
  cases he with
  | here => exact kept
  | held h hh => exact hheld u h hh
  | partReset pin => exact hpart u pin kept

end

end Sys2Proof.Proofs.StepMoves
end

section
set_option Elab.async false
/-! What each operation and each command does as a chain of moves. -/

namespace Sys2Proof.Proofs.StepMoves

open Sys2Proof Sys2Proof.Machine

section
variable (s : State) (sd : Side)

/-! ### Reports, messages and faults -/

theorem moves_report (r : Report) : Moves s (s.report r) := .quiet {}

theorem moves_setPort (v : Port) : Moves s (s.setPort sd v) := .quiet {}

theorem moves_setContext (v : Context) : Moves s (s.setContext sd v) := .quiet {}

theorem moves_setLink (v : HostLink) : Moves s (s.setLink v) := .quiet {}

theorem moves_setTimebase (v : Time) : Moves s (s.setTimebase v) := .quiet {}

theorem moves_setDisplay {d : Display} (h : DisplayKept (s.display sd) d) : Moves s (s.setDisplay sd d) := .panel (.setDisplay s sd d h)

theorem moves_setRuns {r : Runs} (h : RunsKept s sd r) : Moves s (s.setRuns sd r) := .panel (.setRuns s sd r h)

theorem moves_raise {f : FaultId} (hf : f.isEvent = false := by rfl) : Moves s (raise f s) := .panel (.raise s f hf)

theorem moves_raiseEvent (f : FaultId) : Moves s (raiseEvent f s) := .panel (.raiseEvent s f)

/-- The clear of an identity that no run of the display law hangs on. -/
theorem moves_clearFault {f : FaultId} (hpath : ∀ sd, f ≠ .displayPath sd := by simp) (hstale : ∀ sd, f ≠ .viewStale sd := by simp) :
    Moves s (clearFault f s) :=
  .panel (.clearFault s f (fun sd h => absurd h (hpath sd)) fun sd h => absurd h (hstale sd))

theorem moves_judgeVehicle : Moves s (judgeVehicle s) := by
  unfold judgeVehicle; split
  · split
    · exact moves_raise s
    · exact moves_clearFault s
  · exact .refl

theorem moves_changeDisplay {new : DisplayState} (hold : (s.display sd).state ≠ .dark) (hnew : new ≠ .dark)
    (hlive : new = .live → s.faults.viewLoss sd = false) : Moves s (changeDisplay sd new s) :=
  .panel (.changeDisplay s sd new hold hnew hlive)

theorem moves_expireHold : Moves s (expireHold sd s) := by
  unfold expireHold; split
  · next h =>
    split
    · exact moves_changeDisplay s sd (by simp [h]) (by simp) (by simp)
    · exact .refl
  · exact .refl

theorem moves_deliverE : Moves s (deliverE sd s) := by
  cases sd <;> exact .of_unchanged (unchanged_deliverE s _) (by simp [quietParts])

theorem moves_startTraining : Moves s (startTraining sd s) := by
  cases sd <;> exact .of_unchanged (unchanged_startTraining s _) (by simp [quietParts])

/-! ### The power state and the monitor link -/

/-- A change between power states other than OFF. -/
theorem moves_changePower {new : PowerState} (hnew : new ≠ .off) (hold : s.power.state ≠ .off) : Moves s (changePower new s) :=
  (Moves.panel (.setPower s { s.power with state := new } (by simp [hnew, hold]) Iff.rfl)).trans (moves_report _ _)

theorem moves_judgeRunning : Moves s (judgeRunning s) := by
  unfold judgeRunning; split
  · next h =>
    split
    · exact moves_changePower s (by simp) (by simp [h])
    · exact .refl
  · exact .refl

theorem moves_sendBurst (n : Nat) (h : (s.display sd).link = .hibernate ∨ (s.display sd).link = .waking) :
    Moves s (sendBurst sd n s) := by
  have emitted : Moves s (s.emit (.wakeBurst sd)) := .quiet {}
  refine emitted.trans (moves_setDisplay _ sd { link := .inr ?_ })
  rcases h with h | h <;> simp [h]

theorem moves_startWake : Moves s (startWake sd s) := by
  unfold startWake; split
  · next h => exact (moves_setDisplay s sd {}).trans (moves_sendBurst _ sd 1 (by simp [h]))
  · exact .refl

theorem moves_wakeEnabled : Moves s (if (s.display sd).enabled then startWake sd s else s) := by
  split
  · exact moves_startWake s sd
  · exact .refl

theorem moves_startingEffects : Moves s (startingEffects s) := by
  have timed (u : State) (t : Time) : Moves u (u.setNight { u.night with nextEval := some t }) := .panel (.setNight u _ fun _ => id)
  have woken := moves_startTraining s .left |>.trans (moves_startTraining _ .right)
    |>.trans (moves_wakeEnabled _ .left) |>.trans (moves_wakeEnabled _ .right)
  exact (woken.trans (timed _ _)).trans (moves_judgeVehicle _)

theorem moves_enterStarting (w : WakeSource) (h : s.power.state ≠ .off) : Moves s (enterStarting w s) := by
  have sourced (u : State) : Moves u (u.setPower { u.power with lastWake := some w }) := .panel (.setPower u _ Iff.rfl Iff.rfl)
  exact ((moves_changePower s (by simp) h).trans (sourced _)).trans (moves_startingEffects _)

/-- A link asleep, as an update of the display port after what it sends. -/
theorem sleepLink_eq : ∃ (u : State) (d : Display), Moves s u ∧ u.display sd = s.display sd ∧ Sleeps (s.display sd) d
    ∧ sleepLink sd s = u.setDisplay sd d := by
  have self : s.setDisplay sd (s.display sd) = s := by cases sd <;> rfl
  have emitted : Moves s (s.emit (.sleepNotice sd)) := .quiet {}
  unfold sleepLink; split
  · next h => exact ⟨_, _, emitted, rfl, { link := by simp, off := by simp [h] }, rfl⟩
  · next h => exact ⟨_, _, emitted, rfl, { link := by simp, off := by simp [h] }, rfl⟩
  · next hw hs => exact ⟨s, s.display sd, .refl, rfl, { link := hs, off := id }, self.symm⟩

theorem moves_becomeUnwanted : Moves s (becomeUnwanted sd s) := by
  obtain ⟨u, d, hu, hd, hsleep, heq⟩ := sleepLink_eq s sd
  unfold becomeUnwanted
  simp only [heq, State.setDisplay_display, State.setDisplay_setDisplay]
  exact hu.trans (.panel (.sleep u sd _ (hd ▸
    { state := hsleep.state, link := hsleep.link, off := hsleep.off, echo := hsleep.echo, out := hsleep.out,
      backlight := hsleep.backlight })))

theorem moves_sleepAndWake : Moves s (sleepAndWake sd s) := by
  obtain ⟨u, d, hu, hd, hsleep, heq⟩ := sleepLink_eq s sd
  unfold sleepAndWake
  simp only [heq, State.setDisplay_display, State.setDisplay_setDisplay]
  refine hu.trans ((Moves.panel (.sleep u sd { d with nextScan := none } (hd ▸
    { state := hsleep.state, link := hsleep.link, off := hsleep.off, echo := hsleep.echo, out := hsleep.out,
      backlight := hsleep.backlight }))).trans ?_)
  exact (moves_setDisplay _ sd {}).trans (moves_startWake _ sd)

theorem moves_pathFailed {k : State → State} (hk : Moves s (k s)) : Moves s (pathFailed sd k s) := by
  unfold pathFailed; split
  · exact hk
  · exact (moves_raise s).trans (moves_sleepAndWake _ sd)

/-! ### Installations, saves and replies -/

theorem moves_install (e gainR gainB : Nat) (grid : ZoneMap Nat) (tags : ZoneMap Bool) (frames backlight : Nat) :
    Moves s (install sd e gainR gainB grid tags frames backlight s) :=
  Moves.block (.installExposure s sd e gainR gainB)
    |>.trans (.block (.installGlare _ sd grid tags))
    |>.trans (moves_setContext _ sd _)
    |>.trans (moves_setDisplay _ sd { backlight := fun _ => Nat.min_le_right .. })

theorem moves_installDefault : Moves s (installDefault sd s) := moves_install s sd _ _ _ _ _ _ _

theorem moves_judgeRetained (identity : BitVec 64) : Moves s (judgeRetained sd identity s) := by
  unfold judgeRetained; simp only; split
  · exact moves_setContext s sd _
  · split
    · exact .refl
    · exact (moves_installDefault s sd).trans (moves_setContext _ sd _)

theorem moves_adoptNight (n : NightState) : Moves s (adoptNight n s) := by
  unfold adoptNight; split
  · exact .refl
  · exact .panel (.setNight s _ fun _ => id)

theorem moves_applyRestore (i : Image) : Moves s (applyRestore sd i s) :=
  moves_install s sd _ _ _ _ _ _ _
    |>.trans (moves_adoptNight _ _)
    |>.trans (moves_setContext _ sd _)
    |>.trans (moves_report _ _)

theorem moves_rejectRestore : Moves s (rejectRestore sd s) :=
  moves_raiseEvent s _ |>.trans (moves_report _ _) |>.trans (moves_setContext _ sd _)

theorem moves_judgeTraining (identity : BitVec 64) : Moves s (judgeTraining sd identity s) := by
  unfold judgeTraining judgeRestore
  refine (moves_judgeRetained s sd identity).trans ?_
  split
  · exact .refl
  · refine Moves.trans ?_ (moves_setContext _ sd _)
    split
    · exact moves_applyRestore _ sd _
    · exact moves_rejectRestore _ sd

theorem moves_resetSide : Moves s (resetSide sd s) := by
  unfold resetSide; simp only; split
  · exact moves_installDefault s sd
  · exact (moves_installDefault s sd).trans (moves_deliverE _ sd)

theorem moves_formReply (k tag : Byte) (r : Result) (payload : List Byte) : Moves s (formReply k tag r payload s) := .quiet {}

theorem moves_refuseWith (k tag : Byte) (r : Result) (payload : List Byte) : Moves s (refuseWith k tag r payload s) := .quiet {}

theorem moves_refuse (k tag : Byte) (r : Result) : Moves s (refuse k tag r s) := moves_refuseWith s k tag r []

theorem moves_completeSave (tag : Byte) (settled resetAfter : Bool) : Moves s (completeSave sd tag settled resetAfter s) := by
  have counted := moves_setContext s sd { s.context sd with saves := satInc (s.context sd).saves }
  unfold completeSave; simp only
  refine Moves.trans ?_ (moves_formReply _ _ _ _ _)
  split
  · exact counted.trans (moves_resetSide _ sd)
  · exact counted

theorem moves_endSave (settled : Bool) : Moves s (endSave sd settled s) := by
  unfold endSave; split
  · exact .refl
  · exact moves_setContext s sd _ |>.trans (moves_setLink _ _) |>.trans (moves_completeSave _ sd _ _ _)

/-! ### The sensor port -/

theorem does_identityRecord (identity : BitVec 64) (revision : Byte) {t : State}
    (h : execIdentityRecord sd identity revision s = .next t) : Does s t := by
  unfold execIdentityRecord at h; split at h <;> cases h
  · have stored : Moves s (storeIdentity sd identity revision s) := (moves_setPort s sd _).trans (moves_setRuns _ sd {})
    have started (u : State) : Moves u (startStreaming sd u) := .quiet {}
    exact (stored.trans (moves_judgeTraining _ sd identity) |>.trans (started _) |>.trans (moves_judgeRunning _)).does
  · exact Moves.refl.does

theorem moves_enterLost : Moves s (enterLost sd s) :=
  moves_setPort s sd _ |>.trans (moves_setRuns _ sd {}) |>.trans (moves_raise _) |>.trans (moves_judgeRunning _)

theorem does_trainingDeadline {t : State} (h : execTrainingDeadline sd s = .next t) : Does s t := by
  unfold execTrainingDeadline at h; split at h <;> cases h
  · exact Moves.refl.does
  · exact (moves_setTimebase s _ |>.trans (moves_setPort _ sd _) |>.trans (moves_enterLost _ sd)).does

theorem does_retrainTime {t : State} (h : execRetrainTime sd s = .next t) : Does s t := by
  unfold execRetrainTime at h; split at h <;> cases h
  · exact Moves.refl.does
  · exact (moves_setTimebase s _ |>.trans (moves_setPort _ sd _) |>.trans (moves_startTraining _ sd)).does

theorem does_lossDeadline {t : State} (h : execLossDeadline sd s = .next t) : Does s t := by
  unfold execLossDeadline at h; split at h <;> cases h
  · exact Moves.refl.does
  · exact (moves_setTimebase s _ |>.trans (moves_setPort _ sd _) |>.trans (moves_enterLost _ sd)).does

theorem moves_breakRecovery : Moves s (breakRecovery sd s) := moves_setRuns s sd {}

theorem does_sensorHeader (counter : BitVec 16) (exposure ratio : Byte) (healthy : Bool) {t : State}
    (h : execSensorHeader sd counter exposure ratio healthy s = .next t) : Does s t := by
  unfold execSensorHeader at h; simp only at h; split at h
  · split at h <;> cases h
    · exact (moves_setPort s sd _).does
    · exact ((moves_setPort s sd _).trans (moves_breakRecovery _ sd)).does
  · cases h; exact Moves.refl.does

theorem moves_judgeSettled (settled : Bool) : Moves s (judgeSettled sd settled s) := by
  unfold judgeSettled; simp only; split
  · exact moves_setPort s sd _
  · split
    · split <;> exact .quiet {}
    · exact moves_setPort s sd _

theorem moves_advanceRecovery : Moves s (advanceRecovery sd s) := by
  unfold advanceRecovery; simp only; split
  · split
    · exact (moves_setRuns s sd {}).trans (moves_clearFault _)
    · exact moves_setRuns s sd {}
  · exact moves_setRuns s sd {}

theorem moves_judgeControl (settled : Bool) (run : Nat) : Moves s (judgeControl sd settled run s) := by
  unfold judgeControl; split
  · exact moves_clearFault s
  · split
    · exact moves_raise s
    · exact .refl

theorem moves_completeFrame (f : FrameInProgress) : Moves s (completeFrame sd f s) := by
  unfold completeFrame; simp only; split
  · exact (moves_setPort s sd _).trans (moves_breakRecovery _ sd)
  · exact moves_setPort s sd _
      |>.trans (moves_judgeSettled _ sd _)
      |>.trans (.block (.handOver _ sd _))
      |>.trans (moves_advanceRecovery _ sd)
      |>.trans (moves_judgeControl _ sd _ _)

theorem does_sensorLine (samples : Array Sample) (crc : BitVec 16) {t : State} (h : execSensorLine sd samples crc s = .next t) :
    Does s t := by
  unfold execSensorLine at h; split at h
  · split at h <;> cases h
    · unfold storeLine; simp only; split
      · exact ((moves_setPort s sd _).trans (moves_completeFrame _ sd _)).does
      · exact (moves_setPort s sd _).does
    · exact Moves.refl.does
  · cases h

/-! ### Development, the adaptation commit and composition -/

theorem moves_frozenCount (signature : BitVec 32) : Moves s (frozenCount sd signature s) := by
  unfold frozenCount; simp only; split
  · split
    · exact (moves_setRuns s sd {}).trans (moves_clearFault _)
    · exact moves_setRuns s sd {}
  · split
    · exact (moves_setRuns s sd {}).trans (moves_raise _)
    · exact moves_setRuns s sd {}

theorem moves_request (p : RunPair) {f : FaultId} (hf : f.isEvent = false := by rfl) (hpath : ∀ sd, f ≠ .displayPath sd := by simp)
    (hstale : ∀ sd, f ≠ .viewStale sd := by simp) : Moves s (p.request f s) := by
  unfold RunPair.request; split
  · exact moves_raise s hf
  · split
    · exact moves_clearFault s hpath hstale
    · exact .refl

theorem moves_faultCounts (settled : Bool) (signature : BitVec 32) (flat : Nat) : Moves s (faultCounts sd settled signature flat s) := by
  have zoned : Moves s (s.setFaults { s.faults with flatZones := s.faults.flatZones.set sd flat }) := .quiet {}
  have obscured (u : State) : Moves u (obscuredCount sd flat u) := (moves_setRuns u sd {}).trans (moves_request _ _)
  have limited (u : State) (condition : Bool) : Moves u (limitCount sd settled condition u) := by
    unfold limitCount; split
    · exact (moves_setRuns u sd {}).trans (moves_request _ _)
    · exact .refl
  have saturated (u : State) (atMax : Nat) : Moves u (saturationCount sd atMax u) := (moves_setRuns u sd {}).trans (moves_request _ _)
  exact zoned |>.trans (moves_frozenCount _ sd signature) |>.trans (obscured _) |>.trans (limited _ _) |>.trans (saturated _ _)

theorem moves_commit (settled : Bool) (records : List ZoneRecord) (signature : BitVec 32) :
    Moves s (commit sd settled records signature s) := by
  have glared : Moves s (commitGlare sd records s) := (moves_setContext s sd _).trans (.block (.updateGlare _ sd _ records))
  have exposed (u : State) (tags : ZoneMap Bool) : Moves u (commitExposure sd settled records tags u) :=
    .block (.adaptExposure u sd _ settled _)
  have counted := glared.trans (exposed _ (s.glare sd).tags)
    |>.trans (moves_faultCounts _ sd settled signature (records.countP ZoneRecord.flat))
  refine Moves.trans ?_ (moves_endSave _ sd true)
  split
  · exact counted
  · exact counted.trans (moves_deliverE _ sd)

theorem does_statisticsCompletion {t : State} (h : execStatisticsCompletion sd s = .next t) : Does s t := by
  unfold execStatisticsCompletion at h; split at h
  · cases h; exact Moves.refl.does
  · next d hd =>
    split at h <;> cases h
    · exact Moves.refl.does
    · exact ((Moves.block (.finishStatistics s sd d _ hd)).trans (moves_commit _ sd _ _ _)).does

theorem does_developmentCompletion {t : State} (h : execDevelopmentCompletion sd s = .next t) : Does s t := by
  unfold execDevelopmentCompletion at h; split at h
  · cases h; exact Moves.refl.does
  · next d hd =>
    split at h <;> cases h
    · exact ((Moves.block (.finishDevelopment s sd d hd)).trans (.block (.tryFrameStart _ sd))).does
    · exact Moves.refl.does

theorem does_compositionCompletion {t : State} (h : execCompositionCompletion sd s = .next t) : Does s t := by
  unfold execCompositionCompletion at h; split at h <;> cases h
  · exact Moves.refl.does
  · next c hc => exact ((Moves.block (.finishComposition s sd c hc)).trans (.block (.tryFrameStart _ sd))).does

/-! ### The night state controller -/

theorem backlightTarget_le (g : BacklightGroup) (n : NightState) (trim : Int) : backlightTarget g n trim ≤ 1023 := by
  unfold backlightTarget clampInt; omega

theorem retarget_target_le (n : Night) (sd : Side) : n.retarget.target.get sd ≤ 1023 := by
  cases sd <;> exact backlightTarget_le _ _ _

theorem moves_rampBacklight (h : s.night.target.get sd ≤ 1023) : Moves s (rampBacklight sd s) := by
  refine moves_setDisplay s sd { backlight := fun hb => ?_ }
  have moved := (approach_between (s.display sd).backlight (s.night.target.get sd) 32).2
  simp only
  omega

theorem does_nightEvaluation {t : State} (h : execNightEvaluation s = .next t) : Does s t := by
  unfold execNightEvaluation at h; split at h <;> cases h
  · exact Moves.refl.does
  · unfold evaluateNight; simp only
    refine (moves_setTimebase s _ |>.trans (.panel (.setNight _ _ fun sd _ => retarget_target_le _ sd))
      |>.trans (moves_rampBacklight _ .left ?_) |>.trans (moves_rampBacklight _ .right ?_)).does
    · exact retarget_target_le _ .left
    · exact retarget_target_le _ .right

end

end Sys2Proof.Proofs.StepMoves
end

section
set_option Elab.async false
/-! The display ports, the power controller and the resets as chains of moves. -/

namespace Sys2Proof.Proofs.StepMoves

open Sys2Proof Sys2Proof.Machine

section
variable (s : State) (sd : Side)

/-! ### The display ports -/

theorem moves_failWake (h : (s.display sd).link = .waking) : Moves s (failWake sd s) := by
  refine Moves.trans (moves_setDisplay s sd { link := .inr ?_ }) (moves_raise _)
  simp [h]

theorem does_wakeDeadline {t : State} (h : execWakeDeadline sd s = .next t) : Does s t := by
  unfold execWakeDeadline Display.wakeDue at h; split at h
  · cases h; exact Moves.refl.does
  · next t' hdue =>
    have hlink : (s.display sd).link = .waking := by
      split at hdue
      · assumption
      · cases hdue
    simp only at h
    split at h <;> cases h
    · exact ((moves_setTimebase s t').trans (moves_sendBurst _ sd _ (.inr hlink))).does
    · exact ((moves_setTimebase s t').trans (moves_failWake _ sd hlink)).does

theorem does_wakeRetryTime {t : State} (h : execWakeRetryTime sd s = .next t) : Does s t := by
  unfold execWakeRetryTime at h; split at h <;> cases h
  · exact Moves.refl.does
  · exact ((moves_setTimebase s _).trans (moves_startWake _ sd)).does

theorem does_ready (identity : BitVec 32) {t : State} (h : execReady sd identity s = .next t) : Does s t := by
  unfold execReady at h; split at h <;> cases h
  · next hlink => exact (Moves.panel (.completeWake s sd identity hlink)).does
  · exact Moves.refl.does

theorem does_call {t : State} (h : execCall sd s = .next t) : Does s t := by
  unfold execCall at h; simp only at h; split at h
  · split at h <;> cases h
    · exact (moves_startWake s sd).does
    · exact (moves_setDisplay s sd {}).does
  · cases h; exact Moves.refl.does

/-- Step 1 of a scan start: a move between states other than DARK, into LIVE only without a view loss (R102, R104). -/
theorem moves_judgeDisplay : Moves s (judgeDisplay sd s) := by
  unfold judgeDisplay; split
  · next h =>
    unfold judgePriming; split
    · exact moves_changeDisplay s sd (by simp [h]) (by simp) (by simp)
    · next hloss =>
      split
      · exact moves_changeDisplay s sd (by simp [h]) (by simp) fun _ => by simpa using hloss
      · exact .refl
  · next h =>
    unfold judgeHold; split
    · split
      · exact moves_changeDisplay s sd (by simp [h]) (by simp) (by simp)
      · exact moves_setDisplay s sd {}
    · next hloss => exact moves_changeDisplay s sd (by simp [h]) (by simp) fun _ => by simpa using hloss
  · next h =>
    split
    · exact .refl
    · next hloss => exact moves_changeDisplay s sd (by simp [h]) (by simp) fun _ => by simpa using hloss
  · exact .refl

theorem judgeDisplay_link : ((judgeDisplay sd s).display sd).link = (s.display sd).link := by
  unfold judgeDisplay judgePriming judgeHold
  split <;> (try split) <;> (try split) <;> simp [changeDisplay_display]

theorem pushEcho_length {l : List (BitVec 32)} (x : BitVec 32) (h : l.length ≤ 4) : (pushEcho l x).length ≤ 4 := by
  unfold pushEcho; split <;> simp <;> omega

theorem moves_sendFrame (handed : Option SlotRecord) : Moves s (sendFrame sd handed s) := by
  have emitted (m : Sent) : Moves s (s.emit m) := .quiet {}
  unfold sendFrame; simp only; split
  · exact (emitted _).trans (moves_setDisplay _ sd { echo := pushEcho_length _ })
  · exact (emitted _).trans (moves_setDisplay _ sd { echo := pushEcho_length _ })

theorem sendFrame_link (handed : Option SlotRecord) : ((sendFrame sd handed s).display sd).link = (s.display sd).link := by
  unfold sendFrame; simp only; split <;> simp

theorem moves_sendOutbound : Moves s (sendOutbound sd s) := by
  have emitted (m : Sent) : Moves s (s.emit m) := .quiet {}
  unfold sendOutbound; split
  · exact .refl
  · next x rest h =>
    refine (emitted _).trans (moves_setDisplay _ sd { out := fun hl => ?_ })
    simp only [State.emit_get_display, h, List.length_cons] at hl
    simp only
    omega

theorem sendOutbound_link : ((sendOutbound sd s).display sd).link = (s.display sd).link := by
  unfold sendOutbound; split <;> simp

theorem moves_judgeStale (age : Time) (hlink : (s.display sd).link = .synced) : Moves s (judgeStale sd age s) := by
  have aged := moves_setDisplay s sd (d := { s.display sd with lastAge := some age }) {}
  unfold judgeStale; simp only; split
  · next hcur =>
    split
    · exact aged.trans (moves_setRuns _ sd { staleClear := .inr (.inl rfl) })
    · split
      · exact (aged.trans (moves_setRuns _ sd { staleClear := .inr (.inl rfl) })).trans
          (.panel (.clearFault _ _ (by simp) fun sd' h => by cases h; simp))
      · exact aged.trans (moves_setRuns _ sd { staleClear := .inr (.inr ⟨hcur, by simpa using hlink⟩) })
  · split
    · exact aged.trans (moves_raise _)
    · exact aged

theorem moves_evaluateStale (handed : Option SlotRecord) (hlink : (s.display sd).link = .synced) :
    Moves s (evaluateStale sd handed s) := by
  unfold evaluateStale; split
  · exact moves_judgeStale s sd _ hlink
  · exact .refl

theorem moves_silenceReached : Moves s (silenceReached sd s) := by
  unfold silenceReached; simp only
  refine Moves.trans ?_ (moves_pathFailed _ sd (moves_setRuns _ sd { pathMatch := .inr (.inl rfl) }))
  exact moves_setDisplay s sd {}

theorem moves_judgeSilence : Moves s (judgeSilence sd s) := by
  have counted := moves_setDisplay s sd (d := { s.display sd with silence := (s.display sd).silence + 1 }) {}
  unfold judgeSilence; simp only; split
  · exact counted.trans (moves_silenceReached _ sd)
  · exact counted

/-- The seven steps of a scan start in SYNCED (R105). -/
theorem moves_scan (hlink : (s.display sd).link = .synced) : Moves s (scan sd s) := by
  have presented (u : State) : Moves u (presentScan sd u).1 := .block (.scanStore u sd _)
  unfold scan
  refine moves_judgeDisplay s sd
    |>.trans (presented _) |>.trans (moves_sendFrame _ sd _) |>.trans (moves_sendOutbound _ sd)
    |>.trans (moves_evaluateStale _ sd _ ?_) |>.trans (moves_judgeSilence _ sd)
  rw [sendOutbound_link, sendFrame_link]
  exact (judgeDisplay_link s sd).trans hlink

theorem does_scanStart {t : State} (h : execScanStart sd s = .next t) : Does s t := by
  unfold execScanStart Display.scanDue at h; split at h
  · cases h; exact Moves.refl.does
  · next t' hdue =>
    have hlink : (s.display sd).link = .synced := by
      split at hdue
      · assumption
      · cases hdue
    cases h
    exact (moves_setTimebase s t' |>.trans (moves_setDisplay _ sd {}) |>.trans (moves_scan _ sd (by simpa using hlink))).does

theorem does_holdExpiry {t : State} (h : execHoldExpiry sd s = .next t) : Does s t := by
  unfold execHoldExpiry at h; simp only at h; split at h
  · split at h <;> cases h
    · exact ((moves_setTimebase s _).trans (moves_expireHold _ sd)).does
    · exact Moves.refl.does
  · cases h; exact Moves.refl.does

theorem does_echoSilence {t : State} (h : execEchoSilence sd s = .next t) : Does s t := by
  unfold execEchoSilence at h; split at h
  · split at h <;> cases h
    · exact (moves_silenceReached s sd).does
    · exact Moves.refl.does
  · cases h; exact Moves.refl.does

theorem moves_advanceMatch : Moves s (advanceMatch sd s) := by
  unfold advanceMatch; simp only; split
  · next hcur =>
    split
    · exact (moves_setRuns s sd { pathMatch := .inr (.inl rfl) }).trans
        (.panel (.clearFault _ _ (fun sd' h => by cases h; simp) (by simp)))
    · exact moves_setRuns s sd { pathMatch := .inr (.inr hcur) }
  · exact .refl

theorem confirm_length_le (l : List (BitVec 32)) (x : BitVec 32) : (confirm l x).length ≤ l.length := by
  rw [confirm, List.length_drop]
  exact (Nat.sub_le ..).trans (List.dropWhile_sublist _).length_le

theorem moves_judgeEcho (x : BitVec 32) : Moves s (judgeEcho sd x s) := by
  unfold judgeEcho; simp only; split
  · exact (moves_setDisplay s sd { echo := (confirm_length_le _ x).trans }).trans (moves_advanceMatch _ sd)
  · exact moves_setDisplay s sd {} |>.trans (moves_setRuns _ sd { pathMatch := .inr (.inl rfl) })
      |>.trans (moves_pathFailed _ sd .refl)

theorem does_echo (signature : BitVec 32) {t : State} (h : execEcho sd signature s = .next t) : Does s t := by
  unfold execEcho at h; split at h <;> cases h
  · exact (moves_judgeEcho s sd signature).does
  · exact Moves.refl.does

theorem does_monitorStatus (fault : Bool) (temperature : Byte) {t : State}
    (h : execMonitorStatus sd fault temperature s = .next t) : Does s t := by
  unfold execMonitorStatus at h; split at h
  · simp only at h
    have recorded := moves_setDisplay s sd (d := { s.display sd with lastStatus := some ⟨fault, temperature, s.timebase⟩ }) {}
    cases fault <;> cases h
    · exact (recorded.trans (moves_clearFault _)).does
    · exact (recorded.trans (moves_raise _)).does
  · cases h; exact Moves.refl.does

theorem does_monitorReply (bytes : List Byte) {t : State} (h : execMonitorReply sd bytes s = .next t) : Does s t := by
  unfold execMonitorReply at h; split at h
  · split at h <;> cases h
    · exact ((moves_report s _).trans (moves_setDisplay _ sd {})).does
    · exact Moves.refl.does
  · cases h

/-! ### The power controller -/

theorem does_vehicleExpiry (field : VehicleField) {t : State} (h : execVehicleExpiry field s = .next t) : Does s t := by
  have expired (u : State) : Moves u (u.setFaults (u.faults.setExpiry field none)) := by cases field <;> exact .quiet {}
  unfold execVehicleExpiry at h; split at h <;> cases h
  · exact Moves.refl.does
  · exact (moves_setTimebase s _ |>.trans (expired _) |>.trans (moves_judgeVehicle _)).does

theorem does_saveDeadline {t : State} (h : execSaveDeadline sd s = .next t) : Does s t := by
  unfold execSaveDeadline at h; split at h <;> cases h
  · exact Moves.refl.does
  · exact ((moves_setTimebase s _).trans (moves_endSave _ sd false)).does

theorem does_wakeLineEdge (high : Bool) {t : State} (h : execWakeLineEdge high s = .next t) : Does s t := by
  have moved : Moves s (s.setPower { s.power with wakeLevel := high }) := .panel (.setPower s _ Iff.rfl Iff.rfl)
  unfold execWakeLineEdge at h; simp only at h; split at h
  · cases h; exact Moves.refl.does
  · next hp =>
    split at h <;> cases h
    · exact (moved.trans (moves_enterStarting _ _ (by simp [hp]))).does
    · exact moved.does
  · cases h; exact moved.does

theorem moves_haltPort : Moves s (haltPort sd s) := by
  unfold haltPort; simp only; split
  · exact .refl
  · exact .quiet {}

theorem moves_parkDisplay : Moves s (parkDisplay sd s) := (moves_becomeUnwanted s sd).trans (moves_setDisplay _ sd {})

/-- The seven orders of PARK (R157). -/
theorem moves_park (h : s.power.state ≠ .off) : Moves s (park s) := by
  have stopped (u : State) : Moves u (stopNight u) := .panel (.setNight u _ fun _ => id)
  have blocks (u : State) : Moves u
      (abandonComposition .right (abandonComposition .left (abandonDevelopment .right (abandonDevelopment .left u)))) :=
    Moves.block (.abandonDevelopment u .left) |>.trans (.block (.abandonDevelopment _ .right))
      |>.trans (.block (.abandonComposition _ .left)) |>.trans (.block (.abandonComposition _ .right))
  exact moves_changePower s (by simp) h
    |>.trans (moves_haltPort _ .left) |>.trans (moves_haltPort _ .right)
    |>.trans (blocks _)
    |>.trans (stopped _)
    |>.trans (moves_parkDisplay _ .left) |>.trans (moves_parkDisplay _ .right)
    |>.trans (.panel (.emptyCurrent _))

/-! ### Resets -/

theorem does_supplyOn {t : State} (h : execSupplyOn s = .next t) : Does s t := by
  unfold execSupplyOn at h; split at h <;> cases h
  · exact ⟨s, .refl, .held s .powerOn (by simp)⟩
  · exact Moves.refl.does

theorem does_supplyLoss {t : State} (h : execSupplyLoss s = .next t) : Does s t := by
  cases h; exact ⟨s, .refl, .held s .noSupply (by simp)⟩

theorem does_nrstAsserted {t : State} (h : execNrstAsserted s = .next t) : Does s t := by
  unfold execNrstAsserted at h; split at h <;> cases h
  · exact ⟨s, .refl, .partReset s true⟩
  · next hhold => exact (Moves.panel (.setPower s { s.power with hold := .partReset true } Iff.rfl (by simp [hhold]))).does
  · exact Moves.refl.does

/-- The report of the restart and the move out of OFF, with the power controller at its end first. -/
theorem changePower_after_restart (u : State) (r : Report) (w : Option WakeSource) (wakeHigh autostart : Bool) (p : PowerState) :
    changePower p ((u.report r).setPower ⟨.off, w, wakeHigh, autostart, .released⟩) =
      ((u.setPower ⟨p, w, wakeHigh, autostart, .released⟩).report r).report (.powerChanged .off p) := rfl

theorem moves_endReset (cause : RestartCause) (autostart wakeHigh : Bool) (h : s.power.hold ≠ .released) :
    Moves s (endReset cause autostart wakeHigh s) := by
  have restarted : Moves s { s with timebase := 0, restartCause := cause } := .quiet {}
  have left (w : Option WakeSource) {p : PowerState} (hp : p ≠ .off) (r r' : Report) :
      Moves s ((((openMonitorLinks { s with timebase := 0, restartCause := cause }).setPower
        ⟨p, w, wakeHigh, autostart, .released⟩).report r).report r') :=
    restarted.trans (.panel (.release _ _ h hp rfl)) |>.trans (moves_report _ r) |>.trans (moves_report _ r')
  unfold endReset; simp only; split
  · refine Moves.trans ?_ (moves_startingEffects _)
    exact left (some .autostart) (p := .starting) (by simp) (.restarted cause) _
  · rw [changePower_after_restart]
    exact left none (by simp) _ _

theorem does_resetEnd (autostart wakeHigh : Bool) {t : State} (h : execResetEnd autostart wakeHigh s = .next t) : Does s t := by
  unfold execResetEnd at h; split at h <;> cases h
  · next hh => exact (moves_endReset s .powerOn autostart wakeHigh (by simp [hh])).does
  · next hh => exact (moves_endReset s .resetPin autostart wakeHigh (by simp [hh])).does
  · next hh => exact (moves_endReset s .resetRequest autostart wakeHigh (by simp [hh])).does
  · exact Moves.refl.does

end

end Sys2Proof.Proofs.StepMoves
end

section
set_option Elab.async false
/-! The host link, its requests, and every step as chains of moves. -/

namespace Sys2Proof.Proofs.StepMoves

open Sys2Proof Sys2Proof.Machine

section
variable (s : State)

/-! ### The host link without its requests -/

theorem moves_discardPartial : Moves s (discardPartial s) := by
  have dropped : Moves s (countFraming (dropPartial s)) := .quiet {}
  exact dropped.trans (moves_raiseEvent _ _)

theorem does_partialDeadline {t : State} (h : execPartialDeadline s = .next t) : Does s t := by
  unfold execPartialDeadline at h; split at h <;> cases h
  · exact Moves.refl.does
  · exact ((moves_setTimebase s _).trans (moves_discardPartial _)).does

theorem does_chipSelectRelease (midByte : Bool) {t : State} (h : execChipSelectRelease midByte s = .next t) : Does s t := by
  have released : Moves s (releaseSelect s) := .quiet {}
  unfold execChipSelectRelease at h; split at h
  · cases h; exact Moves.refl.does
  · split at h <;> cases h
    · exact (released.trans (moves_discardPartial _)).does
    · exact released.does

theorem does_linkReset {t : State} (h : execLinkReset s = .next t) : Does s t := by
  unfold execLinkReset at h; split at h <;> cases h
  · exact Moves.refl.does
  · exact (moves_setLink s _).does

theorem does_replyRead {t : State} (h : execReplyRead s = .next t) : Does s t := by
  unfold execReplyRead at h; split at h <;> cases h
  · exact Moves.refl.does
  · exact (Moves.quiet {}).does

theorem moves_shiftByte (r : Reading) : Moves s (shiftByte r s) := by
  unfold shiftByte; simp only; split <;> exact .quiet {}

/-- A byte clocked in does what the interface does with it while the part is out of OFF. -/
theorem does_clocked (b : Byte) {k : State → State} (hk : ∀ u : State, u.power.state ≠ .off → Does u (k u)) : Does s (clocked b k s) := by
  unfold clocked; split
  · exact Moves.refl.does
  · exact (moves_shiftByte s _).does
  · next _ hp =>
    dsimp only
    generalize (if b = 0xFF then s.link.ffRun + 1 else 0) = run
    split
    · exact (moves_setLink s _).does
    · exact (moves_setLink s _).then_does (hk _ hp)

theorem moves_refuseCrc : Moves s (refuseCrc s) :=
  moves_setLink s _ |>.trans (moves_raiseEvent _ _) |>.trans (moves_formReply _ _ _ _ _)

theorem moves_endOverlong (kind tag : Byte) : Moves s (endOverlong kind tag s) := by
  have dropped : Moves s (countFraming (dropPartial s)) := .quiet {}
  unfold endOverlong; simp only; split
  · exact .quiet {}
  · exact dropped.trans (moves_raiseEvent _ _) |>.trans (moves_formReply _ _ _ _ _)

/-! ### Requests -/

theorem moves_judgeAttn : Moves s s.judgeAttn := .quiet {}

theorem moves_applyTimeout : Moves s (applyTimeout s) := by
  have recomputed (a l : Option Time) : Moves s (s.setFaults { s.faults with expiryAngle := a, expiryLux := l }) := .quiet {}
  exact (recomputed _ _).trans (moves_judgeVehicle _)

theorem moves_applyFaultFields (f : Fields) : Moves s (applyFaultFields f s) := by
  have expired (u : State) : Moves u (if (f.raw 1).isSome then expireHold .right (expireHold .left u) else u) := by
    split
    · exact (moves_expireHold u .left).trans (moves_expireHold _ .right)
    · exact .refl
  have timed (u : State) : Moves u (if (f.raw 3).isSome then applyTimeout u else u) := by
    split
    · exact moves_applyTimeout u
    · exact .refl
  have attended (u : State) : Moves u (if (f.raw 4).isSome then u.judgeAttn else u) := by
    split
    · exact moves_judgeAttn u
    · exact .refl
  exact (expired s).trans (timed _) |>.trans (attended _)

theorem moves_writeCommon (g : Group) (f : Fields) (h : g = .fault → s.faults.locked = false) : Moves s (writeCommon g f s).value := by
  cases g with
  | night | backlight => exact .panel (.setNight s _ fun _ => id)
  | fault => exact (Moves.panel (.setGroup s _ (h rfl))).trans (moves_applyFaultFields _ f)
  | _ => exact .refl

theorem moves_writeScope (g : Group) (f : Fields) (sides : List Side) (h : g = .fault → s.faults.locked = false) :
    Moves s (writeScope g f sides s).value := by
  match sides with
  | [] => exact moves_writeCommon s g f h
  | [sd] => exact .block (.writeSide s g f sd)
  | sd :: sd' :: _ => exact (Moves.block (.writeSide s g f sd)).trans (.block (.writeSide _ g f sd'))

theorem moves_takeSet (tag : Byte) (payload : List Byte) : Moves s (takeSet tag payload s) := by
  unfold takeSet; split
  · exact moves_refuse s _ _ _
  · split
    · exact moves_refuse s _ _ _
    · split
      · exact moves_refuse s _ _ _
      · next g _ _ _ _ hlock =>
        have unlocked (hg : g = .fault) : s.faults.locked = false := by simpa [hg] using hlock
        exact (moves_writeScope s _ _ _ unlocked).trans (moves_formReply _ _ _ _ _)

theorem moves_takeGet (tag : Byte) (payload : List Byte) : Moves s (takeGet tag payload s) := by
  unfold takeGet; simp only; split
  · exact moves_formReply s _ _ _ _
  · exact moves_refuse s _ _ _

theorem moves_takeVehicle (tag : Byte) (payload : List Byte) : Moves s (takeVehicle tag payload s) := by
  have angled (u : State) (b : Bool) (v : Int) : Moves u (if b then storeAngle v u else u) := by
    split
    · exact .quiet {}
    · exact .refl
  have lit (u : State) (b : Bool) (v : Nat) : Moves u (if b then storeLux v u else u) := by
    split
    · exact .quiet {}
    · exact .refl
  have judged (u : State) (b : Bool) : Moves u (if b then judgeVehicle u else u) := by
    split
    · exact moves_judgeVehicle u
    · exact .refl
  unfold takeVehicle storeVehicle; simp only; split
  · exact moves_refuse s _ _ _
  · refine Moves.trans ?_ (moves_formReply _ _ _ _ _)
    exact (angled s _ _).trans (lit _ _ _) |>.trans (judged _ _)

theorem moves_takeOverlay (tag : Byte) (payload : List Byte) : Moves s (takeOverlay tag payload s) := by
  unfold takeOverlay; simp only; split
  · exact moves_refuse s _ _ _
  · next sd hsd =>
    split
    · exact moves_refuse s _ _ _
    · next hid =>
      split
      · split
        · next hok =>
          exact (Moves.block (.putOverlay s sd (overlayOf payload) (by simpa [overlayOf] using hid) hok)).trans
            (moves_formReply _ _ _ _ _)
        · exact moves_refuse s _ _ _
      · split
        · exact (Moves.block (.dropOverlay s sd _)).trans (moves_formReply _ _ _ _ _)
        · exact moves_refuse s _ _ _

theorem moves_postUnmasked (old : ClassSet) : Moves s (postUnmasked old s) :=
  List.foldlRecOn (motive := Moves s) FaultId.all _ .refl fun u hu f _ => by
    split
    · exact hu.trans (moves_report u _)
    · exact hu

theorem moves_takeFaultctl (tag : Byte) (payload : List Byte) : Moves s (takeFaultctl tag payload s) := by
  unfold takeFaultctl controlFaults; simp only; split
  · exact moves_refuse s _ _ _
  · split
    · exact moves_refuse s _ _ _
    · next hlock =>
      refine Moves.trans ?_ (moves_formReply _ _ _ _ _)
      refine Moves.trans (Moves.trans (.panel (.writeMasks s _ _ fun hl => ?_)) (moves_postUnmasked _ _)) (.panel (.acknowledge _ _))
      simpa [hl] using hlock

theorem moves_takeCollect (tag : Byte) (payload : List Byte) : Moves s (takeCollect tag payload s) := by
  unfold takeCollect; simp only; split
  · exact moves_refuse s _ _ _
  · exact .quiet {}

theorem moves_takeCtxSave (tag : Byte) (payload : List Byte) : Moves s (takeCtxSave tag payload s) := by
  have begun (sd : Side) (resetAfter : Bool) : Moves s (beginSave tag sd resetAfter s) := .quiet {}
  unfold takeCtxSave; simp only; split
  · exact moves_refuse s _ _ _
  · split
    · exact moves_refuse s _ _ _
    · split
      · exact moves_refuse s _ _ _
      · split
        · exact moves_completeSave s _ _ _ _
        · exact begun _ _

theorem moves_takeCtxLoad (tag : Byte) (payload : List Byte) : Moves s (takeCtxLoad tag payload s) := by
  have counted (sd : Side) : Moves s (countRefusedLoad sd s) := moves_setContext s sd _
  unfold takeCtxLoad; split
  · exact moves_refuseWith s _ _ _ _
  · split
    · exact (counted _).trans (moves_refuse _ _ _ _)
    · split
      · exact (counted _).trans (moves_raiseEvent _ _) |>.trans (moves_refuseWith _ _ _ _ _)
      · exact (moves_setContext s _ _).trans (moves_formReply _ _ _ _ _)

theorem moves_takeMonitor (tag : Byte) (payload : List Byte) : Moves s (takeMonitor tag payload s) := by
  unfold takeMonitor; simp only; split
  · exact moves_refuse s _ _ _
  · next sd hsd =>
    split
    · next hroom =>
      refine (moves_setDisplay s sd { out := fun _ => ?_ }).trans (moves_formReply _ _ _ _ _)
      simpa using hroom
    · exact moves_refuse s _ _ _

theorem becomeUnwanted_dark (sd : Side) : ((becomeUnwanted sd s).display sd).state = .dark := (moveDark_display sd _).1

theorem moves_enableDisplay (sd : Side) (on : Bool) : Moves s (enableDisplay sd on s) := by
  have enabled := moves_setDisplay s sd (d := { s.display sd with enabled := on }) {}
  unfold enableDisplay; simp only; split
  · exact .refl
  · split
    · split
      · exact enabled.trans (moves_startWake _ sd)
      · exact enabled.trans (moves_becomeUnwanted _ sd) |>.trans (.panel (.clearViewPath _ sd (becomeUnwanted_dark _ sd)))
    · exact enabled

theorem moves_takeDisplay (tag : Byte) (payload : List Byte) : Moves s (takeDisplay tag payload s) := by
  unfold takeDisplay; simp only; split
  · exact moves_refuse s _ _ _
  · split
    · exact moves_refuse s _ _ _
    · exact (moves_enableDisplay s _ _).trans (moves_formReply _ _ _ _ _)

theorem does_takePower (tag : Byte) (payload : List Byte) (h : s.power.state ≠ .off) : Does s (takePower tag payload s) := by
  unfold takePower takePark takeWake; simp only; split
  · split
    · exact ((moves_park s h).trans (moves_formReply _ _ _ _ _)).does
    · exact (moves_formReply s _ _ _ _).does
  · split
    · split
      · exact (moves_formReply s _ _ _ _).does
      · exact ((moves_enterStarting s _ h).trans (moves_formReply _ _ _ _ _)).does
    · split
      · exact ⟨s, .refl, .partReset s false⟩
      · exact (moves_refuse s _ _ _).does

theorem does_carryOut (k : Kind) (tag : Byte) (payload : List Byte) (h : s.power.state ≠ .off) : Does s (carryOut k tag payload s) := by
  cases k with
  | ident | status => exact (moves_formReply s _ _ _ _).does
  | set => exact (moves_takeSet s tag payload).does
  | get => exact (moves_takeGet s tag payload).does
  | vehicle => exact (moves_takeVehicle s tag payload).does
  | overlay => exact (moves_takeOverlay s tag payload).does
  | faultctl => exact (moves_takeFaultctl s tag payload).does
  | collect => exact (moves_takeCollect s tag payload).does
  | ctxSave => exact (moves_takeCtxSave s tag payload).does
  | ctxLoad => exact (moves_takeCtxLoad s tag payload).does
  | monitor => exact (moves_takeMonitor s tag payload).does
  | display => exact (moves_takeDisplay s tag payload).does
  | power => exact does_takePower s tag payload h
  | lock => exact ((Moves.panel (.lock s)).trans (moves_formReply _ _ _ _ _)).does

theorem does_judgeRequest (kind tag : Byte) (payload : List Byte) (crc : BitVec 16) (h : s.power.state ≠ .off) :
    Does s (judgeRequest kind tag payload crc s) := by
  unfold judgeRequest; split
  · exact (moves_setLink s _).does
  · split
    · unfold judgeKind; split
      · exact (moves_refuse s _ _ _).does
      · split
        · exact (moves_refuse s _ _ _).does
        · exact (moves_setLink s _).then_does (does_carryOut _ _ tag payload h)
    · exact (moves_refuseCrc s).does

theorem does_completeRequest (kind : Byte) (head : ReqHead) (payload : List Byte) : Does s (completeRequest kind head payload s) :=
  does_clocked s _ fun u hu => (moves_setLink u _).then_does (does_judgeRequest _ kind head.tag payload head.crc hu)

theorem does_takeByte (b : Byte) (h : s.power.state ≠ .off) : Does s (takeByte b s) := by
  unfold takeByte; split
  · unfold outsideByte beginRead; split
    · exact (moves_setLink s _).does
    · split
      · split <;> exact (moves_setLink s _).does
      · exact Moves.refl.does
  · unfold appendByte; split
    · exact (moves_endOverlong s _ _).does
    · split
      · exact (moves_setLink s _).then_does (does_judgeRequest _ _ _ _ _ h)
      · exact (moves_setLink s _).does

theorem does_clockedByte (b : Byte) : Does s (clocked b (takeByte b) s) := does_clocked s b fun u hu => does_takeByte u b hu

/-- A request whose payload the link may not carry at all. -/
theorem does_boundedRequest {fits : Bool} {kind : Byte} {head : ReqHead} {payload : List Byte} {t : State}
    (h : (if fits then .next (completeRequest kind head payload s) else .fault .malformed : Host.Outcome State Fault Refusal) = .next t) :
    Does s t := by
  cases fits with
  | false => cases h
  | true => cases h; exact does_completeRequest s kind head payload

theorem does_overlongRequest (kind tag : Byte) (length : BitVec 16) {t : State}
    (h : execOverlongRequest kind tag length s = .next t) : Does s t := by
  unfold execOverlongRequest at h; split at h <;> cases h
  exact does_clocked s _ fun u _ => (moves_endOverlong u kind tag).does

/-! ### Every step -/

theorem does_exec (c : Instr) {t : State} (h : exec c s = .next t) : Does s t := by
  cases c with
  | identityRecord sd identity revision => exact does_identityRecord s sd identity revision h
  | trainingDeadline sd => exact does_trainingDeadline s sd h
  | retrainTime sd => exact does_retrainTime s sd h
  | lossDeadline sd => exact does_lossDeadline s sd h
  | sensorHeader sd counter exposure ratio healthy => exact does_sensorHeader s sd counter exposure ratio healthy h
  | sensorLine sd samples crc => exact does_sensorLine s sd samples crc h
  | statisticsCompletion sd => exact does_statisticsCompletion s sd h
  | developmentCompletion sd => exact does_developmentCompletion s sd h
  | compositionCompletion sd => exact does_compositionCompletion s sd h
  | nightEvaluation => exact does_nightEvaluation s h
  | wakeDeadline sd => exact does_wakeDeadline s sd h
  | wakeRetryTime sd => exact does_wakeRetryTime s sd h
  | ready sd identity => exact does_ready s sd identity h
  | call sd => exact does_call s sd h
  | scanStart sd => exact does_scanStart s sd h
  | holdExpiry sd => exact does_holdExpiry s sd h
  | echoSilence sd => exact does_echoSilence s sd h
  | echo sd signature => exact does_echo s sd signature h
  | monitorStatus sd fault temperature => exact does_monitorStatus s sd fault temperature h
  | monitorReply sd bytes => exact does_monitorReply s sd bytes h
  | vehicleExpiry field => exact does_vehicleExpiry s field h
  | saveDeadline sd => exact does_saveDeadline s sd h
  | wakeLineEdge high => exact does_wakeLineEdge s high h
  | supplyOn => exact does_supplyOn s h
  | supplyLoss => exact does_supplyLoss s h
  | nrstAsserted => exact does_nrstAsserted s h
  | resetEnd autostart wakeHigh => exact does_resetEnd s autostart wakeHigh h
  | partialDeadline => exact does_partialDeadline s h
  | chipSelectRelease midByte => exact does_chipSelectRelease s midByte h
  | linkReset => exact does_linkReset s h
  | overlongRequest kind tag length => exact does_overlongRequest s kind tag length h
  | replyRead => exact does_replyRead s h
  | readTransaction => cases h; exact does_clockedByte s 0xC3
  | requestByte byte => cases h; exact does_clockedByte s byte
  | unknownKindRequest | set | ctxLoad | monitor => exact does_boundedRequest s h
  | ident | get | status | vehicle | overlaySet | overlayDelete | faultctl | lock | collect | ctxSaveImmediate | ctxSaveSettled
  | displayEnable | displayDisable | powerPark | powerWake | powerReset => cases h; exact does_completeRequest s _ _ _

/-- A step is a command, or the clock's: nothing, a microsecond, or an event that is due. -/
theorem does_step {t : State} (h : step s = .next t) : Does s t := by
  unfold step at h; split at h
  · exact (Moves.quiet {}).then_does (does_exec _ _ h)
  · unfold idle at h; split at h
    · cases h; exact Moves.refl.does
    · cases h; exact (moves_setTimebase s _).does
    · exact does_exec s _ h
    · exact (Moves.quiet {}).then_does (does_exec { s with raceCount := s.raceCount + 1 } _ h)

end

end Sys2Proof.Proofs.StepMoves
end

section
set_option Elab.async false
/-! What the operations of the image blocks leave unchanged, and the two sets of identities element by element. -/

namespace Sys2Proof.Proofs.Blocks

open Sys2Proof Sys2Proof.Machine

section
variable (s : State) (sd : Side)

/-! ### Frames of the development pipeline -/

theorem unchanged_applyPending : Unchanged [.pipe sd, .glare sd] s (applyPending sd s) :=
  (Unchanged.refl.snoc (unchanged_setPipe s sd _)).snoc (unchanged_setGlare _ sd _)

theorem unchanged_applyLimits : Unchanged [.exposure sd, .port sd, .sent] s (applyLimits sd s) := by
  unfold applyLimits; simp only; split
  · exact .refl
  · exact (Unchanged.refl.snoc (unchanged_setExposure s sd _)).snoc (unchanged_deliverE _ sd)

theorem unchanged_beginDevelopment (f : Frame) (n : BufName) (drops : Bool) :
    Unchanged [.pipe sd, .glare sd, .exposure sd, .port sd, .sent] s (beginDevelopment sd f n drops s) :=
  ((Unchanged.refl.snoc (unchanged_applyPending s sd)).snoc (unchanged_applyLimits _ sd)).snoc (unchanged_setPipe _ sd _)

theorem unchanged_handOver (f : Frame) : Unchanged [.pipe sd, .glare sd, .exposure sd, .port sd, .sent] s (handOver sd f s) := by
  unfold handOver; simp only; split
  · exact unchanged_beginDevelopment s sd f _ _
  · exact Unchanged.refl.snoc (unchanged_setPipe s sd _)

theorem unchanged_finishDevelopment (d : InDevelopment) : Unchanged [.pipe sd] s (finishDevelopment sd d s) := unchanged_setPipe s sd _

theorem unchanged_startIntake : Unchanged [.pipe sd, .glare sd, .exposure sd, .port sd, .sent] s (startIntake sd s) := by
  unfold startIntake; split
  · exact .refl
  · exact (Unchanged.refl.snoc (unchanged_setPipe s sd _)).snoc (unchanged_handOver _ sd _)

theorem unchanged_finishStatistics (d : InDevelopment) (signature : BitVec 32) :
    Unchanged [.pipe sd] s (finishStatistics sd d signature s) := unchanged_setPipe s sd _

theorem unchanged_abandonDevelopment : Unchanged [.pipe sd] s (abandonDevelopment sd s) := unchanged_setPipe s sd _

/-! ### Frames of the compositor and the frame store -/

theorem unchanged_finishComposition (c : Composition) : Unchanged [.store sd, .pipe sd, .comp sd] s (finishComposition sd c s) := by
  unfold finishComposition; simp only; split
  · exact ((Unchanged.refl.snoc (unchanged_setStore s sd _)).snoc (unchanged_setPipe _ sd _)).snoc (unchanged_setComp _ sd _)
  · exact (Unchanged.refl.snoc (unchanged_setStore s sd _)).snoc (unchanged_setComp _ sd _)

theorem unchanged_releaseTaken : Unchanged [.pipe sd] s (releaseTaken sd s) := by
  unfold releaseTaken; split
  · exact unchanged_setPipe s sd _
  · exact .refl

theorem unchanged_abandonComposition : Unchanged [.pipe sd, .comp sd, .store sd] s (abandonComposition sd s) :=
  ((Unchanged.refl.snoc (unchanged_releaseTaken s sd)).snoc (unchanged_setComp _ sd _)).snoc (unchanged_setStore _ sd _)

theorem unchanged_writeSide (g : Group) (f : Fields) :
    Unchanged [.pipe sd, .glare sd, .comp sd] s (writeSide g f sd s).value := by
  cases g with
  | exposure | tone => exact Unchanged.refl.snoc (unchanged_setPipe s sd _)
  | glare => exact Unchanged.refl.snoc (unchanged_setGlare s sd _)
  | view => exact Unchanged.refl.snoc (unchanged_setComp s sd _)
  | _ => exact .refl

end

/-! ### The two sets, element by element (R112) -/

/-- The identity of a code. -/
def identityOf (c : Nat) : Option FaultId := FaultId.all.find? fun f => f.code == c

theorem identityOf_code (f : FaultId) : identityOf f.code = some f := by
  cases f with
  | vehicleInputStale | hostLinkError => rfl
  | _ sd => cases sd <;> rfl

theorem code_inj {f g : FaultId} : f.code = g.code ↔ f = g :=
  ⟨fun h => Option.some.inj (by rw [← identityOf_code f, h, identityOf_code]), congrArg _⟩

theorem code_lt (f : FaultId) : f.code < 64 := by
  cases f with
  | vehicleInputStale | hostLinkError => decide
  | _ sd => cases sd <;> decide

theorem getLsbD_bit {c : Nat} (h : c < 64) (i : Nat) : (1#64 <<< c).getLsbD i = decide (i = c) := by
  simp only [BitVec.getLsbD_shiftLeft, BitVec.getLsbD_one]
  by_cases hi : i = c
  · simp [hi, h]
  · by_cases hlt : i < c
    · simp [hi, hlt]
    · have : ¬i - c = 0 := by omega
      simp [hi, this]

theorem getLsbD_insert (x : FaultSet) (f : FaultId) (i : Nat) :
    (FaultSet.insert x f).getLsbD i = (x.getLsbD i || decide (i = f.code)) := by
  rw [FaultSet.insert, BitVec.getLsbD_or, getLsbD_bit (code_lt f)]

theorem getLsbD_erase (x : FaultSet) (f : FaultId) (i : Nat) :
    (FaultSet.erase x f).getLsbD i = (x.getLsbD i && !decide (i = f.code)) := by
  rw [FaultSet.erase, BitVec.getLsbD_and, BitVec.getLsbD_not, getLsbD_bit (code_lt f)]
  by_cases hi : i < 64
  · simp [hi]
  · simp [BitVec.getLsbD_of_ge x i (by omega)]

@[simp] theorem has_insert (x : FaultSet) (f g : FaultId) :
    FaultSet.has (FaultSet.insert x f) g = (FaultSet.has x g || decide (g = f)) := by
  simp only [FaultSet.has, getLsbD_insert, code_inj]

@[simp] theorem has_erase (x : FaultSet) (f g : FaultId) :
    FaultSet.has (FaultSet.erase x f) g = (FaultSet.has x g && !decide (g = f)) := by
  simp only [FaultSet.has, getLsbD_erase, code_inj]

@[simp] theorem has_zero (f : FaultId) : FaultSet.has 0 f = false := by simp [FaultSet.has]

/-- A set within another, bit by bit. -/
theorem and_not_eq_zero_iff {w : Nat} (x y : BitVec w) : x &&& ~~~y = 0 ↔ ∀ i, x.getLsbD i = true → y.getLsbD i = true := by
  constructor
  · intro h i hx
    have hi : (x &&& ~~~y).getLsbD i = false := by simp [h]
    rw [BitVec.getLsbD_and, BitVec.getLsbD_not] at hi
    simpa [hx, BitVec.lt_of_getLsbD hx] using hi
  · intro h
    refine BitVec.eq_of_getLsbD_eq fun i hi => ?_
    rw [BitVec.getLsbD_and, BitVec.getLsbD_not]
    cases hx : x.getLsbD i with
    | false => simp
    | true => simp [h i hx]

end Sys2Proof.Proofs.Blocks
end

section
set_option Elab.async false
/-! The laws of the panel: the fault sets and the masks (07), the lock (07), the displays and the power state (06, 10). -/

namespace Sys2Proof.Proofs.PanelLaws

open Sys2Proof Sys2Proof.Machine Sys2Proof.Proofs.StepMoves Sys2Proof.Proofs.Blocks

/-! ### What the image blocks' moves leave to the panel -/

/-- The pieces that a move of the image blocks can touch. -/
def blockParts : List Part :=
  [.pipe .left, .pipe .right, .exposure .left, .exposure .right, .glare .left, .glare .right, .comp .left, .comp .right,
    .store .left, .store .right, .port .left, .port .right, .sent]

theorem BlockMove.unchanged {s t : State} (h : BlockMove s t) : Unchanged blockParts s t := by
  cases h with
  | installExposure sd e gainR gainB => exact (unchanged_setExposure s sd _).mono (by cases sd <;> simp [blockParts])
  | installGlare sd grid tags => exact (unchanged_setGlare s sd _).mono (by cases sd <;> simp [blockParts])
  | updateGlare sd ns records => exact (unchanged_setGlare s sd _).mono (by cases sd <;> simp [blockParts])
  | adaptExposure sd ns settled m => exact (unchanged_setExposure s sd _).mono (by cases sd <;> simp [blockParts])
  | writeSide g f sd => exact (unchanged_writeSide s sd g f).mono (by cases sd <;> simp [blockParts])
  | putOverlay sd o hid hok => exact (unchanged_setComp s sd _).mono (by cases sd <;> simp [blockParts])
  | dropOverlay sd id => exact (unchanged_setComp s sd _).mono (by cases sd <;> simp [blockParts])
  | finishStatistics sd d signature hdev => exact (unchanged_setPipe s sd _).mono (by cases sd <;> simp [blockParts])
  | handOver sd f => exact (unchanged_handOver s sd f).mono (by cases sd <;> simp [blockParts])
  | finishDevelopment sd d hdev =>
    exact ((unchanged_finishDevelopment s sd d).mono (by cases sd <;> simp [blockParts])).trans
      ((unchanged_startIntake _ sd).mono (by cases sd <;> simp [blockParts]))
  | tryFrameStart sd => exact (unchanged_tryFrameStart s sd).mono (by cases sd <;> simp [blockParts])
  | finishComposition sd c hc => exact (unchanged_finishComposition s sd c).mono (by cases sd <;> simp [blockParts])
  | scanStore sd presented => exact (unchanged_setStore s sd _).mono (by cases sd <;> simp [blockParts])
  | abandonDevelopment sd => exact (unchanged_setPipe s sd _).mono (by cases sd <;> simp [blockParts])
  | abandonComposition sd => exact (unchanged_abandonComposition s sd).mono (by cases sd <;> simp [blockParts])

/-! ### The fault sets and the masks (R112, R123, R125) -/

/-- The law of the sets and of the masks, bit by bit. -/
structure SetsAndMasks (x : Faults) : Prop where
  accrued : ∀ i, x.current.getLsbD i = true → x.accrued.getLsbD i = true
  events : ∀ f : FaultId, f.isEvent = true → FaultSet.has x.current f = false
  masks : ∀ i, x.masks.getLsbD i = true → ClassSet.maskable.getLsbD i = true

theorem setsAndMasks_iff (s : State) : SetsLaw s ∧ MaskLaw s ↔ SetsAndMasks s.faults := by
  unfold SetsLaw MaskLaw
  rw [and_not_eq_zero_iff, and_not_eq_zero_iff]
  exact ⟨fun ⟨⟨ha, he⟩, hm⟩ => ⟨ha, he, hm⟩, fun ⟨ha, he, hm⟩ => ⟨⟨ha, he⟩, hm⟩⟩

section
variable {x y : Faults}

theorem SetsAndMasks.congr (h : SetsAndMasks x) (hc : y.current = x.current) (ha : y.accrued = x.accrued) (hm : y.masks = x.masks) :
    SetsAndMasks y :=
  ⟨by rw [hc, ha]; exact h.accrued, by rw [hc]; exact h.events, by rw [hm]; exact h.masks⟩

/-- A frame without the sets and the masks keeps the law. -/
theorem SetsAndMasks.of_unchanged {s t : State} {l : List Part} (hs : SetsAndMasks s.faults) (h : Unchanged l s t)
    (hl : .faultSets ∉ l ∧ .masks ∉ l) : SetsAndMasks t.faults :=
  hs.congr (h .faultSets hl.1).1 (h .faultSets hl.1).2 (h .masks hl.2)

theorem SetsAndMasks.cleared {f : FaultId} {s t : State} (hs : SetsAndMasks s.faults) (h : Cleared f s t)
    (hm : t.faults.masks = s.faults.masks) : SetsAndMasks t.faults where
  accrued i hi := by
    rw [h.1, getLsbD_erase, Bool.and_eq_true] at hi
    exact h.2 ▸ hs.accrued i hi.1
  events g hg := by rw [h.1, has_erase, hs.events g hg, Bool.false_and]
  masks := hm ▸ hs.masks

theorem SetsAndMasks.raised {f : FaultId} (hf : f.isEvent = false) {s t : State} (hs : SetsAndMasks s.faults) (h : Raised f s t)
    (hm : t.faults.masks = s.faults.masks) : SetsAndMasks t.faults := by
  unfold Raised at h
  split at h
  · exact hs.congr h.1 h.2 hm
  · obtain ⟨hc, ha⟩ := h
    refine ⟨fun i hi => ?_, fun g hg => ?_, hm ▸ hs.masks⟩
    · rw [hc, getLsbD_insert] at hi
      rw [ha, getLsbD_insert]
      cases hcur : s.faults.current.getLsbD i with
      | true => simp [hs.accrued i hcur]
      | false => exact (Bool.or_eq_true ..).mpr (.inr (by simpa [hcur] using hi))
    · have hne : g ≠ f := fun he => by simp [he, hf] at hg
      rw [hc, has_insert, hs.events g hg]
      simpa using hne

theorem raise_masks (f : FaultId) (s : State) : (raise f s).faults.masks = s.faults.masks := by
  cases hf : f.viewLossSide with
  | none => exact unchanged_raise s hf .masks (by simp)
  | some sd => exact unchanged_raise_viewLoss s sd hf .masks (by simp [faultParts])

theorem SetsAndMasks.clearFault {s : State} (hs : SetsAndMasks s.faults) (f : FaultId) : SetsAndMasks (clearFault f s).faults :=
  hs.cleared (clearFault_cleared f s) (unchanged_clearFault s f .masks (by simp))

end

theorem setsAndMasks_panelMove {s t : State} (h : PanelMove s t) (hs : SetsAndMasks s.faults) : SetsAndMasks t.faults := by
  cases h with
  | setPower | setDisplay | setRuns | setGroup | lock | setNight => exact hs.congr rfl rfl rfl
  | release => exact hs.congr rfl rfl rfl
  | changeDisplay sd new hold hnew hlive => exact hs.of_unchanged (unchanged_changeDisplay s sd hnew) (by simp)
  | completeWake sd identity hlink =>
    unfold completeWake
    refine SetsAndMasks.of_unchanged (SetsAndMasks.clearFault ?_ _) (unchanged_changeDisplay _ sd (by simp)) (by simp)
    exact hs.congr rfl rfl rfl
  | sleep sd d hsleep =>
    have slept : SetsAndMasks (s.setDisplay sd d).faults := hs
    exact slept.of_unchanged (unchanged_moveDark _ sd) (by simp)
  | clearViewPath sd hdark =>
    exact (((hs.clearFault (.viewStale sd)).clearFault (.displayLink sd)).clearFault (.displayPath sd)).congr rfl rfl rfl
  | raise f hf => exact hs.raised hf (raise_raised f s) (raise_masks f s)
  | raiseEvent f =>
    rw [raiseEvent_faults]
    refine ⟨fun i hi => ?_, hs.events, hs.masks⟩
    simp [getLsbD_insert, hs.accrued i hi]
  | clearFault f hpath hstale => exact hs.clearFault f
  | acknowledge clear =>
    refine ⟨fun i hi => ?_, hs.events, hs.masks⟩
    have hlt := BitVec.lt_of_getLsbD hi
    change s.faults.current.getLsbD i = true at hi
    simp [acknowledge, hs.accrued i hi, hi, hlt]
  | writeMasks presence values hlock =>
    refine ⟨hs.accrued, hs.events, fun i hi => ?_⟩
    have old := hs.masks i
    simp only [State.setFaults_faults, writtenMasks, BitVec.getLsbD_or, BitVec.getLsbD_and, BitVec.getLsbD_not, Bool.or_eq_true,
      Bool.and_eq_true] at hi
    rcases hi with hi | hi
    · exact old hi.1
    · exact hi.2.2
  | emptyCurrent => exact ⟨fun i hi => by simp [emptyCurrent] at hi, fun f _ => has_zero f, hs.masks⟩

theorem setsAndMasks_move {s t : State} (h : Move s t) (hs : SetsAndMasks s.faults) : SetsAndMasks t.faults := by
  cases h with
  | quiet h => exact hs.congr h.current h.accrued h.masks
  | block h => exact hs.of_unchanged (BlockMove.unchanged h) (by simp [blockParts])
  | panel h => exact setsAndMasks_panelMove h hs

theorem setsAndMasks_none_current {x : Faults} (hc : x.current = 0) (hm : x.masks = 0) : SetsAndMasks x :=
  ⟨fun i hi => by simp [hc] at hi, fun f _ => by rw [hc]; exact has_zero f, fun i hi => by simp [hm] at hi⟩

/-- Settles O4: each move keeps the law of the sets and the masks, and a reset empties the current set and the masks. -/
theorem stepKeepsTheFaultSets : Obligations.StepKeepsTheFaultSets := by
  intro s t hs h
  rw [setsAndMasks_iff] at hs ⊢
  exact (does_step s h).keeps (P := fun u => SetsAndMasks u.faults) (fun _ _ => setsAndMasks_move)
    (fun _ _ _ => setsAndMasks_none_current rfl rfl) (fun _ _ _ => setsAndMasks_none_current rfl rfl) hs

/-! ### The lock (R127) -/

/-- From s to t the lock, the FAULT group and the masks stand. -/
structure LockStands (s t : State) : Prop where
  locked : t.faults.locked = s.faults.locked
  group : t.faults.group = s.faults.group
  masks : t.faults.masks = s.faults.masks

section
variable {s t u : State}

theorem LockStands.trans (h : LockStands s t) (h' : LockStands t u) : LockStands s u :=
  ⟨h'.locked.trans h.locked, h'.group.trans h.group, h'.masks.trans h.masks⟩

theorem LockStands.of_unchanged {l : List Part} (h : Unchanged l s t) (hl : .lock ∉ l ∧ .faultGroup ∉ l ∧ .masks ∉ l) : LockStands s t :=
  ⟨h .lock hl.1, h .faultGroup hl.2.1, h .masks hl.2.2⟩

theorem lockStands_panelMove (h : PanelMove s t) (hs : s.faults.locked = true) : LockStands s t := by
  cases h with
  | setPower | release | setDisplay | setRuns | setNight | acknowledge | emptyCurrent => exact ⟨rfl, rfl, rfl⟩
  | changeDisplay sd new hold hnew hlive => exact .of_unchanged (unchanged_changeDisplay s sd hnew) (by simp)
  | completeWake sd identity hlink =>
    have woken (d : Display) (r : Runs) : LockStands s ((s.setDisplay sd d).setRuns sd r) := ⟨rfl, rfl, rfl⟩
    unfold completeWake
    refine LockStands.trans ?_ (.of_unchanged (unchanged_changeDisplay _ sd (by simp)) (by simp))
    exact (woken _ _).trans (.of_unchanged (unchanged_clearFault _ _) (by simp))
  | sleep sd d hsleep =>
    have slept : LockStands s (s.setDisplay sd d) := ⟨rfl, rfl, rfl⟩
    exact slept.trans (.of_unchanged (unchanged_moveDark _ sd) (by simp))
  | clearViewPath sd hdark => exact .of_unchanged (unchanged_clearViewPath s sd) (by simp)
  | raise f hf =>
    cases hside : f.viewLossSide with
    | none => exact .of_unchanged (unchanged_raise s hside) (by simp)
    | some sd => exact .of_unchanged (unchanged_raise_viewLoss s sd hside) (by simp [faultParts])
  | raiseEvent f => exact .of_unchanged (unchanged_raiseEvent s f) (by simp)
  | clearFault f hpath hstale => exact .of_unchanged (unchanged_clearFault s f) (by simp)
  | writeMasks presence values hlock => exact ⟨rfl, rfl, hlock hs⟩
  | setGroup g hlock => simp [hs] at hlock
  | lock => exact ⟨hs.symm, rfl, rfl⟩

theorem lockStands_moves (h : Moves s t) (hs : s.faults.locked = true) : LockStands s t := by
  induction h with
  | refl => exact ⟨rfl, rfl, rfl⟩
  | tail _ hmove ih =>
    refine ih.trans ?_
    cases hmove with
    | quiet h => exact ⟨h.locked, h.group, h.masks⟩
    | block h => exact .of_unchanged (BlockMove.unchanged h) (by simp [blockParts])
    | panel h => exact lockStands_panelMove h (ih.locked.trans hs)

end

/-- Settles O10: every move under the lock leaves the lock, the group and the masks, and only the beginning of a reset ends an event
otherwise. -/
theorem lockHoldsUntilReset : Obligations.LockHoldsUntilReset := by
  intro c s t hs h
  obtain ⟨u, hu, hend⟩ := does_exec s c h
  have stands := lockStands_moves hu hs
  cases hend with
  | here => exact .inl ⟨stands.locked.trans hs, stands.group, stands.masks⟩
  | held h hh => exact .inr ⟨rfl, hh⟩
  | partReset pin => exact .inr ⟨rfl, by simp [beginPartReset, heldState]⟩

end Sys2Proof.Proofs.PanelLaws
end

section
set_option Elab.async false
/-! The law of the display ports and of the power state (06, 10): one display's law reads its port, its side's runs, the current set, the
backlight target and the hold, so it is stated of those and each move of the panel is judged by what it does to them. -/

namespace Sys2Proof.Proofs.DisplayLaw

open Sys2Proof Sys2Proof.Machine Sys2Proof.Proofs.StepMoves Sys2Proof.Proofs.Blocks Sys2Proof.Proofs.PanelLaws

/-! ### The law of one side -/

/-- The law of one display port, from what it reads. -/
structure SideLaw (sd : Side) (d : Display) (r : Runs) (current : FaultSet) (target : Nat) (hold : Hold) : Prop where
  dark : d.state = .dark ↔ d.link ≠ .synced
  lost : d.state = .live → FaultSet.has current (.sensorLost sd) = false
  frozen : d.state = .live → FaultSet.has current (.frozen sd) = false
  stale : d.state = .live → FaultSet.has current (.viewStale sd) = false
  echo : d.echoList.length ≤ 4
  out : d.outQueue.length ≤ 4
  backlight : d.backlight ≤ 1023
  target : target ≤ 1023
  off : hold ≠ .released → d.link = .off
  pathMatch : FaultSet.has current (.displayPath sd) = false → r.pathMatch = 0
  staleClear : FaultSet.has current (.viewStale sd) = false ∨ d.state = .dark → r.staleClear = 0

/-- The law of every display port and of the power state. -/
structure PanelLaw (s : State) : Prop where
  side : ∀ sd, SideLaw sd (s.display sd) (s.runs sd) s.faults.current (s.night.target.get sd) s.power.hold
  power : s.power.state = .off ↔ s.power.hold ≠ .released

theorem viewLoss_eq_false_iff (x : Faults) (sd : Side) :
    x.viewLoss sd = false ↔ FaultSet.has x.current (.sensorLost sd) = false ∧ FaultSet.has x.current (.frozen sd) = false
      ∧ FaultSet.has x.current (.viewStale sd) = false := by
  simp [Faults.viewLoss, and_assoc]

theorem panelLaw_iff (s : State) : DisplayLaw s ∧ PowerLaw s ↔ PanelLaw s := by
  constructor
  · rintro ⟨hd, hp⟩
    refine ⟨fun sd => ?_, hp⟩
    obtain ⟨hdark, hlive, hecho, hout, hback, htarget, hoff, hpath, hstale⟩ := hd sd
    have losses h := (viewLoss_eq_false_iff _ _).mp (hlive h)
    exact ⟨hdark, fun h => (losses h).1, fun h => (losses h).2.1, fun h => (losses h).2.2, hecho, hout, hback, htarget, hoff, hpath,
      hstale⟩
  · rintro ⟨hside, hp⟩
    refine ⟨fun sd => ?_, hp⟩
    obtain ⟨hdark, hlost, hfrozen, hviewStale, hecho, hout, hback, htarget, hoff, hpath, hstale⟩ := hside sd
    exact ⟨hdark, fun h => (viewLoss_eq_false_iff _ _).mpr ⟨hlost h, hfrozen h, hviewStale h⟩, hecho, hout, hback, htarget, hoff, hpath,
      hstale⟩

/-! ### Changes of what one display's law reads -/

section
variable {sd : Side} {d : Display} {r : Runs} {current : FaultSet} {target : Nat} {hold : Hold}

/-- More faults current, none of them a view loss of a LIVE display. -/
theorem SideLaw.more (h : SideLaw sd d r current target hold) {current' : FaultSet}
    (hmore : ∀ f, FaultSet.has current f = true → FaultSet.has current' f = true)
    (hsame : d.state = .live → ∀ f, f.viewLossSide = some sd → FaultSet.has current' f = FaultSet.has current f) :
    SideLaw sd d r current' target hold :=
  have fewer {f : FaultId} (hf : FaultSet.has current' f = false) : FaultSet.has current f = false := by
    cases hc : FaultSet.has current f with
    | false => rfl
    | true => rw [hmore f hc] at hf; exact hf
  { h with
    lost := fun hl => (hsame hl _ rfl).trans (h.lost hl)
    frozen := fun hl => (hsame hl _ rfl).trans (h.frozen hl)
    stale := fun hl => (hsame hl _ rfl).trans (h.stale hl)
    pathMatch := fun hf => h.pathMatch (fewer hf)
    staleClear := fun hf => h.staleClear (hf.imp_left fewer) }

/-- One fault less, the run that hangs on it 0. -/
theorem SideLaw.erase (h : SideLaw sd d r current target hold) (f : FaultId) (hpath : f = .displayPath sd → r.pathMatch = 0)
    (hstale : f = .viewStale sd → r.staleClear = 0) : SideLaw sd d r (FaultSet.erase current f) target hold where
  dark := h.dark
  lost hl := by simp [h.lost hl]
  frozen hl := by simp [h.frozen hl]
  stale hl := by simp [h.stale hl]
  echo := h.echo
  out := h.out
  backlight := h.backlight
  target := h.target
  off := h.off
  pathMatch hf := by
    rw [has_erase, Bool.and_eq_false_iff] at hf
    exact hf.elim h.pathMatch fun he => hpath (by simpa using he : _ = f).symm
  staleClear hf := by
    rw [has_erase, Bool.and_eq_false_iff] at hf
    exact (or_assoc.mp hf).elim (fun hc => h.staleClear (.inl hc))
      fun he => he.elim (fun he => hstale (by simpa using he : _ = f).symm) fun hd => h.staleClear (.inr hd)

/-- An update that keeps the state and the bounds. -/
theorem SideLaw.kept (h : SideLaw sd d r current target hold) {d' : Display} (hd : DisplayKept d d') :
    SideLaw sd d' r current target hold where
  dark := by
    rw [hd.state, h.dark]
    rcases hd.link with hlink | ⟨-, hns, hns'⟩
    · rw [hlink]
    · exact iff_of_true hns hns'
  lost := hd.state ▸ h.lost
  frozen := hd.state ▸ h.frozen
  stale := hd.state ▸ h.stale
  echo := hd.echo h.echo
  out := hd.out h.out
  backlight := hd.backlight h.backlight
  target := h.target
  off hh := by
    rcases hd.link with hlink | ⟨hno, -, -⟩
    · exact hlink.trans (h.off hh)
    · exact absurd (h.off hh) hno
  pathMatch := h.pathMatch
  staleClear := hd.state ▸ h.staleClear

/-- A move between display states of a SYNCED link, into LIVE without a view loss. -/
theorem SideLaw.moved (h : SideLaw sd d r current target hold) {d' : Display} (hold : d.state ≠ .dark) (hnew : d'.state ≠ .dark)
    (hlive : d'.state = .live → ∀ f, f.viewLossSide = some sd → FaultSet.has current f = false)
    (hlink : d'.link = d.link := by rfl) (hecho : d'.echoList = d.echoList := by rfl) (hout : d'.outQueue = d.outQueue := by rfl)
    (hback : d'.backlight = d.backlight := by rfl) : SideLaw sd d' r current target ‹Hold› where
  dark := iff_of_false hnew fun hl => hold (h.dark.mpr (hlink ▸ hl))
  lost hl := hlive hl _ rfl
  frozen hl := hlive hl _ rfl
  stale hl := hlive hl _ rfl
  echo := hecho ▸ h.echo
  out := hout ▸ h.out
  backlight := hback ▸ h.backlight
  target := h.target
  off hh := hlink.trans (h.off hh)
  pathMatch := h.pathMatch
  staleClear hf := h.staleClear (hf.imp_right fun hd => absurd hd hnew)

/-- The runs of a side updated. -/
theorem SideLaw.runs (h : SideLaw sd d r current target hold) {r' : Runs}
    (hpath : r'.pathMatch = r.pathMatch ∨ r'.pathMatch = 0 ∨ FaultSet.has current (.displayPath sd) = true)
    (hstale : r'.staleClear = r.staleClear ∨ r'.staleClear = 0
      ∨ (FaultSet.has current (.viewStale sd) = true ∧ d.link = .synced)) : SideLaw sd d r' current target hold :=
  { h with
    pathMatch := fun hf => by
      rcases hpath with he | he | he
      · exact he.trans (h.pathMatch hf)
      · exact he
      · simp [hf] at he
    staleClear := fun hf => by
      rcases hstale with he | he | ⟨he, hlink⟩
      · exact he.trans (h.staleClear hf)
      · exact he
      · have hdark : d.state ≠ .dark := fun hd => h.dark.mp hd hlink
        simp [he, hdark] at hf }

/-- A link gone to sleep with its display DARK and the clear run 0. -/
theorem SideLaw.slept (h : SideLaw sd d r current target hold) {d' : Display} {r' : Runs} (hdark : d'.state = .dark)
    (hlink : d'.link ≠ .synced) (hoff : d.link = .off → d'.link = .off) (hecho : d'.echoList = d.echoList)
    (hout : d'.outQueue = d.outQueue) (hback : d'.backlight = d.backlight) (hpath : r'.pathMatch = r.pathMatch)
    (hstale : r'.staleClear = 0) : SideLaw sd d' r' current target hold where
  dark := iff_of_true hdark hlink
  lost hl := by simp [hdark] at hl
  frozen hl := by simp [hdark] at hl
  stale hl := by simp [hdark] at hl
  echo := hecho ▸ h.echo
  out := hout ▸ h.out
  backlight := hback ▸ h.backlight
  target := h.target
  off hh := hoff (h.off hh)
  pathMatch hf := hpath.trans (h.pathMatch hf)
  staleClear _ := hstale

/-- A link that reaches SYNCED, its display leaving DARK, with no hold. -/
theorem SideLaw.woken (h : SideLaw sd d r current target hold) {d' : Display} {r' : Runs} (hlink : d'.link = .synced)
    (hstate : d'.state = .priming) (hecho : d'.echoList = []) (hout : d'.outQueue = d.outQueue) (hback : d'.backlight = d.backlight)
    (hhold : ¬hold ≠ .released) (hpath : r'.pathMatch = 0) (hstale : r'.staleClear = 0) :
    SideLaw sd d' r' current target hold where
  dark := iff_of_false (by simp [hstate]) (by simp [hlink])
  lost hl := by simp [hstate] at hl
  frozen hl := by simp [hstate] at hl
  stale hl := by simp [hstate] at hl
  echo := by simp [hecho]
  out := hout ▸ h.out
  backlight := hback ▸ h.backlight
  target := h.target
  off hh := absurd hh hhold
  pathMatch _ := hpath
  staleClear _ := hstale

/-- A display port and its runs at their reset values but for the level. -/
theorem sideLaw_dark {d : Display} (hdark : d.state = .dark) (hlink : d.link ≠ .synced) (hecho : d.echoList = []) (hout : d.outQueue = [])
    (hback : d.backlight ≤ 1023) (htarget : target ≤ 1023) (hoff : hold ≠ .released → d.link = .off) (hpath : r.pathMatch = 0)
    (hstale : r.staleClear = 0) : SideLaw sd d r current target hold where
  dark := iff_of_true hdark hlink
  lost hl := by simp [hdark] at hl
  frozen hl := by simp [hdark] at hl
  stale hl := by simp [hdark] at hl
  echo := by simp [hecho]
  out := by simp [hout]
  backlight := hback
  target := htarget
  off := hoff
  pathMatch _ := hpath
  staleClear _ := hstale

end

/-! ### Changes of one side's display or runs -/

section
variable {s : State} {sd : Side}

/-- A state that differs in what one side's law reads, at most in that side. -/
theorem PanelLaw.at_side (hs : PanelLaw s) {t : State}
    (hside : SideLaw sd (t.display sd) (t.runs sd) t.faults.current (t.night.target.get sd) t.power.hold)
    (hother : ∀ sd', sd' ≠ sd → t.display sd' = s.display sd' ∧ t.runs sd' = s.runs sd')
    (hcurrent : t.faults.current = s.faults.current) (hnight : t.night = s.night) (hpower : t.power = s.power) : PanelLaw t where
  side sd' := by
    by_cases he : sd' = sd
    · exact he ▸ hside
    · rw [(hother sd' he).1, (hother sd' he).2, hcurrent, hnight, hpower]; exact hs.side sd'
  power := by rw [hpower]; exact hs.power

theorem PanelLaw.setDisplay (hs : PanelLaw s) {d : Display}
    (h : SideLaw sd d (s.runs sd) s.faults.current (s.night.target.get sd) s.power.hold) : PanelLaw (s.setDisplay sd d) :=
  hs.at_side (sd := sd) (by simpa using h) (fun sd' he => ⟨by simp [he], rfl⟩) rfl rfl rfl

theorem PanelLaw.setRuns (hs : PanelLaw s) {r : Runs}
    (h : SideLaw sd (s.display sd) r s.faults.current (s.night.target.get sd) s.power.hold) : PanelLaw (s.setRuns sd r) :=
  hs.at_side (sd := sd) (by simpa using h) (fun sd' he => ⟨rfl, by simp [he]⟩) rfl rfl rfl

/-- A frame without what the law reads keeps it. -/
theorem PanelLaw.of_unchanged (hs : PanelLaw s) {t : State} {l : List Part} (h : Unchanged l s t)
    (hl : ∀ sd, .display sd ∉ l ∧ .runs sd ∉ l) (hl' : .faultSets ∉ l ∧ .night ∉ l ∧ .power ∉ l) : PanelLaw t where
  side sd := by
    rw [h (.display sd) (hl sd).1, h (.runs sd) (hl sd).2, (h .faultSets hl'.1).1, h .night hl'.2.1, h .power hl'.2.2]
    exact hs.side sd
  power := by rw [h .power hl'.2.2]; exact hs.power

theorem PanelLaw.clearFault (hs : PanelLaw s) (f : FaultId) (hpath : ∀ sd, f = .displayPath sd → (s.runs sd).pathMatch = 0)
    (hstale : ∀ sd, f = .viewStale sd → (s.runs sd).staleClear = 0) : PanelLaw (clearFault f s) := by
  have frame := unchanged_clearFault s f
  have hcurrent := (clearFault_cleared f s).1
  refine ⟨fun sd => ?_, by rw [frame .power (by simp)]; exact hs.power⟩
  rw [frame (.display sd) (by simp), frame (.runs sd) (by simp), frame .night (by simp), frame .power (by simp), hcurrent]
  exact (hs.side sd).erase f (hpath sd) (hstale sd)

/-- A change of display state that reaches no further than its side. -/
theorem PanelLaw.changeDisplay (hs : PanelLaw s) {new : DisplayState} (hold : (s.display sd).state ≠ .dark) (hnew : new ≠ .dark)
    (hlive : new = .live → s.faults.viewLoss sd = false) : PanelLaw (changeDisplay sd new s) := by
  have frame := unchanged_changeDisplay s sd hnew
  refine hs.at_side (sd := sd) ?_ (fun sd' he => ⟨frame (.display sd') (by simp [he]), frame (.runs sd') (by simp)⟩)
    (frame .faultSets (by simp)).1 (frame .night (by simp)) (frame .power (by simp))
  rw [changeDisplay_display, frame (.runs sd) (by simp), (frame .faultSets (by simp)).1, frame .night (by simp), frame .power (by simp)]
  refine (hs.side sd).moved hold hnew fun hl f hf => ?_
  obtain ⟨hlost, hfrozen, hstale⟩ := (viewLoss_eq_false_iff _ _).mp (hlive hl)
  cases f <;> simp only [FaultId.viewLossSide, Option.some.injEq, reduceCtorEq] at hf <;> subst hf <;> assumption

/-- The clear run of a DARK display is 0 after a move to DARK, if it was before. -/
theorem moveDark_runs : ((moveDark sd s).runs sd).pathMatch = (s.runs sd).pathMatch
    ∧ ((s.display sd).state = .dark → (s.runs sd).staleClear = 0 → ((moveDark sd s).runs sd).staleClear = 0)
    ∧ ((s.display sd).state ≠ .dark → ((moveDark sd s).runs sd).staleClear = 0) := by
  unfold moveDark; split
  · next h => exact ⟨rfl, fun _ h' => h', fun h' => absurd h h'⟩
  · next h => exact ⟨by simp [Machine.changeDisplay], fun h' => absurd h' h, fun _ => by simp [Machine.changeDisplay]⟩

theorem PanelLaw.sleep (hs : PanelLaw s) {d : Display} (hd : Sleeps (s.display sd) d) : PanelLaw (moveDark sd (s.setDisplay sd d)) := by
  have frame := unchanged_moveDark (s.setDisplay sd d) sd
  have hdisplay := moveDark_display sd (s.setDisplay sd d)
  obtain ⟨hpath, hkept, hzero⟩ := moveDark_runs (s := s.setDisplay sd d) (sd := sd)
  refine hs.at_side (sd := sd) ?_
    (fun sd' he => ⟨(frame (.display sd') (by simp [he])).trans (by simp [he]), frame (.runs sd') (by simp [he])⟩)
    (frame .faultSets (by simp)).1 (frame .night (by simp)) (frame .power (by simp))
  rw [(frame .faultSets (by simp)).1, frame .night (by simp), frame .power (by simp)]
  have hdark := hdisplay.1
  rw [State.setDisplay_display] at hdisplay hkept hzero
  have port : ∃ (state : DisplayState) (count : Nat),
      (moveDark sd (s.setDisplay sd d)).display sd = { d with state := state, holdCount := count } := by
    rw [hdisplay.2]; split
    · exact ⟨d.state, d.holdCount, rfl⟩
    · exact ⟨_, _, rfl⟩
  obtain ⟨state, count, hport⟩ := port
  refine (hs.side sd).slept hdark (hport ▸ hd.link) (hport ▸ hd.off) (hport ▸ hd.echo) (hport ▸ hd.out) (hport ▸ hd.backlight) hpath ?_
  by_cases hd' : d.state = .dark
  · exact hkept hd' ((hs.side sd).staleClear (.inr (hd.state ▸ hd')))
  · exact hzero hd'

/-! ### Raises -/

/-- A raise that is no view loss only adds to the current set. -/
theorem PanelLaw.raise_common (hs : PanelLaw s) {f : FaultId} (hf : f.viewLossSide = none) : PanelLaw (raise f s) := by
  have frame := unchanged_raise s hf
  refine ⟨fun sd => ?_, by rw [frame .power (by simp)]; exact hs.power⟩
  rw [frame (.display sd) (by simp), frame (.runs sd) (by simp), frame .night (by simp), frame .power (by simp)]
  rw [raise_faults hf]; split
  · exact hs.side sd
  · refine (hs.side sd).more (fun g hg => by simp [hg]) fun _ g hg => ?_
    have hne : g ≠ f := fun he => by simp [he, hf] at hg
    simp [hne]

/-- A raise of a view loss moves a LIVE display of its side out of LIVE. -/
theorem PanelLaw.raise_viewLoss (hs : PanelLaw s) {f : FaultId} (hf : f.viewLossSide = some sd) : PanelLaw (raise f s) := by
  unfold Machine.raise; split
  · exact hs
  · simp only [hf]
    generalize hu : reportFault f (.faultRaised f false)
      (s.setFaults { s.faults with current := FaultSet.insert s.faults.current f, accrued := FaultSet.insert s.faults.accrued f }) = u
    have frame := unchanged_reportFault
      (s.setFaults { s.faults with current := FaultSet.insert s.faults.current f, accrued := FaultSet.insert s.faults.accrued f }) f
      (.faultRaised f false)
    rw [hu] at frame
    have hdisplay (sd' : Side) : u.display sd' = s.display sd' := frame (.display sd') (by simp)
    have hcurrent : u.faults.current = FaultSet.insert s.faults.current f := (frame .faultSets (by simp)).1
    have hruns (sd' : Side) : u.runs sd' = s.runs sd' := frame (.runs sd') (by simp)
    have hnight : u.night = s.night := frame .night (by simp)
    have hpower : u.power = s.power := frame .power (by simp)
    have grown (sd' : Side) (d : Display)
        (h : SideLaw sd' d (s.runs sd') s.faults.current (s.night.target.get sd') s.power.hold)
        (hlive : sd' = sd → d.state ≠ .live) :
        SideLaw sd' d (u.runs sd') u.faults.current (u.night.target.get sd') u.power.hold := by
      rw [hruns, hcurrent, hnight, hpower]
      refine h.more (fun g hg => by simp [hg]) fun hl g hg => ?_
      have hne : g ≠ f := fun he => hlive (by simpa [he, hf] using hg.symm) hl
      simp [hne]
    have others : ∀ sd', sd' ≠ sd → SideLaw sd' (u.display sd') (u.runs sd') u.faults.current (u.night.target.get sd') u.power.hold :=
      fun sd' he => by rw [hdisplay]; exact grown sd' _ (hs.side sd') fun he' => absurd he' he
    have frame' := unchanged_viewLossRaised u sd
    refine ⟨fun sd' => ?_, ?_⟩
    · rw [frame' (.runs sd') (by simp), (frame' .faultSets (by simp)).1, frame' .night (by simp), frame' .power (by simp)]
      by_cases he : sd' = sd
      · subst he
        refine grown sd' _ ?_ fun _ => viewLossRaised_not_live sd' u
        unfold viewLossRaised
        rw [hdisplay]
        split
        · next hl =>
          have hold : (s.display sd').state ≠ .dark := by simp [hl]
          split <;> rw [changeDisplay_display, hdisplay] <;> exact (hs.side sd').moved hold (by simp) (by simp)
        · rw [hdisplay]; exact hs.side sd'
      · rw [frame' (.display sd') (by simp [he])]; exact others sd' he
    · rw [frame' .power (by simp), hpower]; exact hs.power

theorem PanelLaw.raise (hs : PanelLaw s) (f : FaultId) : PanelLaw (raise f s) := by
  cases hf : f.viewLossSide with
  | none => exact hs.raise_common hf
  | some sd => exact hs.raise_viewLoss hf

/-! ### A link that wakes, and the clears of a disabled display -/

/-- The state before the display's move as a READY is taken. -/
theorem completeWake_eq (sd : Side) (identity : BitVec 32) (s : State) :
    ∃ u : State, completeWake sd identity s = Machine.changeDisplay sd .priming u
      ∧ u.display sd = { s.display sd with
          identity := some identity, wakeDeadline := none, wakeAttempt := 0, echoList := [], silence := 0,
          nextScan := some (s.later scanPeriod), link := .synced }
      ∧ u.runs sd = { s.runs sd with pathMatch := 0, staleClear := 0 }
      ∧ u.faults.current = FaultSet.erase s.faults.current (.displayLink sd) ∧ u.night = s.night ∧ u.power = s.power
      ∧ ∀ sd', sd' ≠ sd → u.display sd' = s.display sd' ∧ u.runs sd' = s.runs sd' := by
  refine ⟨_, rfl, ?_, ?_, (clearFault_cleared _ _).1, ?_, ?_, fun sd' he => ⟨?_, ?_⟩⟩
  · exact (unchanged_clearFault _ _ (.display sd) (by simp)).trans (by simp)
  · exact (unchanged_clearFault _ _ (.runs sd) (by simp)).trans (by simp)
  · exact unchanged_clearFault _ _ .night (by simp)
  · exact unchanged_clearFault _ _ .power (by simp)
  · exact (unchanged_clearFault _ _ (.display sd') (by simp)).trans (by simp [he])
  · exact (unchanged_clearFault _ _ (.runs sd') (by simp)).trans (by simp [he])

theorem clearViewPath_runs (sd : Side) (s : State) :
    (Machine.clearViewPath sd s).runs sd = { s.runs sd with pathMatch := 0 } := by
  have cleared (f : FaultId) (u : State) : (Machine.clearFault f u).runs sd = u.runs sd := unchanged_clearFault u f (.runs sd) (by simp)
  simp [Machine.clearViewPath, cleared]

/-- READY moves a DARK display to PRIMING as its link reaches SYNCED (R100): one step for the law, which does not hold between the two. -/
theorem PanelLaw.completeWake (hs : PanelLaw s) (identity : BitVec 32) (hlink : (s.display sd).link = .waking) :
    PanelLaw (completeWake sd identity s) := by
  have awake : ¬s.power.hold ≠ .released := fun hh => by
    have hoff := (hs.side sd).off hh
    simp [hlink] at hoff
  obtain ⟨u, hu, hd, hr, hcurrent, hnight, hpower, hother⟩ := completeWake_eq sd identity s
  have frame := unchanged_changeDisplay u sd (new := .priming) (by simp)
  rw [hu]
  refine ⟨fun sd' => ?_, by rw [frame .power (by simp), hpower]; exact hs.power⟩
  rw [frame (.runs sd') (by simp), (frame .faultSets (by simp)).1, frame .night (by simp), frame .power (by simp), hcurrent, hnight, hpower]
  by_cases he : sd' = sd
  · subst he
    rw [changeDisplay_display, hr, hd]
    refine SideLaw.erase (SideLaw.woken (hs.side sd') ?_ ?_ ?_ ?_ ?_ awake ?_ ?_) _ nofun nofun <;> rfl
  · rw [frame (.display sd') (by simp [he]), (hother sd' he).1, (hother sd' he).2]
    exact (hs.side sd').erase _ nofun nofun

/-- The clears leave the match run at 0, and the clear run of a DARK display is 0 before them. -/
theorem PanelLaw.clearViewPath (hs : PanelLaw s) (hdark : (s.display sd).state = .dark) : PanelLaw (clearViewPath sd s) := by
  have hstale : (s.runs sd).staleClear = 0 := (hs.side sd).staleClear (.inr hdark)
  have frame := unchanged_clearViewPath s sd
  have hcurrent : (Machine.clearViewPath sd s).faults.current
      = FaultSet.erase (FaultSet.erase (FaultSet.erase s.faults.current (.viewStale sd)) (.displayLink sd)) (.displayPath sd) := by
    change (Machine.clearFault _ (Machine.clearFault _ (Machine.clearFault _ s))).faults.current = _
    rw [(clearFault_cleared _ _).1, (clearFault_cleared _ _).1, (clearFault_cleared _ _).1]
  refine ⟨fun sd' => ?_, by rw [frame .power (by simp)]; exact hs.power⟩
  rw [frame (.display sd') (by simp), frame .night (by simp), frame .power (by simp), hcurrent]
  by_cases he : sd' = sd
  · subst he
    rw [clearViewPath_runs]
    have zeroed := (hs.side sd').runs (r' := { s.runs sd' with pathMatch := 0 }) (.inr (.inl rfl)) (.inl rfl)
    exact ((zeroed.erase (.viewStale sd') nofun fun _ => hstale).erase (.displayLink sd') nofun nofun).erase _ (fun _ => rfl) nofun
  · rw [frame (.runs sd') (by simp [he])]
    have hne : sd ≠ sd' := Ne.symm he
    exact (((hs.side sd').erase (.viewStale sd) nofun (by simp [hne])).erase (.displayLink sd) nofun nofun).erase _ (by simp [hne]) nofun

end

/-! ### Every move -/

theorem panelLaw_panelMove {s t : State} (h : PanelMove s t) (hs : PanelLaw s) : PanelLaw t := by
  cases h with
  | setPower v hstate hhold =>
    have hiff : v.hold ≠ .released ↔ s.power.hold ≠ .released := not_congr hhold
    exact ⟨fun sd => { hs.side sd with off := fun hh => (hs.side sd).off (hiff.mp hh) }, hstate.trans (hs.power.trans hiff.symm)⟩
  | release v hheld hstate hhold =>
    refine ⟨fun sd => ?_, iff_of_false hstate (by simpa using hhold)⟩
    have hlink : (((openMonitorLinks s).setPower v).display sd) = { s.display sd with link := .hibernate } := by
      cases sd <;> simp [openMonitorLinks]
    have hdark : (s.display sd).state = .dark := (hs.side sd).dark.mpr (by simp [(hs.side sd).off hheld])
    rw [hlink]
    exact
      { hs.side sd with
        dark := iff_of_true hdark (by simp)
        lost := fun hl => by simp [hdark] at hl
        frozen := fun hl => by simp [hdark] at hl
        stale := fun hl => by simp [hdark] at hl
        off := fun hh => absurd hhold hh }
  | setDisplay sd d hd => exact hs.setDisplay ((hs.side sd).kept hd)
  | changeDisplay sd new hold hnew hlive => exact hs.changeDisplay hold hnew hlive
  | completeWake sd identity hlink => exact hs.completeWake identity hlink
  | sleep sd d hd => exact hs.sleep hd
  | clearViewPath sd hdark => exact hs.clearViewPath hdark
  | raise f hf => exact hs.raise f
  | raiseEvent f =>
    have frame := unchanged_raiseEvent s f
    refine ⟨fun sd => ?_, by rw [frame .power (by simp)]; exact hs.power⟩
    rw [frame (.display sd) (by simp), frame (.runs sd) (by simp), frame .night (by simp), frame .power (by simp), raiseEvent_faults]
    exact hs.side sd
  | clearFault f hpath hstale => exact hs.clearFault f hpath hstale
  | setRuns sd r hr => exact hs.setRuns ((hs.side sd).runs hr.pathMatch hr.staleClear)
  | acknowledge clear => exact ⟨hs.side, hs.power⟩
  | writeMasks => exact ⟨hs.side, hs.power⟩
  | setGroup => exact ⟨hs.side, hs.power⟩
  | lock => exact ⟨hs.side, hs.power⟩
  | emptyCurrent =>
    refine ⟨fun sd => ?_, hs.power⟩
    have hzero : (emptyCurrent s).runs sd = .zero := by cases sd <;> rfl
    rw [hzero]
    exact
      { hs.side sd with
        lost := fun _ => has_zero _
        frozen := fun _ => has_zero _
        stale := fun _ => has_zero _
        pathMatch := fun _ => rfl
        staleClear := fun _ => rfl }
  | setNight v hv => exact ⟨fun sd => { hs.side sd with target := hv sd (hs.side sd).target }, hs.power⟩

theorem panelLaw_move {s t : State} (h : Move s t) (hs : PanelLaw s) : PanelLaw t := by
  cases h with
  | quiet h =>
    refine ⟨fun sd => ?_, by rw [h.state, h.hold]; exact hs.power⟩
    rw [h.display, h.runs, h.current, h.target, h.hold]
    exact hs.side sd
  | block h => exact hs.of_unchanged (BlockMove.unchanged h) (by simp [blockParts]) (by simp [blockParts])
  | panel h => exact panelLaw_panelMove h hs

theorem panelLaw_heldState (s : State) {h : Hold} (hh : h ≠ .released) : PanelLaw (heldState h s) where
  side sd := by cases sd <;> exact sideLaw_dark rfl nofun rfl rfl (Nat.le_of_ble_eq_true rfl) (Nat.le_of_ble_eq_true rfl) (fun _ => rfl) rfl rfl
  power := iff_of_true rfl hh

theorem panelLaw_beginPartReset (s : State) (pin : Bool) (hs : PanelLaw s) : PanelLaw (beginPartReset pin s) where
  side sd := by
    have hback : (s.display sd).backlight ≤ 1023 := (hs.side sd).backlight
    cases sd <;> exact sideLaw_dark rfl nofun rfl rfl hback (Nat.le_of_ble_eq_true rfl) (fun _ => rfl) rfl rfl
  power := iff_of_true rfl (by simp [beginPartReset, heldState])

/-- Settles O8: each move keeps the law of every display and of the power state, and a reset leaves every display DARK and its link OFF. -/
theorem stepKeepsTheDisplayLaw : Obligations.StepKeepsTheDisplayLaw := by
  intro s t hs h
  rw [panelLaw_iff] at hs ⊢
  exact (does_step s h).keeps (fun _ _ => panelLaw_move) (fun u _ hh => panelLaw_heldState u hh) panelLaw_beginPartReset hs

end Sys2Proof.Proofs.DisplayLaw
end

section
set_option Elab.async false
/-! What a law of the image blocks has to withstand: the displays and the supervisor reach the blocks only through the blank request and
the frame starts it brings (R79, R80), so a law that ignores the request and outlives a frame start is kept by every move but the blocks'
own. -/

namespace Sys2Proof.Proofs.BlockLaws

open Sys2Proof Sys2Proof.Machine Sys2Proof.Proofs.StepMoves Sys2Proof.Proofs.Blocks Sys2Proof.Proofs.PanelLaws

/-! ### States that agree in the image blocks -/

/-- The image blocks agree but for the blank requests. -/
structure SameBlocks (s t : State) : Prop where
  pipe : ∀ sd, t.pipe sd = s.pipe sd := by intro; rfl
  exposure : ∀ sd, t.exposure sd = s.exposure sd := by intro; rfl
  glare : ∀ sd, t.glare sd = s.glare sd := by intro; rfl
  comp : ∀ sd, ∃ b, t.comp sd = { s.comp sd with blankRequest := b } := by intro; exact ⟨_, rfl⟩
  store : ∀ sd, t.store sd = s.store sd := by intro; rfl

/-- The pieces of the image blocks that a law reads. -/
def imageParts : List Part :=
  [.pipe .left, .pipe .right, .exposure .left, .exposure .right, .glare .left, .glare .right, .comp .left, .comp .right,
    .store .left, .store .right]

theorem SameBlocks.of_unchanged {s t : State} {l : List Part} (h : Unchanged l s t) (hl : ∀ p ∈ imageParts, p ∉ l) : SameBlocks s t where
  pipe sd := h (.pipe sd) (hl _ (by cases sd <;> simp [imageParts]))
  exposure sd := h (.exposure sd) (hl _ (by cases sd <;> simp [imageParts]))
  glare sd := h (.glare sd) (hl _ (by cases sd <;> simp [imageParts]))
  comp sd := ⟨_, h (.comp sd) (hl _ (by cases sd <;> simp [imageParts]))⟩
  store sd := h (.store sd) (hl _ (by cases sd <;> simp [imageParts]))

theorem SameBlocks.trans {s t u : State} (h : SameBlocks s t) (h' : SameBlocks t u) : SameBlocks s u where
  pipe sd := (h'.pipe sd).trans (h.pipe sd)
  exposure sd := (h'.exposure sd).trans (h.exposure sd)
  glare sd := (h'.glare sd).trans (h.glare sd)
  comp sd := by
    obtain ⟨b, hb⟩ := h.comp sd
    obtain ⟨b', hb'⟩ := h'.comp sd
    exact ⟨b', by rw [hb', hb]⟩
  store sd := (h'.store sd).trans (h.store sd)

theorem SameBlocks.of_setComp {s : State} {sd : Side} (b : Bool) :
    SameBlocks s (s.setComp sd { s.comp sd with blankRequest := b }) where
  comp sd' := by
    by_cases he : sd' = sd
    · subst he; exact ⟨b, by simp⟩
    · exact ⟨_, by simp [he]; rfl⟩

/-- A move between display states other than to BLANKED. -/
theorem sameBlocks_changeDisplay (s : State) (sd : Side) {new : DisplayState} (h : new ≠ .blanked) : SameBlocks s (changeDisplay sd new s) := by
  have base : SameBlocks s ((s.report (.displayChanged sd (s.display sd).state new)).setDisplay sd
      { s.display sd with state := new, holdCount := new.holdCountOn (s.display sd).holdCount }) := {}
  have requested := base.trans (SameBlocks.of_setComp (sd := sd) (blankAfter (s.display sd).state new (s.comp sd).blankRequest))
  unfold changeDisplay
  cases new with
  | blanked => exact absurd rfl h
  | dark => exact requested.trans (.of_unchanged (unchanged_setRuns _ sd _) (by simp [imageParts]))
  | _ => exact requested

/-! ### Laws of the image blocks -/

/-- A property of the image blocks that ignores the blank requests and outlives a frame start of a compositor. -/
structure BlockLaw (P : State → Prop) : Prop where
  congr : ∀ {s t}, SameBlocks s t → P s → P t
  start : ∀ {s} (sd : Side), P s → P (tryFrameStart sd s)

section
variable {P : State → Prop} {s t : State}

theorem BlockLaw.of_unchanged (hP : BlockLaw P) {l : List Part} (h : Unchanged l s t) (hs : P s)
    (hl : ∀ p ∈ imageParts, p ∉ l := by simp [imageParts]) : P t :=
  hP.congr (.of_unchanged h hl) hs

theorem BlockLaw.changeDisplay (hP : BlockLaw P) (sd : Side) (new : DisplayState) (hs : P s) : P (changeDisplay sd new s) := by
  by_cases h : new = .blanked
  · subst h
    have before : SameBlocks s ((s.report (.displayChanged sd (s.display sd).state .blanked)).setDisplay sd
        { s.display sd with
          state := .blanked, holdCount := DisplayState.holdCountOn .blanked (s.display sd).holdCount }) := {}
    exact hP.start sd (hP.congr (before.trans (SameBlocks.of_setComp (sd := sd) true)) hs)
  · exact hP.congr (sameBlocks_changeDisplay s sd h) hs

theorem BlockLaw.raise (hP : BlockLaw P) (f : FaultId) (hs : P s) : P (raise f s) := by
  cases hf : f.viewLossSide with
  | none => exact hP.of_unchanged (unchanged_raise s hf) hs
  | some sd =>
    unfold Machine.raise; split
    · exact hs
    · simp only [hf]
      have reported : P (reportFault f (.faultRaised f false)
          (s.setFaults { s.faults with current := FaultSet.insert s.faults.current f, accrued := FaultSet.insert s.faults.accrued f })) :=
        hP.of_unchanged (unchanged_reportFault _ f _) (hP.congr {} hs)
      unfold viewLossRaised; split
      · split <;> exact hP.changeDisplay sd _ reported
      · exact reported

theorem BlockLaw.moveDark (hP : BlockLaw P) (sd : Side) (hs : P s) : P (moveDark sd s) := by
  unfold Machine.moveDark; split
  · exact hs
  · exact hP.changeDisplay sd .dark hs

theorem BlockLaw.panelMove (hP : BlockLaw P) (h : PanelMove s t) (hs : P s) : P t := by
  cases h with
  | setPower | setDisplay | setRuns | writeMasks | setGroup | lock | setNight | acknowledge | emptyCurrent => exact hP.congr {} hs
  | release => exact hP.congr {} hs
  | changeDisplay sd new => exact hP.changeDisplay sd new hs
  | completeWake sd identity =>
    have woken (d : Display) (r : Runs) : SameBlocks s ((s.setDisplay sd d).setRuns sd r) := {}
    exact hP.changeDisplay sd .priming (hP.of_unchanged (unchanged_clearFault _ _) (hP.congr (woken _ _) hs))
  | sleep sd d => exact hP.moveDark sd (hP.congr {} hs)
  | clearViewPath sd => exact hP.of_unchanged (unchanged_clearViewPath s sd) hs
  | raise f => exact hP.raise f hs
  | raiseEvent f => exact hP.of_unchanged (unchanged_raiseEvent s f) hs
  | clearFault f => exact hP.of_unchanged (unchanged_clearFault s f) hs

theorem BlockLaw.move (hP : BlockLaw P) (hblock : ∀ {s t}, BlockMove s t → P s → P t) (h : Move s t) (hs : P s) : P t := by
  cases h with
  | quiet h => exact hP.congr ⟨h.pipe, h.exposure, h.glare, fun sd => ⟨_, h.comp sd⟩, h.store⟩ hs
  | block h => exact hblock h hs
  | panel h => exact hP.panelMove h hs

/-- A law of the image blocks is kept by every step if it is kept by the blocks' own moves and by the beginning of a reset. -/
theorem BlockLaw.step (hP : BlockLaw P) (hblock : ∀ {s t}, BlockMove s t → P s → P t)
    (hheld : ∀ s h, P (heldState h s)) (hpart : ∀ s pin, P s → P (beginPartReset pin s)) (hs : P s) (h : step s = .next t) : P t :=
  (does_step s h).keeps (fun _ _ => hP.move hblock) (fun u k _ => hheld u k) hpart hs

end

end Sys2Proof.Proofs.BlockLaws
end

section
set_option Elab.async false
/-! The frame start of the development pipeline, said once. -/

namespace Sys2Proof.Proofs.FrameStart

open Sys2Proof Sys2Proof.Machine Sys2Proof.Proofs.Blocks

section
variable (sd : Side) (s : State)

/-- The pending copies applied at a frame start (R20, R60). -/
theorem applyPending_pipe : (applyPending sd s).pipe sd =
    { s.pipe sd with
      expAct := (s.pipe sd).expPend.apply (s.pipe sd).expAct
      expPend := .empty
      toneAct := (s.pipe sd).tonePend.apply (s.pipe sd).toneAct
      tonePend := .empty } := by simp [applyPending]

theorem applyPending_glare : (applyPending sd s).glare sd =
    { s.glare sd with
      act := (s.glare sd).pend.apply (s.glare sd).act
      pend := .empty
      grid := (s.glare sd).grid.map (min · ((s.glare sd).pend.apply (s.glare sd).act).aMax) } := by simp [applyPending]

/-- E brought within its limits, and delivered where that changes it (R39, R12). -/
theorem applyLimits_eq :
    (applyLimits sd s).exposure sd = { s.exposure sd with e := inLimits (s.pipe sd).expAct (s.exposure sd).e }
      ∧ (if inLimits (s.pipe sd).expAct (s.exposure sd).e = (s.exposure sd).e ∨ (s.port sd).link ≠ .streaming then
          (applyLimits sd s).sent = s.sent ∧ (applyLimits sd s).port sd = s.port sd
        else (applyLimits sd s).sent
              = s.sent ++ [.expose sd (inLimits (s.pipe sd).expAct (s.exposure sd).e) (s.pipe sd).expAct.ratioCode]
          ∧ (applyLimits sd s).port sd =
            { s.port sd with
              lastExpose := some ⟨inLimits (s.pipe sd).expAct (s.exposure sd).e, (s.pipe sd).expAct.ratioCode⟩
              outstanding := true, resendDone := false, unsettledRun := 0 }) := by
  unfold applyLimits; simp only
  split
  · next h => simp [h]
  · next h =>
    obtain ⟨hsent, hport⟩ :=
      deliverE_eq sd (s.setExposure sd { s.exposure sd with e := inLimits (s.pipe sd).expAct (s.exposure sd).e })
    have hexp := unchanged_deliverE (s.setExposure sd { s.exposure sd with e := inLimits (s.pipe sd).expAct (s.exposure sd).e })
      sd (.exposure sd) (by simp)
    refine ⟨hexp.trans (by simp), ?_⟩
    rw [hsent, hport]
    by_cases hl : (s.port sd).link = .streaming <;> simp [h, hl]

/-- The frame start of a pipeline (R20, R31). -/
theorem beginDevelopment_starts (f : Frame) (n : BufName) (drops : Bool) :
    ∃ d, (beginDevelopment sd f n drops s).pipe sd =
        { (s.pipe sd).setBuf n .writing with
          expAct := (s.pipe sd).expPend.apply (s.pipe sd).expAct
          expPend := .empty
          toneAct := (s.pipe sd).tonePend.apply (s.pipe sd).toneAct
          tonePend := .empty
          dev := some d
          bufferDrops := if drops then satInc (s.pipe sd).bufferDrops else (s.pipe sd).bufferDrops }
      ∧ d.buffer = n
      ∧ FrameStarts sd f (s.port sd) s.sent s (beginDevelopment sd f n drops s) d := by
  obtain ⟨hexposure, hsent⟩ := applyLimits_eq sd (applyPending sd s)
  have frame := unchanged_applyLimits (applyPending sd s) sd
  have hpipe := (frame (.pipe sd) (by simp)).trans (applyPending_pipe sd s)
  have hglare := (frame (.glare sd) (by simp)).trans (applyPending_glare sd s)
  have hnight : (applyLimits sd (applyPending sd s)).night = s.night := frame .night (by simp)
  have before : (applyPending sd s).exposure sd = s.exposure sd ∧ (applyPending sd s).port sd = s.port sd
      ∧ (applyPending sd s).sent = s.sent := ⟨rfl, rfl, rfl⟩
  rw [before.1, before.2.1, before.2.2, applyPending_pipe] at hsent
  rw [before.1, applyPending_pipe] at hexposure
  refine ⟨⟨⟨f, latchFrame sd (applyLimits sd (applyPending sd s))⟩, n, false⟩, ?_, rfl, ?_⟩
  · cases n <;> simp [beginDevelopment, hpipe, Pipeline.setBuf]
  · refine ⟨?_, rfl, ?_, ?_, ?_, ?_, ?_, ?_, ?_, ?_⟩
    · simp [latchFrame, hpipe, hglare, hexposure, hnight]
    · cases n <;> simp [beginDevelopment, Pipeline.setBuf, Pipeline.buf]
    · cases n <;> simp [beginDevelopment, Pipeline.setBuf, hpipe]
    · cases n <;> simp [beginDevelopment, Pipeline.setBuf, hpipe]
    · cases n <;> simp [beginDevelopment, Pipeline.setBuf, hpipe]
    · cases n <;> simp [beginDevelopment, Pipeline.setBuf, hpipe]
    · simp [beginDevelopment, hglare]
    · simp [beginDevelopment, hexposure, inLimits, clampNat]
    · exact hsent

/-! ### The handover (R19) -/

theorem handOver_developing {f : Frame} (h : (s.pipe sd).dev ≠ none) :
    handOver sd f s = s.setPipe sd
      { s.pipe sd with
        intake := some f
        intakeDrops := if (s.pipe sd).intake = none then (s.pipe sd).intakeDrops else satInc (s.pipe sd).intakeDrops } := by
  obtain ⟨d, hd⟩ := Option.ne_none_iff_exists'.mp h
  cases hi : (s.pipe sd).intake <;> simp [handOver, hd, hi]

theorem handOver_idle {f : Frame} {n : BufName} {drops : Bool} (h : (s.pipe sd).dev = none)
    (hn : (s.pipe sd).claim = some (n, drops)) : handOver sd f s = beginDevelopment sd f n drops s := by
  simp [handOver, h, hn]

/-- Which buffer a frame start claims (R31). -/
theorem claim_spec {p : Pipeline} {n : BufName} {drops : Bool} (h : p.claim = some (n, drops)) :
    (p.bufA = .free → n = .a) ∧ (p.bufA ≠ .free → p.bufB = .free → n = .b)
      ∧ (p.bufA ≠ .free → p.bufB ≠ .free → p.waiting.map Prod.fst = some n)
      ∧ drops = !decide (p.bufA = .free ∨ p.bufB = .free) := by
  unfold Pipeline.claim at h
  unfold Pipeline.waiting
  cases ha : p.bufA <;> cases hb : p.bufB <;> simp only [ha, hb, Option.some.injEq, Prod.mk.injEq, reduceCtorEq] at h <;>
    obtain ⟨rfl, rfl⟩ := h <;> simp

/-- A frame start seen from states that agree on what it reads, and to a state that has what it leaves. -/
theorem frameStarts_congr {f : Frame} {port : Port} {sent : List Sent} {u v t t' : State} {d : InDevelopment}
    (h : FrameStarts sd f port sent u t d) (hp : v.pipe sd = u.pipe sd) (hx : v.exposure sd = u.exposure sd)
    (hg : v.glare sd = u.glare sd) (hn : v.night = u.night) (hp' : t'.pipe sd = t.pipe sd) (hx' : t'.exposure sd = t.exposure sd)
    (hg' : t'.glare sd = t.glare sd) (hs' : t'.sent = t.sent) (hport' : t'.port sd = t.port sd) : FrameStarts sd f port sent v t' d := by
  unfold FrameStarts at h ⊢
  rw [hp, hx, hg, hn, hp', hx', hg', hs', hport']
  exact h

/-! ### Compositions that end -/

/-- The pipeline with the buffer of a composition's source released (R33). -/
def released (p : Pipeline) (source : Option (BufName × Developed)) : Pipeline :=
  match source with
  | some (n, _) => p.release n
  | none => p

/-- The view of a side after a composition's completion (R87). -/
theorem finishComposition_eq (c : Composition) :
    (finishComposition sd c s).comp sd = { s.comp sd with inFlight := none }
      ∧ (finishComposition sd c s).store sd = (s.store sd).finish c.record
      ∧ (finishComposition sd c s).pipe sd = released (s.pipe sd) c.source := by
  unfold finishComposition released
  cases c.source <;> simp

/-- The view of a side whose composition is abandoned (R157). -/
theorem abandonComposition_eq :
    (abandonComposition sd s).comp sd = { s.comp sd with inFlight := none, blankRequest := false, panOffset := 0, panTarget := 0 }
      ∧ (abandonComposition sd s).store sd = (s.store sd).mapSlots (fun _ => .free)
      ∧ (abandonComposition sd s).pipe sd = released (s.pipe sd) ((s.comp sd).inFlight.bind Composition.source) := by
  unfold abandonComposition releaseTaken released
  cases (s.comp sd).inFlight.bind Composition.source <;> simp

end

end Sys2Proof.Proofs.FrameStart
end

section
set_option Elab.async false
/-! The laws of adaptation: E within its limits, the gains in range, the glare gains within A_max (R39, R47, R60, R68). -/

namespace Sys2Proof.Proofs.Adaptation

open Sys2Proof Sys2Proof.Machine Sys2Proof.Proofs.StepMoves Sys2Proof.Proofs.Blocks Sys2Proof.Proofs.BlockLaws
  Sys2Proof.Proofs.FrameStart Sys2Proof.Proofs.GlareDimming

/-! ### The law of one side -/

/-- The law of one side's exposure controller and glare unit, from what it reads. -/
structure SideLaw (act : ExposureGroup) (pend : ExposurePending) (x : Exposure) (g : Glare) : Prop where
  eMin : act.eMin ≤ x.e
  eMax : x.e ≤ act.eMax
  pending : pend.eMin.getD act.eMin ≤ pend.eMax.getD act.eMax
  gainR : 128 ≤ x.gainR ∧ x.gainR ≤ 1023
  gainB : 128 ≤ x.gainB ∧ x.gainB ≤ 1023
  grid : ∀ v ∈ g.grid, v ≤ g.act.aMax
  aMax : g.act.aMax ≤ 96
  aMaxPending : ∀ a, g.pend.aMax = some a → a ≤ 96

/-- The law of both sides. -/
def AdaptationLaw (s : State) : Prop :=
  ∀ sd, SideLaw (s.pipe sd).expAct (s.pipe sd).expPend (s.exposure sd) (s.glare sd)

theorem adaptationLaw_iff (s : State) : ExposureLaw s ∧ GlareLaw s ↔ AdaptationLaw s := by
  constructor
  · rintro ⟨he, hg⟩ sd
    obtain ⟨hmin, hmax, hpend, hr, hr', hb, hb'⟩ := he sd
    obtain ⟨hgrid, ha, hap⟩ := hg sd
    exact ⟨hmin, hmax, hpend, ⟨hr, hr'⟩, ⟨hb, hb'⟩, hgrid, ha, hap⟩
  · intro h
    exact ⟨fun sd => ⟨(h sd).eMin, (h sd).eMax, (h sd).pending, (h sd).gainR.1, (h sd).gainR.2, (h sd).gainB.1, (h sd).gainB.2⟩,
      fun sd => ⟨(h sd).grid, (h sd).aMax, (h sd).aMaxPending⟩⟩

section
variable {act : ExposureGroup} {pend : ExposurePending} {x : Exposure} {g : Glare}

theorem SideLaw.limits (h : SideLaw act pend x g) : act.eMin ≤ act.eMax := h.eMin.trans h.eMax

theorem map_min_le {grid : ZoneMap Nat} {a : Nat} : ∀ v ∈ grid.map (min · a), v ≤ a := by
  intro v hv
  obtain ⟨w, -, rfl⟩ := List.mem_map.mp hv
  exact Nat.min_le_right ..

/-- A grid no higher than the law allows is no higher at any place. -/
theorem SideLaw.grid_getD (h : SideLaw act pend x g) (n : Nat) : g.grid.getD n 0 ≤ g.act.aMax := by
  rw [List.getD_eq_getElem?_getD]
  cases hn : g.grid[n]? with
  | none => exact Nat.zero_le _
  | some v => exact h.grid v (List.mem_of_getElem? hn)

/-- One glare update stays within A_max: its targets do, and the filter never passes a target (R66, R68). -/
theorem SideLaw.update (h : SideLaw act pend x g) (ns : NightState) (records : List ZoneRecord) :
    SideLaw act pend x (g.update ns records) :=
  { h with
    grid := fun v hv => by
      obtain ⟨n, -, rfl⟩ := List.mem_map.mp hv
      refine (filterGain_between _ _ _).2.trans (Nat.max_le.mpr ⟨spreadTarget_le _ _ _ fun m => ?_, h.grid_getD n⟩)
      rw [List.getD_eq_getElem?_getD, List.getElem?_map]
      cases zones[m]? with
      | none => exact Nat.zero_le _
      | some k => exact rawTarget_le .. }

/-! ### The commit's exposure step -/

theorem stepE_between (h : SideLaw act pend x g) (err : Int) : act.eMin ≤ stepE act x.e err ∧ stepE act x.e err ≤ act.eMax := by
  have hlim := h.limits
  unfold stepE
  split
  · exact ⟨h.eMin, h.eMax⟩
  · simp only [clampInt]; omega

theorem gainTarget_between (green mean : Nat) : 128 ≤ gainTarget green mean ∧ gainTarget green mean ≤ 1023 := by
  unfold gainTarget
  split
  · decide
  · exact ⟨le_clampNat .., clampNat_le (by decide)⟩

theorem approach_in_range {a t : Nat} (step : Nat) (ha : 128 ≤ a ∧ a ≤ 1023) (ht : 128 ≤ t ∧ t ≤ 1023) :
    128 ≤ approach a t step ∧ approach a t step ≤ 1023 := by
  have := approach_between a t step
  omega

theorem SideLaw.meter (h : SideLaw act pend x g) (m : Metered) : SideLaw act pend (x.meter act m) g := by
  unfold Exposure.meter; simp only; split
  · exact { h with }
  · exact { h with eMin := (stepE_between h _).1, eMax := (stepE_between h _).2 }

theorem SideLaw.whiteBalance (h : SideLaw act pend x g) (ns : NightState) (m : Metered) : SideLaw act pend (x.whiteBalance ns m) g := by
  unfold Exposure.whiteBalance; simp only
  split
  · exact { h with }
  · split
    · exact { h with }
    · exact
        { h with
          gainR := approach_in_range 4 h.gainR (gainTarget_between _ _)
          gainB := approach_in_range 4 h.gainB (gainTarget_between _ _) }

theorem SideLaw.adapt (h : SideLaw act pend x g) (ns : NightState) (settled : Bool) (m : Metered) :
    SideLaw act pend (x.adapt act ns settled m) g := by
  unfold Exposure.adapt
  refine SideLaw.whiteBalance ?_ ns m
  cases settled with
  | false => exact { h with }
  | true =>
    have counted : SideLaw act pend { x with settledCommits := satInc x.settledCommits } g := { h with }
    exact counted.meter m

/-! ### Installations, settings and frame starts -/

theorem SideLaw.installExposure (h : SideLaw act pend x g) (e gainR gainB : Nat) :
    SideLaw act pend { x with e := inLimits act e, gainR := clampNat gainR 128 1023, gainB := clampNat gainB 128 1023 } g :=
  { h with
    eMin := le_clampNat ..
    eMax := clampNat_le h.limits
    gainR := ⟨le_clampNat .., clampNat_le (by decide)⟩
    gainB := ⟨le_clampNat .., clampNat_le (by decide)⟩ }

theorem clampField_le {lo hi : Nat} (hle : lo ≤ hi) {v old : Option Nat} (hold : ∀ a, old = some a → a ≤ hi) :
    ∀ a, clampField lo hi v old = some a → a ≤ hi := by
  intro a ha
  cases v with
  | none => exact hold a ha
  | some w =>
    obtain rfl : clampNat w lo hi = a := Option.some.inj ha
    exact clampNat_le hle

/-- A pair of limits is taken only where the next application leaves it in order (R40). -/
theorem pairField_in_order {lo hi pLo pHi : Option Nat} {aLo aHi : Nat} (hold : pLo.getD aLo ≤ pHi.getD aHi) :
    (pairField (decide ((lo <|> pLo).getD aLo ≤ (hi <|> pHi).getD aHi)) lo pLo).getD aLo
      ≤ (pairField (decide ((lo <|> pLo).getD aLo ≤ (hi <|> pHi).getD aHi)) hi pHi).getD aHi := by
  unfold pairField
  by_cases h : (lo <|> pLo).getD aLo ≤ (hi <|> pHi).getD aHi
  · rw [decide_eq_true h]; exact h
  · rw [decide_eq_false h]; exact hold

theorem SideLaw.writeExposure (h : SideLaw act pend x g) (f : Fields) : SideLaw act (writeExposure f act pend).value x g :=
  { h with pending := pairField_in_order h.pending }

theorem SideLaw.writeGlare (h : SideLaw act pend x g) (f : Fields) : SideLaw act pend x { g with pend := (writeGlare f g.pend).value } :=
  { h with aMaxPending := clampField_le (by decide) h.aMaxPending }

/-- A frame start applies the pending copies and brings E and the grid within them (R20, R39, R68). -/
theorem SideLaw.frameStart (h : SideLaw act pend x g) :
    SideLaw (pend.apply act) .empty { x with e := inLimits (pend.apply act) x.e }
      { g with act := g.pend.apply g.act, pend := .empty, grid := g.grid.map (min · (g.pend.apply g.act).aMax) } where
  eMin := le_clampNat ..
  eMax := clampNat_le h.pending
  pending := h.pending
  gainR := h.gainR
  gainB := h.gainB
  grid := map_min_le
  aMax := by
    cases ha : g.pend.aMax with
    | none => simpa [GlarePending.apply, ha] using h.aMax
    | some a => simpa [GlarePending.apply, ha] using h.aMaxPending a ha
  aMaxPending := nofun

end

/-! ### The law of both sides -/

section
variable {s t : State} {sd : Side}

/-- One operation of a side: the law of that side after it, and a frame that names pieces of the side alone. -/
theorem AdaptationLaw.at_side (hs : AdaptationLaw s) {l : List Part} (h : Unchanged l s t)
    (hside : SideLaw (t.pipe sd).expAct (t.pipe sd).expPend (t.exposure sd) (t.glare sd))
    (hl : ∀ sd', sd' ≠ sd → Part.pipe sd' ∉ l ∧ Part.exposure sd' ∉ l ∧ Part.glare sd' ∉ l := by
      intro sd' he; simp [he]) : AdaptationLaw t := by
  intro sd'
  by_cases he : sd' = sd
  · exact he ▸ hside
  · obtain ⟨hp, hx, hg⟩ := hl sd' he
    rw [h (.pipe sd') hp, h (.exposure sd') hx, h (.glare sd') hg]
    exact hs sd'

/-- A pipeline that keeps its EXPOSURE copies. -/
theorem AdaptationLaw.setPipe (hs : AdaptationLaw s) {p : Pipeline} (ha : p.expAct = (s.pipe sd).expAct)
    (hp : p.expPend = (s.pipe sd).expPend) : AdaptationLaw (s.setPipe sd p) :=
  hs.at_side (sd := sd) (unchanged_setPipe s sd p) (by simpa [ha, hp] using hs sd)

@[simp] theorem setBuf_expAct (p : Pipeline) (n : BufName) (b : Buffer) : (p.setBuf n b).expAct = p.expAct := by cases n <;> rfl
@[simp] theorem setBuf_expPend (p : Pipeline) (n : BufName) (b : Buffer) : (p.setBuf n b).expPend = p.expPend := by cases n <;> rfl

theorem release_settings (p : Pipeline) (n : BufName) : (p.release n).expAct = p.expAct ∧ (p.release n).expPend = p.expPend := by
  unfold Pipeline.release; split <;> simp

theorem replaceWaiting_settings (p : Pipeline) (n : BufName) :
    (p.replaceWaiting n).expAct = p.expAct ∧ (p.replaceWaiting n).expPend = p.expPend := by
  unfold Pipeline.replaceWaiting; split <;> simp

theorem AdaptationLaw.beginDevelopment (hs : AdaptationLaw s) (f : Frame) (n : BufName) (drops : Bool) :
    AdaptationLaw (beginDevelopment sd f n drops s) := by
  obtain ⟨d, hpipe, -, -, -, -, -, -, -, -, hglare, hexposure, -⟩ := beginDevelopment_starts sd s f n drops
  refine hs.at_side (sd := sd) (unchanged_beginDevelopment s sd f n drops) ?_
  rw [hpipe, hglare, hexposure]
  exact (hs sd).frameStart

theorem AdaptationLaw.handOver (hs : AdaptationLaw s) (f : Frame) : AdaptationLaw (handOver sd f s) := by
  unfold Machine.handOver; simp only; split
  · exact hs.beginDevelopment f _ _
  · exact hs.setPipe rfl rfl

theorem AdaptationLaw.startIntake (hs : AdaptationLaw s) : AdaptationLaw (startIntake sd s) := by
  unfold Machine.startIntake; split
  · exact hs
  · have taken : AdaptationLaw (s.setPipe sd { s.pipe sd with intake := none }) := hs.setPipe rfl rfl
    exact taken.handOver _

theorem AdaptationLaw.tryFrameStart (hs : AdaptationLaw s) : AdaptationLaw (tryFrameStart sd s) := by
  have begun (source : Option (BufName × Developed)) (y : FrameStore) : AdaptationLaw (beginComposition sd source y s) := by
    cases source with
    | none => exact hs.at_side (sd := sd) (unchanged_beginComposition s sd none y) (by simpa [beginComposition] using hs sd)
    | some w => exact hs.at_side (sd := sd) (unchanged_beginComposition s sd (some w) y) (by simpa [beginComposition] using hs sd)
  unfold Machine.tryFrameStart; split
  · exact begun _ _
  · split
    · exact begun _ _
    · exact hs
  · exact hs

theorem adaptationLaw_blockLaw : BlockLaw AdaptationLaw where
  congr h hs sd := by rw [h.pipe, h.exposure, h.glare]; exact hs sd
  start _ hs := hs.tryFrameStart

theorem AdaptationLaw.writeSide (hs : AdaptationLaw s) (g : Group) (f : Fields) : AdaptationLaw (writeSide g f sd s).value := by
  refine hs.at_side (sd := sd) (unchanged_writeSide s sd g f) ?_
  cases g with
  | exposure => simpa [Machine.writeSide] using (hs sd).writeExposure f
  | glare => simpa [Machine.writeSide] using (hs sd).writeGlare f
  | _ => simpa [Machine.writeSide] using hs sd

theorem AdaptationLaw.finishComposition (hs : AdaptationLaw s) (c : Composition) : AdaptationLaw (finishComposition sd c s) := by
  refine hs.at_side (sd := sd) (unchanged_finishComposition s sd c) ?_
  cases hc : c.source with
  | none => simpa [Machine.finishComposition, hc] using hs sd
  | some w => simpa [Machine.finishComposition, hc, release_settings] using hs sd

theorem AdaptationLaw.abandonComposition (hs : AdaptationLaw s) : AdaptationLaw (abandonComposition sd s) := by
  refine hs.at_side (sd := sd) (unchanged_abandonComposition s sd) ?_
  cases hc : (s.comp sd).inFlight.bind Composition.source with
  | none => simpa [Machine.abandonComposition, releaseTaken, hc] using hs sd
  | some w => simpa [Machine.abandonComposition, releaseTaken, hc, release_settings] using hs sd

theorem adaptationLaw_blockMove (h : BlockMove s t) (hs : AdaptationLaw s) : AdaptationLaw t := by
  cases h with
  | installExposure sd e gainR gainB =>
    exact hs.at_side (sd := sd) (unchanged_setExposure s sd _) (by simpa using (hs sd).installExposure e gainR gainB)
  | installGlare sd grid tags =>
    have installed : SideLaw (s.pipe sd).expAct (s.pipe sd).expPend (s.exposure sd)
        { s.glare sd with grid := grid.map (min · (s.glare sd).act.aMax), tags := tags } := { hs sd with grid := map_min_le }
    exact hs.at_side (sd := sd) (unchanged_setGlare s sd _) (by simpa using installed)
  | updateGlare sd ns records => exact hs.at_side (sd := sd) (unchanged_setGlare s sd _) (by simpa using (hs sd).update ns records)
  | adaptExposure sd ns settled m => exact hs.at_side (sd := sd) (unchanged_setExposure s sd _) (by simpa using (hs sd).adapt ns settled m)
  | writeSide g f sd => exact hs.writeSide g f
  | putOverlay | dropOverlay | scanStore => exact hs
  | finishStatistics sd d signature hdev => exact hs.setPipe rfl rfl
  | handOver sd f => exact hs.handOver f
  | finishDevelopment sd d hdev =>
    have finished : AdaptationLaw (finishDevelopment sd d s) := hs.setPipe (by simp [replaceWaiting_settings]) (by simp [replaceWaiting_settings])
    exact finished.startIntake
  | tryFrameStart sd => exact hs.tryFrameStart
  | finishComposition sd c hc => exact hs.finishComposition c
  | abandonDevelopment sd => exact hs.setPipe rfl rfl
  | abandonComposition sd => exact hs.abandonComposition

end

theorem sideLaw_reset : SideLaw Pipeline.reset.expAct Pipeline.reset.expPend Exposure.reset Glare.reset where
  eMin := Nat.le_of_ble_eq_true rfl
  eMax := Nat.le_of_ble_eq_true rfl
  pending := Nat.le_of_ble_eq_true rfl
  gainR := by decide
  gainB := by decide
  grid v hv := by
    exact (List.eq_of_mem_replicate hv : v = 0) ▸ Nat.zero_le _
  aMax := Nat.le_of_ble_eq_true rfl
  aMaxPending := nofun

theorem adaptationLaw_heldState (s : State) (h : Hold) : AdaptationLaw (heldState h s) := by
  intro sd
  cases sd <;> exact sideLaw_reset

/-- A part reset keeps the gains, E within the default limits and the grid within the default A_max (R158). -/
theorem SideLaw.retained {act : ExposureGroup} {pend : ExposurePending} {x : Exposure} {g : Glare} (h : SideLaw act pend x g) :
    SideLaw Pipeline.reset.expAct Pipeline.reset.expPend x.retained g.retained :=
  { sideLaw_reset with
    eMin := le_clampNat ..
    eMax := clampNat_le (Nat.le_of_ble_eq_true rfl)
    gainR := h.gainR
    gainB := h.gainB
    grid := map_min_le }

theorem adaptationLaw_beginPartReset (s : State) (pin : Bool) (hs : AdaptationLaw s) : AdaptationLaw (beginPartReset pin s) := by
  intro sd
  have kept := (hs sd).retained
  cases sd <;> exact kept

/-- Settles O6: each operation of the exposure controller and of the glare unit stays within the limits, and nothing else moves them. -/
theorem stepKeepsAdaptationInLimits : Obligations.StepKeepsAdaptationInLimits := by
  intro s t hs h
  rw [adaptationLaw_iff] at hs ⊢
  exact adaptationLaw_blockLaw.step adaptationLaw_blockMove adaptationLaw_heldState adaptationLaw_beginPartReset hs h

end Sys2Proof.Proofs.Adaptation
end

section
set_option Elab.async false
/-! The law of the overlay lists and of the pan (R83, R84). -/

namespace Sys2Proof.Proofs.OverlaysAndPan

open Sys2Proof Sys2Proof.Machine Sys2Proof.Proofs.StepMoves Sys2Proof.Proofs.Blocks Sys2Proof.Proofs.BlockLaws
  Sys2Proof.Proofs.FrameStart

/-! ### Overlay lists (R84) -/

/-- Each id at most once, every item one that a request accepts. -/
def OverlaysOk (l : List Overlay) : Prop := (l.map Overlay.id).Nodup ∧ ∀ o ∈ l, o.id ≤ 7 ∧ o.ok = true

/-- A replacement in place keeps the ids. -/
theorem replace_ids (l : List Overlay) (o : Overlay) :
    (l.map fun x => if x.id = o.id then o else x).map Overlay.id = l.map Overlay.id := by
  rw [List.map_map]
  refine List.map_congr_left fun x _ => ?_
  by_cases h : x.id = o.id <;> simp [h]

theorem OverlaysOk.put {l : List Overlay} (h : OverlaysOk l) {o : Overlay} (ho : o.id ≤ 7 ∧ o.ok = true) : OverlaysOk (putOverlay l o) := by
  obtain ⟨hids, hitems⟩ := h
  unfold putOverlay
  split
  · refine ⟨by rw [replace_ids]; exact hids, fun x hx => ?_⟩
    obtain ⟨y, hy, rfl⟩ := List.mem_map.mp hx
    split
    · exact ho
    · exact hitems y hy
  · next hnew =>
    have fresh : o.id ∉ l.map Overlay.id := by simpa using hnew
    refine ⟨?_, fun x hx => ?_⟩
    · rw [List.map_append]
      exact List.Nodup.append hids (List.nodup_singleton _) (by simpa using fresh)
    · rcases List.mem_append.mp hx with hx | hx
      · exact hitems x hx
      · exact (List.mem_singleton.mp hx) ▸ ho

theorem OverlaysOk.drop {l : List Overlay} (h : OverlaysOk l) (id : Nat) : OverlaysOk (dropOverlay l id) :=
  ⟨h.1.sublist (List.filter_sublist.map _), fun o ho => h.2 o (List.mem_of_mem_filter ho)⟩

/-! ### The law of one side -/

/-- The law of one side's compositor. -/
structure SideLaw (c : Compositor) : Prop where
  overlays : OverlaysOk c.overlays
  room : c.panOffset ≤ panRoom c.act
  window : c.act.mainWindow.x + c.act.mainWindow.w ≤ 1920
  windowPending : ∀ w, c.pend.mainWindow = some w → w.x + w.w ≤ 1920

theorem compositorLaw_iff (s : State) : CompositorLaw s ↔ ∀ sd, SideLaw (s.comp sd) := by
  refine forall_congr' fun sd => ⟨fun ⟨hids, hitems, hroom, hwin, hpend⟩ => ⟨⟨hids, hitems⟩, hroom, hwin, hpend⟩, fun h => ?_⟩
  exact ⟨h.overlays.1, h.overlays.2, h.room, h.window, h.windowPending⟩

section
variable {c : Compositor}

/-- One pan step ends within the room of the window just applied (R82, R83). -/
theorem SideLaw.startFrame (h : SideLaw c) (sd : Side) (angle : Option Int) : SideLaw (c.startFrame sd angle) where
  overlays := h.overlays
  room := (approach_between _ _ _).2.trans (Nat.max_le.mpr ⟨Nat.min_le_right .., Nat.min_le_right ..⟩)
  window := by
    cases hw : c.pend.mainWindow with
    | none => simpa [Compositor.startFrame, ViewPending.apply, hw] using h.window
    | some w => simpa [Compositor.startFrame, ViewPending.apply, hw] using h.windowPending w hw
  windowPending := nofun

theorem SideLaw.writeView (h : SideLaw c) (f : Fields) : SideLaw { c with pend := (writeView f c.pend).value } :=
  { h with
    windowPending := fun w hw => by
      change structField (windowOk 960) ((f.raw 0).map windowOf) c.pend.mainWindow = some w at hw
      unfold structField at hw
      split at hw
      · next v hv =>
        split at hw
        · next hok =>
          obtain rfl : v = w := Option.some.inj hw
          simp only [windowOk, Bool.and_eq_true, decide_eq_true_eq] at hok
          exact hok.1.1.1
        · exact h.windowPending w hw
      · exact h.windowPending w hw }

end

/-! ### The law of both sides -/

section
variable {s t : State} {sd : Side}

theorem at_side (hs : ∀ sd, SideLaw (s.comp sd)) {l : List Part} (h : Unchanged l s t) (hside : SideLaw (t.comp sd))
    (hl : ∀ sd', sd' ≠ sd → Part.comp sd' ∉ l := by intro sd' he; simp [he]) : ∀ sd, SideLaw (t.comp sd) := by
  intro sd'
  by_cases he : sd' = sd
  · exact he ▸ hside
  · rw [h (.comp sd') (hl sd' he)]; exact hs sd'

theorem of_unchanged (hs : ∀ sd, SideLaw (s.comp sd)) {l : List Part} (h : Unchanged l s t)
    (hl : ∀ sd, Part.comp sd ∉ l := by simp) : ∀ sd, SideLaw (t.comp sd) := fun sd => by
  rw [h (.comp sd) (hl sd)]; exact hs sd

theorem sideLaw_tryFrameStart (hs : ∀ sd, SideLaw (s.comp sd)) : ∀ sd', SideLaw ((tryFrameStart sd s).comp sd') := by
  have begun (source : Option (BufName × Developed)) (y : FrameStore) : ∀ sd', SideLaw ((beginComposition sd source y s).comp sd') := by
    refine at_side (sd := sd) hs (unchanged_beginComposition s sd source y) ?_
    simp only [beginComposition, State.setComp_comp]
    exact { (hs sd).startFrame sd s.freshAngle with }
  unfold tryFrameStart; split
  · exact begun _ _
  · split
    · exact begun _ _
    · exact hs
  · exact hs

theorem sideLaw_blockLaw : BlockLaw fun s => ∀ sd, SideLaw (s.comp sd) where
  congr h hs sd := by
    obtain ⟨b, hb⟩ := h.comp sd
    rw [hb]; exact { hs sd with }
  start _ hs := sideLaw_tryFrameStart hs

theorem sideLaw_blockMove (h : BlockMove s t) (hs : ∀ sd, SideLaw (s.comp sd)) : ∀ sd, SideLaw (t.comp sd) := by
  cases h with
  | installExposure | installGlare | updateGlare | adaptExposure | finishStatistics | scanStore | abandonDevelopment => exact hs
  | writeSide g f sd =>
    refine at_side (sd := sd) hs (unchanged_writeSide s sd g f) ?_
    cases g with
    | view => simpa [writeSide] using (hs sd).writeView f
    | _ => simpa [writeSide] using hs sd
  | putOverlay sd o hid hok =>
    exact at_side (sd := sd) hs (unchanged_setComp s sd _)
      (by simpa using { hs sd with overlays := (hs sd).overlays.put ⟨hid, hok⟩ })
  | dropOverlay sd id =>
    exact at_side (sd := sd) hs (unchanged_setComp s sd _) (by simpa using { hs sd with overlays := (hs sd).overlays.drop id })
  | handOver sd f => exact of_unchanged hs (unchanged_handOver s sd f)
  | finishDevelopment sd d hdev =>
    exact of_unchanged (of_unchanged hs (unchanged_finishDevelopment s sd d)) (unchanged_startIntake _ sd)
  | tryFrameStart sd => exact sideLaw_tryFrameStart hs
  | finishComposition sd c hc =>
    refine at_side (sd := sd) hs (unchanged_finishComposition s sd c) ?_
    rw [(finishComposition_eq sd s c).1]
    exact { hs sd with }
  | abandonComposition sd =>
    refine at_side (sd := sd) hs (unchanged_abandonComposition s sd) ?_
    rw [(abandonComposition_eq sd s).1]
    exact { hs sd with room := Nat.zero_le _ }

end

theorem sideLaw_reset : SideLaw Compositor.reset where
  overlays := ⟨List.nodup_nil, nofun⟩
  room := Nat.zero_le _
  window := Nat.le_of_ble_eq_true rfl
  windowPending := nofun

/-- Settles O9: the list edits keep the ids apart, the pan step ends within the room, and an application takes a window within the sensor. -/
theorem stepKeepsOverlaysAndPan : Obligations.StepKeepsOverlaysAndPan := by
  intro s t hs h
  rw [compositorLaw_iff] at hs ⊢
  exact sideLaw_blockLaw.step sideLaw_blockMove (fun _ _ sd => by cases sd <;> exact sideLaw_reset)
    (fun _ _ _ sd => by cases sd <;> exact sideLaw_reset) hs h

end Sys2Proof.Proofs.OverlaysAndPan
end

section
set_option Elab.async false
/-! The laws of the frame slots and of the development buffers (R88, R31 to R33, R19). -/

namespace Sys2Proof.Proofs.SlotsAndBuffers

open Sys2Proof Sys2Proof.Machine Sys2Proof.Proofs.StepMoves Sys2Proof.Proofs.Blocks Sys2Proof.Proofs.BlockLaws
  Sys2Proof.Proofs.FrameStart

/-! ### Counting slots -/

/-- The law of the slots for a number of slots to be FILLING (R88). -/
structure Slots (filling : Nat) (l : List Slot) : Prop where
  filling : l.countP Slot.isFilling = filling
  ready : l.countP Slot.isReady ≤ 1
  shown : l.countP Slot.isShown ≤ 1

theorem mapSlots_slots (x : FrameStore) (f : Slot → Slot) : (x.mapSlots f).slots = x.slots.map f := rfl

/-- A slot map seen by the three counts. -/
theorem countP_mapSlots (x : FrameStore) (f : Slot → Slot) {p q : Slot → Bool} (h : ∀ a, p (f a) = q a) :
    (x.mapSlots f).slots.countP p = x.slots.countP q := by
  rw [mapSlots_slots, List.countP_map]
  exact List.countP_congr fun a _ => by simp [h]

theorem countP_claimFree {l : List Slot} :
    (Slot.free ∈ l → (claimFree l).countP Slot.isFilling = l.countP Slot.isFilling + 1)
      ∧ (claimFree l).countP Slot.isReady = l.countP Slot.isReady ∧ (claimFree l).countP Slot.isShown = l.countP Slot.isShown := by
  induction l with
  | nil => simp [claimFree]
  | cons a l ih =>
    cases a with
    | free => simp [claimFree, List.countP_cons, Slot.isFilling, Slot.isReady, Slot.isShown]
    | _ =>
      obtain ⟨hf, hr, hs⟩ := ih
      refine ⟨fun hm => ?_, ?_, ?_⟩
      · have hm' : Slot.free ∈ l := by simpa using hm
        simp [claimFree, List.countP_cons, hf hm']
        omega
      · simp [claimFree, List.countP_cons, hr]
      · simp [claimFree, List.countP_cons, hs]

theorem storeClaim_eq_some {x y : FrameStore} (h : x.claim = some y) : Slot.free ∈ x.slots ∧ y.slots = claimFree x.slots := by
  have hm : Slot.free ∈ x.slots := by
    by_contra hn
    obtain ⟨h0, h1, h2⟩ : x.slot0 ≠ .free ∧ x.slot1 ≠ .free ∧ x.slot2 ≠ .free := by
      simpa [FrameStore.slots, eq_comm] using hn
    simp [FrameStore.claim, h0, h1, h2] at h
  obtain ⟨y', hy', hslots, -⟩ := FrameStore.claim_of_free hm
  obtain rfl : y' = y := Option.some.inj (hy'.symm.trans h)
  exact ⟨hm, hslots⟩

theorem Slots.claim {x y : FrameStore} (h : Slots 0 x.slots) (hy : x.claim = some y) : Slots 1 y.slots := by
  obtain ⟨hm, hslots⟩ := storeClaim_eq_some hy
  obtain ⟨hf, hr, hs⟩ := countP_claimFree (l := x.slots)
  exact ⟨by rw [hslots, hf hm, h.filling], by rw [hslots, hr]; exact h.ready, by rw [hslots, hs]; exact h.shown⟩

theorem ready_eq_none_iff (x : FrameStore) : x.ready = none ↔ x.slots.countP Slot.isReady = 0 := by
  have slot (a : Slot) : a.readyRecord = none ↔ a.isReady = false := by cases a <;> simp [Slot.readyRecord, Slot.isReady]
  simp [FrameStore.ready, FrameStore.slots, slot, List.countP_eq_zero]

/-- What freeing the READY slots does to the counts. -/
theorem Slots.freeReady {k : Nat} {x : FrameStore} (h : Slots k x.slots) :
    Slots k (x.mapSlots Slot.freeReady).slots ∧ (x.mapSlots Slot.freeReady).slots.countP Slot.isReady = 0 := by
  have none : (x.mapSlots Slot.freeReady).slots.countP Slot.isReady = 0 := by
    rw [countP_mapSlots x _ (q := fun _ => false) (by intro a; cases a <;> rfl)]
    simp
  refine ⟨⟨?_, by omega, ?_⟩, none⟩
  · rw [countP_mapSlots x _ (q := Slot.isFilling) (by intro a; cases a <;> rfl)]; exact h.filling
  · rw [countP_mapSlots x _ (q := Slot.isShown) (by intro a; cases a <;> rfl)]; exact h.shown

theorem Slots.dropReady {k : Nat} {x : FrameStore} (h : Slots k x.slots) :
    Slots k x.dropReady.slots ∧ x.dropReady.slots.countP Slot.isReady = 0 := by
  unfold FrameStore.dropReady
  split
  · exact h.freeReady
  · next hr => exact ⟨h, (ready_eq_none_iff x).mp hr⟩

/-- A completion turns the FILLING slot READY, and no other is READY (R89). -/
theorem Slots.finish {x : FrameStore} (h : Slots 1 x.slots) (r : SlotRecord) : Slots 0 (x.finish r).slots := by
  obtain ⟨hd, hnone⟩ := h.dropReady
  have counted : (x.finish r).slots = (x.dropReady.mapSlots (Slot.complete r)).slots := by
    unfold FrameStore.finish FrameStore.countComposed; split <;> rfl
  rw [counted]
  refine ⟨?_, ?_, ?_⟩
  · rw [countP_mapSlots _ _ (q := fun _ => false) (by intro a; cases a <;> rfl)]; simp
  · rw [countP_mapSlots _ _ (q := fun a => a.isReady || a.isFilling) (by intro a; cases a <;> rfl)]
    have split : x.dropReady.slots.countP (fun a => a.isReady || a.isFilling)
        ≤ x.dropReady.slots.countP Slot.isReady + x.dropReady.slots.countP Slot.isFilling := by
      generalize x.dropReady.slots = l
      induction l with
      | nil => simp
      | cons a l ih => cases a <;> simp [List.countP_cons, Slot.isReady, Slot.isFilling] at ih ⊢ <;> omega
    rw [hnone, hd.filling] at split
    exact split
  · rw [countP_mapSlots _ _ (q := Slot.isShown) (by intro a; cases a <;> rfl)]; exact hd.shown

theorem Slots.showReady {k : Nat} {x : FrameStore} (h : Slots k x.slots) : Slots k x.showReady.slots := by
  unfold FrameStore.showReady
  refine ⟨?_, ?_, ?_⟩
  · rw [countP_mapSlots _ _ (q := Slot.isFilling) (by intro a; cases a <;> rfl),
      countP_mapSlots _ _ (q := Slot.isFilling) (by intro a; cases a <;> rfl)]
    exact h.filling
  · rw [countP_mapSlots _ _ (q := fun _ => false) (by intro a; cases a <;> rfl)]
    simp
  · rw [countP_mapSlots _ _ (q := fun a => a.isReady || a.isShown) (by intro a; cases a <;> rfl),
      countP_mapSlots _ _ (q := Slot.isReady) (by intro a; cases a <;> rfl)]
    exact h.ready

theorem Slots.repeatShown {k : Nat} {x : FrameStore} (h : Slots k x.slots) : Slots k x.repeatShown.store.slots := by
  unfold FrameStore.repeatShown; split <;> exact h

theorem Slots.repeatFault {k : Nat} {x : FrameStore} (h : Slots k x.slots) : Slots k x.repeatFault.store.slots := by
  unfold FrameStore.repeatFault; split
  · split <;> exact h
  · exact h

/-- A scan leaves the FILLING slots, and at most one READY and one SHOWN (5.8). -/
theorem Slots.scan {k : Nat} {x : FrameStore} (h : Slots k x.slots) (presented : DisplayState) : Slots k (x.scan presented).store.slots := by
  cases presented with
  | dark => exact h
  | live =>
    change Slots k x.scanLive.store.slots; unfold FrameStore.scanLive; split
    · split
      · exact h.showReady
      · exact h.dropReady.1.repeatShown
    · exact h.repeatShown
  | blanked =>
    change Slots k x.scanBlanked.store.slots; unfold FrameStore.scanBlanked; split
    · split
      · exact h.showReady
      · exact h.dropReady.1.repeatFault
    · exact h.repeatFault
  | hold => change Slots k x.scanHold.store.slots; unfold FrameStore.scanHold; split <;> exact h
  | priming =>
    change Slots k x.scanPriming.store.slots; unfold FrameStore.scanPriming; split
    · split
      · exact h.dropReady.1
      · exact h
    · exact h

theorem slots_free (x : FrameStore) : Slots 0 (x.mapSlots fun _ => .free).slots := by
  have none {p : Slot → Bool} (hp : p .free = false) : (x.mapSlots fun _ => .free).slots.countP p = 0 := by
    rw [countP_mapSlots x _ (q := fun _ => false) fun _ => hp]; simp
  exact ⟨none rfl, (none rfl).trans_le (Nat.zero_le 1), (none rfl).trans_le (Nat.zero_le 1)⟩

end Sys2Proof.Proofs.SlotsAndBuffers
end

section
set_option Elab.async false
/-! The law of the development buffers, and both laws together (R31 to R33, R19, R88). -/

namespace Sys2Proof.Proofs.SlotsAndBuffers

open Sys2Proof Sys2Proof.Machine Sys2Proof.Proofs.StepMoves Sys2Proof.Proofs.Blocks Sys2Proof.Proofs.BlockLaws
  Sys2Proof.Proofs.FrameStart

/-! ### Buffers -/

section
variable (p : Pipeline) (n m : BufName) (b : Buffer)

@[simp] theorem buf_setBuf_same : (p.setBuf n b).buf n = b := by cases n <;> rfl
theorem buf_setBuf : (p.setBuf n b).buf m = if m = n then b else p.buf m := by cases n <;> cases m <;> rfl
@[simp] theorem setBuf_dev : (p.setBuf n b).dev = p.dev := by cases n <;> rfl
@[simp] theorem setBuf_intake : (p.setBuf n b).intake = p.intake := by cases n <;> rfl

theorem other_ne : n.other ≠ n := by cases n <;> simp [BufName.other]
theorem eq_other_of_ne {n m : BufName} (h : m ≠ n) : m = n.other := by cases n <;> cases m <;> simp_all [BufName.other]

variable {p n}

theorem waiting_eq_some {d : Developed} (h : p.waiting = some (n, d)) : p.buf n = .waiting d := by
  unfold Pipeline.waiting at h
  split at h
  · next e hw => cases h; exact hw
  · next e hw _ => cases h; exact hw
  · exact absurd h (by simp)

/-- A buffer claimed is FREE or WAITING (R31). -/
theorem claim_eq_some {drops : Bool} (h : p.claim = some (n, drops)) : p.buf n = .free ∨ ∃ d, p.buf n = .waiting d := by
  unfold Pipeline.claim at h
  split at h
  · next hb => cases h; exact .inl hb
  · next hb _ => cases h; exact .inl hb
  · next d hb _ => cases h; exact .inr ⟨d, hb⟩
  · next d hb _ _ => cases h; exact .inr ⟨d, hb⟩
  · exact absurd h (by simp)

/-- Where none can be claimed, each buffer is WRITING or READING. -/
theorem claim_eq_none (h : p.claim = none) (m : BufName) : p.buf m = .writing ∨ ∃ d, p.buf m = .reading d := by
  unfold Pipeline.claim at h
  split at h <;> try contradiction
  next hfree hwait hfree' hwait' =>
  cases m with
  | a =>
    cases ha : p.bufA with
    | free => exact absurd ha hfree
    | waiting d => exact absurd ha (hwait d)
    | writing => exact .inl ha
    | reading d => exact .inr ⟨d, ha⟩
  | b =>
    cases hb : p.bufB with
    | free => exact absurd hb hfree'
    | waiting d => exact absurd hb (hwait' d)
    | writing => exact .inl hb
    | reading d => exact .inr ⟨d, hb⟩

end

/-- The law of the buffers, from what it reads. -/
structure Buffers (buf : BufName → Buffer) (dev : Option InDevelopment) (inFlight : Option Composition) : Prop where
  writing : ∀ n, buf n = .writing ↔ ∃ d, dev = some d ∧ d.buffer = n
  reading : ∀ n d, buf n = .reading d ↔ ∃ c, inFlight = some c ∧ c.source = some (n, d)
  waiting : ∀ n d e, buf n = .waiting d → buf n.other ≠ .waiting e

/-- The laws of one side. -/
structure SideLaw (p : Pipeline) (inFlight : Option Composition) (l : List Slot) : Prop where
  slots : Slots (if inFlight.isSome then 1 else 0) l
  buffers : Buffers p.buf p.dev inFlight
  intake : p.dev = none → p.intake = none

/-- The laws of both sides. -/
def ViewLaw (s : State) : Prop := ∀ sd, SideLaw (s.pipe sd) (s.comp sd).inFlight (s.store sd).slots

theorem viewLaw_iff (s : State) : SlotLaw s ∧ BufferLaw s ↔ ViewLaw s := by
  constructor
  · rintro ⟨hs, hb⟩ sd
    obtain ⟨hf, hr, hsh⟩ := hs sd
    obtain ⟨hw, hrd, hwait, hi⟩ := hb sd
    refine ⟨⟨hf, hr, hsh⟩, ⟨hw, hrd, fun n d e h h' => hwait ?_⟩, hi⟩
    cases n with
    | a => exact ⟨⟨d, h⟩, ⟨e, h'⟩⟩
    | b => exact ⟨⟨e, h'⟩, ⟨d, h⟩⟩
  · intro h
    exact ⟨fun sd => ⟨(h sd).slots.filling, (h sd).slots.ready, (h sd).slots.shown⟩,
      fun sd => ⟨(h sd).buffers.writing, (h sd).buffers.reading,
        fun ⟨⟨d, hd⟩, ⟨e, he⟩⟩ => (h sd).buffers.waiting .a d e hd he, (h sd).intake⟩⟩

section
variable {buf : BufName → Buffer} {dev : Option InDevelopment} {inFlight : Option Composition}

/-- A buffer put in place of one that is neither WRITING nor READING. -/
def setAt (buf : BufName → Buffer) (n : BufName) (b : Buffer) : BufName → Buffer := fun m => if m = n then b else buf m

theorem buf_setBuf_eq (p : Pipeline) (n : BufName) (b : Buffer) : (p.setBuf n b).buf = setAt p.buf n b := by
  funext m; rw [buf_setBuf]; rfl

/-- The claimed buffer WRITING, its frame in development (R31). -/
theorem Buffers.begin {n : BufName} (h : Buffers buf none inFlight) (hn : buf n = .free ∨ ∃ d, buf n = .waiting d) {d : InDevelopment}
    (hd : d.buffer = n) : Buffers (setAt buf n .writing) (some d) inFlight where
  writing m := by
    by_cases he : m = n
    · simp [setAt, he, hd]
    · have hm : buf m ≠ .writing := fun hw => by simpa using (h.writing m).mp hw
      simp [setAt, he, hm, hd, Ne.symm he]
  reading m e := by
    by_cases he : m = n
    · have hno : ¬∃ c, inFlight = some c ∧ c.source = some (n, e) := by
        rw [← h.reading]
        rcases hn with hn | ⟨d, hn⟩ <;> simp [hn]
      simpa [setAt, he] using hno
    · simpa [setAt, he] using h.reading m e
  waiting m e e' := by
    by_cases he : m = n
    · simp [setAt, he]
    · by_cases he' : m.other = n
      · simp [setAt, he']
      · simpa [setAt, he, he'] using h.waiting m e e'

/-- The frame developed WAITING in its buffer, an older one in the other buffer dropped (R32). -/
theorem Buffers.developed {d : InDevelopment} (h : Buffers buf (some d) inFlight) {other : Buffer}
    (hother : (∃ e, buf d.buffer.other = .waiting e) ∧ other = .free ∨ (∀ e, buf d.buffer.other ≠ .waiting e) ∧ other = buf d.buffer.other) :
    Buffers (setAt (setAt buf d.buffer.other other) d.buffer (.waiting d.source)) none inFlight := by
  have at_other : setAt (setAt buf d.buffer.other other) d.buffer (.waiting d.source) d.buffer.other = other := by
    simp [setAt, other_ne]
  have hwriting : buf d.buffer = .writing := (h.writing _).mpr ⟨d, rfl, rfl⟩
  have other_not_writing : buf d.buffer.other ≠ .writing := fun hw => by
    have hb : d.buffer = d.buffer.other := by simpa using (h.writing _).mp hw
    exact other_ne _ hb.symm
  have other_kept (e : Developed) : other = .reading e ↔ buf d.buffer.other = .reading e := by
    rcases hother with ⟨⟨e', he'⟩, ho⟩ | ⟨-, ho⟩ <;> simp [*]
  have other_ok : other ≠ .writing ∧ ∀ e, other ≠ .waiting e := by
    rcases hother with ⟨-, ho⟩ | ⟨hno, ho⟩
    · simp [ho]
    · exact ho ▸ ⟨other_not_writing, hno⟩
  refine ⟨fun n => ?_, fun n e => ?_, fun n e e' => ?_⟩ <;> by_cases hn : n = d.buffer
  · simp [setAt, hn]
  · rw [eq_other_of_ne hn, at_other]
    simpa using other_ok.1
  · have hno := h.reading d.buffer e
    rw [hwriting] at hno
    simpa [setAt, hn] using hno
  · rw [eq_other_of_ne hn, at_other, other_kept]
    exact h.reading _ e
  · rw [hn, at_other]
    exact fun _ => other_ok.2 e'
  · rw [eq_other_of_ne hn, at_other]
    exact fun hw => absurd hw (other_ok.2 e)

/-- No composition in flight reads a buffer that is not READING; one begins with a WAITING frame's buffer READING (R33, R79). -/
theorem Buffers.take {n : BufName} {d : Developed} (h : Buffers buf dev none) (hn : buf n = .waiting d) {c : Composition}
    (hc : c.source = some (n, d)) : Buffers (setAt buf n (.reading d)) dev (some c) where
  writing m := by
    by_cases he : m = n
    · have hno := h.writing n
      rw [hn] at hno
      simpa [setAt, he] using hno
    · simpa [setAt, he] using h.writing m
  reading m e := by
    by_cases he : m = n
    · simp [setAt, he, hc]
    · have hm : buf m ≠ .reading e := fun hr => by simpa using (h.reading m e).mp hr
      simp [setAt, he, hm, hc, Ne.symm he]
  waiting m e e' := by
    by_cases he : m = n
    · simp [setAt, he]
    · rw [eq_other_of_ne he]
      intro hw
      refine absurd hn ?_
      have := h.waiting n.other e d (by simpa [setAt, other_ne] using hw)
      cases n <;> exact this

/-- A composition with no source. -/
theorem Buffers.takeNone (h : Buffers buf dev none) {c : Composition} (hc : c.source = none) : Buffers buf dev (some c) :=
  { h with reading := fun m e => (h.reading m e).trans (by simp [hc]) }

/-- The source's buffer FREE again, and nothing in flight (R33). -/
theorem Buffers.release {p : Pipeline} (h : Buffers p.buf p.dev inFlight) :
    Buffers (released p (inFlight.bind Composition.source)).buf (released p (inFlight.bind Composition.source)).dev none := by
  have idle (hno : ∀ c w, inFlight = some c → c.source ≠ some w) : Buffers p.buf p.dev none :=
    { h with reading := fun n d => by rw [h.reading]; simpa using fun c hc => hno c (n, d) hc }
  cases hc : inFlight with
  | none => exact idle (by simp [hc])
  | some c =>
    cases hw : c.source with
    | none => simpa [released, hw] using idle fun c' w hc' => by obtain rfl := Option.some.inj (hc.symm.trans hc'); simp [hw]
    | some w =>
      obtain ⟨n, d⟩ := w
      have hn : p.buf n = .reading d := (h.reading n d).mpr ⟨c, hc, hw⟩
      have freed : p.release n = p.setBuf n .free := by simp [Pipeline.release, hn]
      simp only [released, Option.bind_some, hw, freed, setBuf_dev, buf_setBuf_eq]
      refine ⟨fun m => ?_, fun m e => ?_, fun m e e' => ?_⟩
      · rw [← h.writing]
        by_cases he : m = n <;> simp [setAt, he, hn]
      · by_cases he : m = n
        · simp [setAt, he]
        · have hm := h.reading m e
          simpa [setAt, he, hc, hw, Ne.symm he] using hm
      · by_cases he : m = n
        · simp [setAt, he]
        · by_cases he' : m.other = n
          · simp [setAt, he']
          · simpa [setAt, he, he'] using h.waiting m e e'

/-- An IDLE pipeline has a buffer to claim: at most one is READING and none is WRITING (R31). -/
theorem Buffers.claim_ne_none {p : Pipeline} (h : Buffers p.buf p.dev inFlight) (hdev : p.dev = none) : p.claim ≠ none := by
  intro hc
  have reading (m : BufName) : ∃ c d, inFlight = some c ∧ c.source = some (m, d) := by
    rcases claim_eq_none hc m with hw | ⟨d, hd⟩
    · simpa [hdev] using (h.writing m).mp hw
    · obtain ⟨c, hc, hsrc⟩ := (h.reading m d).mp hd
      exact ⟨c, d, hc, hsrc⟩
  obtain ⟨c, d, hc, hsrc⟩ := reading .a
  obtain ⟨c', d', hc', hsrc'⟩ := reading .b
  obtain rfl : c = c' := Option.some.inj (hc.symm.trans hc')
  simpa using hsrc.symm.trans hsrc'

/-- Development abandoned: what is not READING is FREE (R36). -/
theorem Buffers.abandon (h : Buffers buf dev inFlight) : Buffers (fun n => (buf n).abandon) none inFlight where
  writing n := by cases hb : buf n <;> simp [Buffer.abandon]
  reading n d := by rw [← h.reading]; cases hb : buf n <;> simp [Buffer.abandon]
  waiting n d e := by cases hb : buf n <;> simp [Buffer.abandon]

end

end Sys2Proof.Proofs.SlotsAndBuffers
end

section
set_option Elab.async false
/-! Every step keeps the laws of the frame slots and of the development buffers. -/

namespace Sys2Proof.Proofs.SlotsAndBuffers

open Sys2Proof Sys2Proof.Machine Sys2Proof.Proofs.StepMoves Sys2Proof.Proofs.Blocks Sys2Proof.Proofs.BlockLaws
  Sys2Proof.Proofs.FrameStart

section
variable {s t : State} {sd : Side}

/-! ### Moves of one side -/

theorem ViewLaw.at_side (hs : ViewLaw s) {l : List Part} (h : Unchanged l s t)
    (hside : SideLaw (t.pipe sd) (t.comp sd).inFlight (t.store sd).slots)
    (hl : ∀ sd', sd' ≠ sd → Part.pipe sd' ∉ l ∧ Part.comp sd' ∉ l ∧ Part.store sd' ∉ l := by intro sd' he; simp [he]) : ViewLaw t := by
  intro sd'
  by_cases he : sd' = sd
  · exact he ▸ hside
  · obtain ⟨hp, hc, hx⟩ := hl sd' he
    rw [h (.pipe sd') hp, h (.comp sd') hc, h (.store sd') hx]
    exact hs sd'

/-- A pipeline that keeps its buffers, its intake and the buffer of its frame in development. -/
theorem SideLaw.congr {p p' : Pipeline} {inFlight : Option Composition} {l : List Slot} (h : SideLaw p inFlight l)
    (hbuf : p'.buf = p.buf) (hdev : p'.dev.map InDevelopment.buffer = p.dev.map InDevelopment.buffer) (hintake : p'.intake = p.intake) :
    SideLaw p' inFlight l where
  slots := h.slots
  buffers :=
    { writing := fun n => by
        have same : (∃ d, p'.dev = some d ∧ d.buffer = n) ↔ p'.dev.map InDevelopment.buffer = some n := by simp
        rw [same, hdev, hbuf, h.buffers.writing n]
        simp
      reading := hbuf ▸ h.buffers.reading
      waiting := hbuf ▸ h.buffers.waiting }
  intake hd := by
    have none : p.dev = none := by simpa [hd] using hdev.symm
    exact hintake.trans (h.intake none)

theorem ViewLaw.setPipe (hs : ViewLaw s) {p : Pipeline} (h : SideLaw p (s.comp sd).inFlight (s.store sd).slots) :
    ViewLaw (s.setPipe sd p) :=
  hs.at_side (sd := sd) (unchanged_setPipe s sd p) (by simpa using h)

theorem ViewLaw.setComp (hs : ViewLaw s) {c : Compositor} (h : c.inFlight = (s.comp sd).inFlight) : ViewLaw (s.setComp sd c) :=
  hs.at_side (sd := sd) (unchanged_setComp s sd c) (by simpa [h] using hs sd)

/-! ### Frame starts of the pipeline -/

theorem ViewLaw.beginDevelopment (hs : ViewLaw s) (f : Frame) {n : BufName} {drops : Bool} (hdev : (s.pipe sd).dev = none)
    (hn : (s.pipe sd).claim = some (n, drops)) : ViewLaw (beginDevelopment sd f n drops s) := by
  obtain ⟨d, hpipe, hd, -⟩ := beginDevelopment_starts sd s f n drops
  have frame := unchanged_beginDevelopment s sd f n drops
  refine hs.at_side (sd := sd) frame ?_
  rw [frame (.comp sd) (by simp), frame (.store sd) (by simp), hpipe]
  have begun := Buffers.begin (hdev ▸ (hs sd).buffers) (claim_eq_some hn) hd
  rw [← buf_setBuf_eq] at begun
  exact ⟨(hs sd).slots, begun, nofun⟩

/-- A frame handed to a pipeline with no intake frame: an IDLE one has a buffer to claim (R31). -/
theorem ViewLaw.handOver (hs : ViewLaw s) (f : Frame) : ViewLaw (handOver sd f s) := by
  unfold Machine.handOver; simp only; split
  · next n drops hdev hn => exact hs.beginDevelopment f hdev hn
  · next hno =>
    have busy : (s.pipe sd).dev ≠ none := fun hdev => by
      cases hc : (s.pipe sd).claim with
      | some w => exact hno w.1 w.2 hdev hc
      | none => exact absurd hc ((hs sd).buffers.claim_ne_none hdev)
    exact hs.setPipe ⟨(hs sd).slots, (hs sd).buffers, fun hdev => absurd hdev busy⟩

/-- The other buffer after the replacement of its waiting frame (R32). -/
theorem replaceWaiting_other (p : Pipeline) (n : BufName) :
    (p.replaceWaiting n).dev = p.dev ∧ (p.replaceWaiting n).intake = p.intake
      ∧ ∃ b, (p.replaceWaiting n).buf = setAt p.buf n.other b
        ∧ ((∃ e, p.buf n.other = .waiting e) ∧ b = .free ∨ (∀ e, p.buf n.other ≠ .waiting e) ∧ b = p.buf n.other) := by
  unfold Pipeline.replaceWaiting
  split
  · next e he => exact ⟨by simp, by simp, .free, buf_setBuf_eq .., .inl ⟨⟨e, he⟩, rfl⟩⟩
  · next hno =>
    refine ⟨rfl, rfl, p.buf n.other, ?_, .inr ⟨hno, rfl⟩⟩
    funext m
    by_cases hm : m = n.other <;> simp [setAt, hm]

theorem ViewLaw.developed (hs : ViewLaw s) {d : InDevelopment} (hdev : (s.pipe sd).dev = some d) :
    ViewLaw (startIntake sd (finishDevelopment sd d s)) := by
  obtain ⟨-, hintake, b, hbuf, hb⟩ := replaceWaiting_other (s.pipe sd) d.buffer
  have developed : Buffers ((finishDevelopment sd d s).pipe sd).buf none (s.comp sd).inFlight := by
    have done := Buffers.developed (hdev ▸ (hs sd).buffers) hb
    rw [← hbuf, ← buf_setBuf_eq] at done
    have same : ((finishDevelopment sd d s).pipe sd).buf = (((s.pipe sd).replaceWaiting d.buffer).setBuf d.buffer (.waiting d.source)).buf := by
      simp only [finishDevelopment, State.setPipe_pipe]
      funext m; cases m <;> rfl
    exact same ▸ done
  have emptied (p : Pipeline) (hp : p.buf = ((finishDevelopment sd d s).pipe sd).buf) (hd : p.dev = none) (hi : p.intake = none) :
      SideLaw p (s.comp sd).inFlight (s.store sd).slots := ⟨(hs sd).slots, hp ▸ hd ▸ developed, fun _ => hi⟩
  unfold startIntake; split
  · next hi => exact hs.at_side (sd := sd) (unchanged_finishDevelopment s sd d) (emptied _ rfl (by simp [finishDevelopment]) hi)
  · next f hi =>
    have taken : ViewLaw ((finishDevelopment sd d s).setPipe sd { (finishDevelopment sd d s).pipe sd with intake := none }) := by
      refine hs.at_side (sd := sd) ((unchanged_finishDevelopment s sd d).snoc (unchanged_setPipe _ sd _)) ?_
      rw [State.setPipe_pipe]
      exact emptied { (finishDevelopment sd d s).pipe sd with intake := none } rfl (by simp [finishDevelopment]) rfl
    exact taken.handOver f

/-! ### Frame starts of the compositor -/

theorem ViewLaw.tryFrameStart (hs : ViewLaw s) : ViewLaw (tryFrameStart sd s) := by
  unfold Machine.tryFrameStart; split
  · next w y hidle hw hy =>
    obtain ⟨n, d⟩ := w
    refine hs.at_side (sd := sd) (unchanged_beginComposition s sd _ y) ?_
    have law := hs sd
    rw [hidle] at law
    have taken := law.buffers.take (waiting_eq_some hw) (c := ⟨(s.display sd).state.content, some (n, d),
      ((s.comp sd).startFrame sd s.freshAngle).latch⟩) rfl
    rw [← buf_setBuf_eq] at taken
    simpa [beginComposition] using
      (⟨law.slots.claim hy, by simpa using taken, by simpa using law.intake⟩ :
        SideLaw ((s.pipe sd).setBuf n (.reading d)) (some ⟨(s.display sd).state.content, some (n, d),
          ((s.comp sd).startFrame sd s.freshAngle).latch⟩) y.slots)
  · next y hidle hw hy =>
    split
    · refine hs.at_side (sd := sd) (unchanged_beginComposition s sd none y) ?_
      have law := hs sd
      rw [hidle] at law
      simpa [beginComposition] using
        (⟨law.slots.claim hy, law.buffers.takeNone rfl, law.intake⟩ :
          SideLaw (s.pipe sd) (some ⟨(s.display sd).state.content, none,
            ((s.comp sd).startFrame sd s.freshAngle).latch⟩) y.slots)
    · exact hs
  · exact hs

theorem viewLaw_blockLaw : BlockLaw ViewLaw where
  congr h hs sd := by
    obtain ⟨b, hb⟩ := h.comp sd
    rw [h.pipe, h.store, hb]; exact hs sd
  start _ hs := hs.tryFrameStart

theorem released_intake (p : Pipeline) (source : Option (BufName × Developed)) :
    (released p source).dev = p.dev ∧ (released p source).intake = p.intake := by
  unfold released
  cases source with
  | none => exact ⟨rfl, rfl⟩
  | some w => simp only [Pipeline.release]; split <;> simp

/-- A side with nothing in flight any more. -/
theorem SideLaw.released {p : Pipeline} {inFlight : Option Composition} {l l' : List Slot} (h : SideLaw p inFlight l) (hl : Slots 0 l') :
    SideLaw (released p (inFlight.bind Composition.source)) none l' := by
  obtain ⟨hdev, hintake⟩ := released_intake p (inFlight.bind Composition.source)
  exact ⟨hl, h.buffers.release, by rw [hdev, hintake]; exact h.intake⟩

/-! ### Every move of the image blocks -/

theorem viewLaw_blockMove (h : BlockMove s t) (hs : ViewLaw s) : ViewLaw t := by
  cases h with
  | installExposure | installGlare | updateGlare | adaptExposure => exact hs
  | writeSide g f sd =>
    cases g with
    | exposure | tone => exact hs.setPipe ((hs sd).congr rfl rfl rfl)
    | view => exact hs.setComp rfl
    | _ => exact hs
  | putOverlay | dropOverlay => exact hs.setComp rfl
  | finishStatistics sd d signature hdev => exact hs.setPipe ((hs sd).congr rfl (by simp [hdev]) rfl)
  | handOver sd f => exact hs.handOver f
  | finishDevelopment sd d hdev => exact hs.developed hdev
  | tryFrameStart sd => exact hs.tryFrameStart
  | finishComposition sd c hc =>
    obtain ⟨hcomp, hstore, hpipe⟩ := finishComposition_eq sd s c
    refine hs.at_side (sd := sd) (unchanged_finishComposition s sd c) ?_
    rw [hcomp, hstore, hpipe]
    have law := hs sd
    rw [hc] at law
    exact law.released (law.slots.finish c.record)
  | scanStore sd presented =>
    exact hs.at_side (sd := sd) (unchanged_setStore s sd _) (by simpa using { hs sd with slots := (hs sd).slots.scan presented })
  | abandonDevelopment sd =>
    have abandoned := (hs sd).buffers.abandon
    refine hs.setPipe ⟨(hs sd).slots, ?_, fun _ => rfl⟩
    convert abandoned using 1
    funext n; cases n <;> rfl
  | abandonComposition sd =>
    obtain ⟨hcomp, hstore, hpipe⟩ := abandonComposition_eq sd s
    refine hs.at_side (sd := sd) (unchanged_abandonComposition s sd) ?_
    rw [hcomp, hstore, hpipe]
    exact (hs sd).released (slots_free _)

end

theorem sideLaw_reset : SideLaw Pipeline.reset Compositor.reset.inFlight FrameStore.reset.slots where
  slots := ⟨rfl, Nat.le_of_ble_eq_true rfl, Nat.le_of_ble_eq_true rfl⟩
  buffers :=
    { writing := fun n => by cases n <;> simp [Pipeline.reset, Pipeline.buf]
      reading := fun n d => by cases n <;> simp [Pipeline.reset, Pipeline.buf, Compositor.reset]
      waiting := fun n d e => by cases n <;> simp [Pipeline.reset, Pipeline.buf] }
  intake _ := rfl

/-- Settles O7: each move of the compositor, the store and the pipeline keeps their laws, and a reset empties all three. -/
theorem stepKeepsSlotsAndBuffers : Obligations.StepKeepsSlotsAndBuffers := by
  intro s t hs h
  rw [viewLaw_iff] at hs ⊢
  exact viewLaw_blockLaw.step viewLaw_blockMove (fun _ _ sd => by cases sd <;> exact sideLaw_reset)
    (fun _ _ _ sd => by cases sd <;> exact sideLaw_reset) hs h

end Sys2Proof.Proofs.SlotsAndBuffers
end

section
set_option Elab.async false
/-! The step: the front command, the block with nothing waiting, and the state it starts from. -/

namespace Sys2Proof.Proofs.TheStep

open Sys2Proof Sys2Proof.Machine

/-- Settles O1: the front command is what a step matches on. -/
theorem stepRunsTheFrontCommand : Obligations.StepRunsTheFrontCommand := by
  intro c rest s h
  simp only [step, h]

/-! ### The moments -/

@[simp] theorem mem_momentOf {x : Time} {t : Option Time} {c c' : Instr} : (x, c) ∈ momentOf t c' ↔ t = some x ∧ c = c' := by
  cases t with
  | none => simp [momentOf]
  | some y => simp [momentOf, eq_comm]

theorem mem_dueNow {s : State} {c : Instr} : c ∈ dueNow s ↔ (s.timebase, c) ∈ moments s := by
  simp [dueNow]

section
variable {s : State} {sd : Side} {x : Time}

theorem trainingDue_eq_some : (s.port sd).trainingDue = some x ↔ (s.port sd).link = .training ∧ (s.port sd).trainingDeadline = some x := by
  unfold Port.trainingDue; split <;> simp_all

theorem retrainDue_eq_some : s.retrainDue sd = some x
    ↔ (s.port sd).link = .lost ∧ (s.power.state = .starting ∨ s.power.state = .running) ∧ (s.port sd).retrainTime = some x := by
  unfold State.retrainDue State.awake; cases s.power.state <;> cases (s.port sd).link <;> simp

theorem lossDue_eq_some : (s.port sd).lossDue = some x ↔ (s.port sd).link = .streaming ∧ (s.port sd).lossDeadline = some x := by
  unfold Port.lossDue; split <;> simp_all

theorem wakeDue_eq_some : (s.display sd).wakeDue = some x ↔ (s.display sd).link = .waking ∧ (s.display sd).wakeDeadline = some x := by
  unfold Display.wakeDue; split <;> simp_all

theorem wakeRetryDue_eq_some : s.wakeRetryDue sd = some x
    ↔ (s.display sd).link = .hibernate ∧ (s.display sd).enabled = true ∧ (s.power.state = .starting ∨ s.power.state = .running)
      ∧ (s.display sd).wakeRetry = some x := by
  unfold State.wakeRetryDue State.wanted State.awake
  cases s.power.state <;> cases (s.display sd).link <;> simp

theorem scanDue_eq_some : (s.display sd).scanDue = some x ↔ (s.display sd).link = .synced ∧ (s.display sd).nextScan = some x := by
  unfold Display.scanDue; split <;> simp_all

theorem evaluationDue_eq_some : s.evaluationDue = some x
    ↔ (s.power.state = .starting ∨ s.power.state = .running) ∧ s.night.nextEval = some x := by
  unfold State.evaluationDue State.awake; cases s.power.state <;> simp

end

/-- The events due are those whose moment is the timebase (R159). -/
theorem mem_dueNow_iff (s : State) (c : Instr) : c ∈ dueNow s ↔ MomentReached s c := by
  rw [mem_dueNow]
  simp only [moments, sideMoments, List.mem_append, mem_momentOf, trainingDue_eq_some, retrainDue_eq_some, lossDue_eq_some,
    wakeDue_eq_some, wakeRetryDue_eq_some, scanDue_eq_some, evaluationDue_eq_some, Option.map_eq_some_iff]
  cases c with
  | trainingDeadline sd => cases sd <;> simp [MomentReached]
  | retrainTime sd => cases sd <;> simp [MomentReached]
  | lossDeadline sd => cases sd <;> simp [MomentReached]
  | wakeDeadline sd => cases sd <;> simp [MomentReached]
  | wakeRetryTime sd => cases sd <;> simp [MomentReached]
  | scanStart sd => cases sd <;> simp [MomentReached]
  | saveDeadline sd => cases sd <;> simp [MomentReached]
  | vehicleExpiry field => cases field <;> simp [MomentReached]
  | _ => simp [MomentReached]

/-- Settles O2: with nothing waiting a step is `idle`, which goes by the power state and by the events due. -/
theorem idleStepKeepsTheTimebase : Obligations.IdleStepKeepsTheTimebase := by
  intro s hs
  have hstep : step s = idle s := by simp only [step, hs]
  rw [hstep]
  refine ⟨fun hoff => ?_, fun hon hnone => ?_, fun hon c hone => ?_, fun hon c d rest hmany => ?_, mem_dueNow_iff s⟩
  · simp [idle, hoff]
  · cases hp : s.power.state with
    | off => exact absurd hp hon
    | _ => simp only [idle, hp, hnone]; rfl
  · cases hp : s.power.state with
    | off => exact absurd hp hon
    | _ => simp only [idle, hp, hone]
  · rw [hmany]
    have place : Config.takenFirst s.raceCount % ((d :: rest).length + 1) < (c :: d :: rest).length := Nat.mod_lt _ (Nat.succ_pos _)
    refine ⟨_, List.getElem_mem place, ?_⟩
    rw [← List.getD_eq_getElem _ c]
    cases hp : s.power.state with
    | off => exact absurd hp hon
    | _ => simp only [idle, hp, hmany]

/-! ### The state after reset -/

/-- Its two reports are neither overruns nor full, and ATTN is asserted by the default threshold of 1 (R137). -/
theorem queueLaw_reset : QueueLaw State.reset := by
  refine ⟨Nat.le_of_ble_eq_true rfl, fun h => absurd h (by decide), by decide, fun e he => ?_⟩
  have short : ∀ e ∈ State.reset.queue.entries, e.report.detail.length ≤ 32 := by decide
  exact short e he

theorem displayLaw_reset : DisplayLaw State.reset ∧ PowerLaw State.reset := by
  refine (DisplayLaw.panelLaw_iff _).mpr ⟨fun sd => ?_, by decide⟩
  cases sd <;>
    exact DisplayLaw.sideLaw_dark rfl nofun rfl rfl (Nat.le_of_ble_eq_true rfl) (Nat.le_of_ble_eq_true rfl) (fun h => absurd rfl h) rfl rfl

/-- Settles O3: each law on the reset values of what it reads. -/
theorem resetMeetsEveryLaw : Obligations.ResetMeetsEveryLaw := by
  obtain ⟨hsets, hmasks⟩ := (PanelLaws.setsAndMasks_iff State.reset).mpr (PanelLaws.setsAndMasks_none_current rfl rfl)
  obtain ⟨hexposure, hglare⟩ := (Adaptation.adaptationLaw_iff State.reset).mpr fun sd => by cases sd <;> exact Adaptation.sideLaw_reset
  obtain ⟨hslots, hbuffers⟩ :=
    (SlotsAndBuffers.viewLaw_iff State.reset).mpr fun sd => by cases sd <;> exact SlotsAndBuffers.sideLaw_reset
  have hcomp : CompositorLaw State.reset :=
    (OverlaysAndPan.compositorLaw_iff State.reset).mpr fun sd => by cases sd <;> exact OverlaysAndPan.sideLaw_reset
  exact ⟨hsets, hmasks, queueLaw_reset, hexposure, hglare, hslots, hbuffers, displayLaw_reset.1, hcomp, displayLaw_reset.2⟩

end Sys2Proof.Proofs.TheStep
end

section
set_option Elab.async false
/-! What a raise of a view loss and a judgement of RUNNING do, said once for the events that bring them. -/

namespace Sys2Proof.Proofs.SharedEffects

open Sys2Proof Sys2Proof.Machine Sys2Proof.Proofs.Blocks

/-! ### The view blocks -/

/-- What a move to BLANKED does is read off the view blocks, the display and the angle alone. -/
theorem blankStarts_congr {sd : Side} {stays : Bool} {u v t : State} (h : BlankStarts sd stays u t) (hc : v.comp sd = u.comp sd)
    (hp : v.pipe sd = u.pipe sd) (hx : v.store sd = u.store sd) (ha : v.freshAngle = u.freshAngle) : BlankStarts sd stays v t := by
  unfold BlankStarts CompositionStarts at h ⊢
  simp only [State.setDisplay_display, State.setDisplay_get_comp, State.setDisplay_freshAngle, hc, hp, hx, ha] at h ⊢
  exact h

/-- The view blocks after an operation depend on the state before it by the three blocks, the display, the group and the angle. -/
theorem viewAfterLoss_congr {f : FaultId} {sd : Side} {u v t : State} (h : ViewAfterLoss f sd u t) (hc : v.comp sd = u.comp sd)
    (hp : v.pipe sd = u.pipe sd) (hx : v.store sd = u.store sd) (hd : v.display sd = u.display sd) (ha : v.freshAngle = u.freshAngle)
    (hf : v.faults.current = u.faults.current) (hg : v.faults.group = u.faults.group) : ViewAfterLoss f sd v t := by
  unfold ViewAfterLoss ViewStands at h ⊢
  rw [hf, hd, hg]
  split
  · next hif => rw [if_pos hif] at h; exact blankStarts_congr h hc hp hx ha
  · next hif => rw [if_neg hif] at h; rw [hc, hp, hx]; exact h

/-- The view blocks of a later state that has them as they were. -/
theorem viewAfterLoss_later {f : FaultId} {sd : Side} {u t t' : State} (h : ViewAfterLoss f sd u t) (hc : t'.comp sd = t.comp sd)
    (hp : t'.pipe sd = t.pipe sd) (hx : t'.store sd = t.store sd) : ViewAfterLoss f sd u t' := by
  unfold ViewAfterLoss BlankStarts ViewStands CompositionStarts at h ⊢
  rw [hc, hp, hx]
  exact h

/-! ### A raise of a view loss (R103, R117) -/

section
variable {f : FaultId} {sd : Side}

theorem reportFault_view (f : FaultId) (r : Report) (u : State) :
    (reportFault f r u).comp = u.comp ∧ (reportFault f r u).pipe = u.pipe ∧ (reportFault f r u).store = u.store
      ∧ (reportFault f r u).display = u.display ∧ (reportFault f r u).freshAngle = u.freshAngle
      ∧ (reportFault f r u).timebase = u.timebase := by
  unfold reportFault; split <;> exact ⟨rfl, rfl, rfl, rfl, rfl, rfl⟩

/-- A display move out of LIVE that is not to BLANKED leaves the view blocks (R80). -/
theorem changeDisplay_hold_view (s : State) (h : (s.display sd).state = .live) : ViewStands sd s (changeDisplay sd .hold s) := by
  refine ⟨?_, rfl, rfl⟩
  unfold changeDisplay
  simp [h, blankAfter]

/-- All that a raise of a view loss does beside the two sets. -/
theorem raise_viewLoss (hf : f.viewLossSide = some sd) (s : State) :
    (raise f s).display sd = displayAfterLoss f sd s
      ∧ (raise f s).queue = queueAfter s s.timebase (raisedReport f s ++ lossMove f sd s)
      ∧ ViewAfterLoss f sd s (raise f s) := by
  unfold raise
  by_cases hc : FaultSet.has s.faults.current f = true
  · simp [hc, displayAfterLoss, raisedReport, lossMove, queueAfter, ViewAfterLoss, ViewStands]
  · have hc' : FaultSet.has s.faults.current f = false := by simpa using hc
    simp only [hc', Bool.false_eq_true, if_false, hf]
    generalize hv : s.setFaults
      { s.faults with current := FaultSet.insert s.faults.current f, accrued := FaultSet.insert s.faults.accrued f } = v
    generalize hu : reportFault f (.faultRaised f false) v = u
    obtain ⟨hcomp, hpipe, hstore, hdisplay, hangle, htime⟩ := reportFault_view f (.faultRaised f false) v
    rw [hu] at hcomp hpipe hstore hdisplay hangle htime
    have hgroup : u.faults.group = s.faults.group := by rw [← hu, reportFault_faults, ← hv]; rfl
    have hqueue : u.queue = queueAfter s s.timebase (raisedReport f s) := by
      rw [← hu, reportFault_queue, ← hv]
      simp only [raisedReport, hc', Bool.not_false, Bool.and_true]
      rfl
    have same : u.comp sd = s.comp sd ∧ u.pipe sd = s.pipe sd ∧ u.store sd = s.store sd ∧ u.display sd = s.display sd
        ∧ u.freshAngle = s.freshAngle ∧ u.timebase = s.timebase := by
      rw [hcomp, hpipe, hstore, hdisplay, hangle, htime, ← hv]; exact ⟨rfl, rfl, rfl, rfl, rfl, rfl⟩
    obtain ⟨hcs, hps, hxs, hds, has, hts⟩ := same
    have moved (new : DisplayState) : (changeDisplay sd new u).queue
        = queueAfter s s.timebase (raisedReport f s ++ [.displayChanged sd (s.display sd).state new]) := by
      rw [changeDisplay_queue, queueAfter_append, hts, hds]
      exact queueAfter_congr _ _ hqueue hgroup
    unfold viewLossRaised
    rw [hds]
    split
    · next hl =>
      rw [hgroup]
      split
      · next hlim =>
        have hlim' : s.faults.group.holdLimit ≠ 0 := by omega
        refine ⟨?_, ?_, ?_⟩
        · rw [changeDisplay_display, hds]
          simp [displayAfterLoss, hc', hl, hlim, DisplayState.holdCountOn]
        · rw [moved, hl]; simp [lossMove, hc', hl, hlim]
        · obtain ⟨hvc, hvp, hvx⟩ := changeDisplay_hold_view (sd := sd) u (hds ▸ hl)
          rw [ViewAfterLoss, if_neg (by simp [hlim'])]
          exact ⟨hvc.trans hcs, hvp.trans hps, hvx.trans hxs⟩
      · next hlim =>
        have hlim' : s.faults.group.holdLimit = 0 := by omega
        refine ⟨?_, ?_, ?_⟩
        · rw [changeDisplay_display, hds]
          simp [displayAfterLoss, hc', hl, hlim, DisplayState.holdCountOn]
        · rw [moved, hl]; simp [lossMove, hc', hl, hlim]
        · rw [ViewAfterLoss, if_pos ⟨hc', hl, hlim'⟩]
          exact blankStarts_congr (changeDisplay_blanked_starts sd u) hcs.symm hps.symm hxs.symm has.symm
    · next hl =>
      have hl' : (s.display sd).state ≠ .live := hl
      refine ⟨by simp [displayAfterLoss, hl', hds], by simp [hqueue, lossMove, hl'], ?_⟩
      rw [ViewAfterLoss, if_neg (by simp [hl'])]
      exact ⟨hcs, hps, hxs⟩

end

/-! ### The judgement of RUNNING (R156) -/

theorem judged_iff (p : Port) : p.judged = true ↔ p.link = .streaming ∨ p.link = .lost := by
  unfold Port.judged; cases p.link <;> simp

/-- RUNNING judged as a port of the side has come to STREAMING or LOST. -/
theorem judgeRunning_after_port {sd : Side} {s u : State} (hport : (u.port sd).link = .streaming ∨ (u.port sd).link = .lost)
    (hother : (u.port (Side.other sd)).link = (s.port (Side.other sd)).link) (hpower : u.power = s.power) :
    (judgeRunning u).power = powerAfterPort sd s ∧ (judgeRunning u).queue = queueAfter u u.timebase (runningReport sd s) := by
  have both : ((u.port .left).judged && (u.port .right).judged) = true
      ↔ (s.port (Side.other sd)).link = .streaming ∨ (s.port (Side.other sd)).link = .lost := by
    rw [Bool.and_eq_true, judged_iff, judged_iff, ← hother]
    cases sd <;> simp [Side.other, hport]
  unfold judgeRunning powerAfterPort runningReport powerAfterPort
  rw [hpower]
  cases hstate : s.power.state with
  | starting =>
    by_cases hj : (s.port (Side.other sd)).link = .streaming ∨ (s.port (Side.other sd)).link = .lost
    · rw [if_pos (both.mpr hj)]
      simp only [changePower, hpower, hstate, hj, and_self, if_true, reduceCtorEq, if_false]
      exact ⟨rfl, rfl⟩
    · rw [if_neg fun hb => hj (both.mp hb)]
      simp [hj, hpower, queueAfter, ← hstate]
  | _ =>
    simp only [reduceCtorEq, false_and, if_false, if_true]
    exact ⟨by rw [hpower, ← hstate], rfl⟩

end Sys2Proof.Proofs.SharedEffects
end

section
set_option Elab.async false
/-! The sensor port's deadlines: the entry to LOST said once, and the retrain time (01). -/

namespace Sys2Proof.Proofs.SensorDeadlines

open Sys2Proof Sys2Proof.Machine Sys2Proof.Proofs.Blocks Sys2Proof.Proofs.SharedEffects

@[simp] theorem other_ne_self (sd : Side) : Side.other sd ≠ sd := by cases sd <;> simp [Side.other]

/-- What a step to LOST from `port` at `now` leaves (R4, R6, R15, R156). -/
def EntersLost (sd : Side) (port : Port) (now : Time) (s t : State) : Prop :=
  t.timebase = now
    ∧ t.port sd = { port with link := .lost, retrainTime := some (now + 200000) }
    ∧ Raised (.sensorLost sd) s t
    ∧ t.display sd = displayAfterLoss (.sensorLost sd) sd s
    ∧ t.queue = queueAfter s now (raisedReport (.sensorLost sd) s ++ lossMove (.sensorLost sd) sd s ++ runningReport sd s)
    ∧ t.runs sd = { s.runs sd with recovery := 0 }
    ∧ t.power = powerAfterPort sd s
    ∧ t.sent = s.sent
    ∧ ViewAfterLoss (.sensorLost sd) sd s t
    ∧ FaultTouches sd [.timebase, .power, .port sd, .runs sd] s t

/-- The entry to LOST, from the event's state with its moment and its port set. -/
theorem enterLost_entersLost (sd : Side) (port : Port) (now : Time) (s : State) :
    EntersLost sd port now s (enterLost sd ((s.setTimebase now).setPort sd port)) := by
  unfold enterLost
  set v : State := (((s.setTimebase now).setPort sd port).setPort sd
    { ((s.setTimebase now).setPort sd port).port sd with
      link := .lost
      retrainTime := some (((s.setTimebase now).setPort sd port).later retrainDelay) }) with hv
  set w : State := v.setRuns sd { v.runs sd with recovery := 0 } with hw
  have frameW : Unchanged [.timebase, .port sd, .runs sd] s w :=
    (((Unchanged.refl.snoc (unchanged_setTimebase s now)).snoc (unchanged_setPort _ sd _)).snoc (unchanged_setPort _ sd _)).snoc
      (unchanged_setRuns _ sd _)
  have hportW : w.port sd = { port with link := .lost, retrainTime := some (now + 200000) } := by simp [hw, hv]; rfl
  have hruns : w.runs sd = { s.runs sd with recovery := 0 } := by simp [hw, hv]
  have hraise := unchanged_raise_viewLoss w sd (f := .sensorLost sd) rfl
  have raised := raise_raised (.sensorLost sd) w
  obtain ⟨hdisplay, hqueue, hview⟩ := raise_viewLoss (f := .sensorLost sd) (sd := sd) rfl w
  set x : State := raise (.sensorLost sd) w with hx
  have hportX : x.port sd = w.port sd := hraise (.port sd) (by simp [faultParts])
  have hother : x.port (Side.other sd) = s.port (Side.other sd) :=
    (hraise (.port (Side.other sd)) (by simp [faultParts])).trans (frameW (.port (Side.other sd)) (by simp))
  have hpower : x.power = s.power := (hraise .power (by simp [faultParts])).trans (frameW .power (by simp))
  obtain ⟨hp, hq⟩ := judgeRunning_after_port (sd := sd) (s := s) (u := x) (.inr (by rw [hportX, hportW])) (by rw [hother]) hpower
  have hjudge := unchanged_judgeRunning x
  have hgroup : x.faults.group = s.faults.group := hraise .faultGroup (by simp [faultParts])
  have htime : x.timebase = now := hraise .timebase (by simp [faultParts])
  refine ⟨(hjudge .timebase (by simp)).trans htime, ?_, ?_, ?_, ?_, ?_, hp, ?_, ?_, ?_⟩
  · rw [hjudge (.port sd) (by simp), hportX, hportW]
  · unfold Raised
    rw [(hjudge .faultSets (by simp)).1, (hjudge .faultSets (by simp)).2]
    exact raised
  · exact (hjudge (.display sd) (by simp)).trans hdisplay
  · rw [hq, htime, queueAfter_append]
    exact queueAfter_congr _ _ hqueue hgroup
  · rw [hjudge (.runs sd) (by simp), hraise (.runs sd) (by simp [faultParts]), hruns]
  · exact (hjudge .sent (by simp)).trans ((hraise .sent (by simp [faultParts])).trans (frameW .sent (by simp)))
  · exact viewAfterLoss_later (viewAfterLoss_congr hview rfl rfl rfl rfl rfl rfl rfl) (hjudge (.comp sd) (by simp))
      (hjudge (.pipe sd) (by simp)) (hjudge (.store sd) (by simp))
  · exact ((frameW.mono (by simp)).trans (hraise.mono (by simp [faultParts]))).trans (hjudge.mono (by simp [faultParts]))

/-- Settles O14: the deadline counted, then the entry to LOST. -/
theorem trainingDeadlineFailsTheTraining : Obligations.TrainingDeadlineFailsTheTraining := by
  intro sd s now hlink hdue
  have due : (s.port sd).trainingDue = some now := by simp [Port.trainingDue, hlink, hdue]
  have next : exec (.trainingDeadline sd) s = .next (enterLost sd ((s.setTimebase now).setPort sd
      { s.port sd with
        trainingDeadline := none
        counters := { (s.port sd).counters with trainingFailures := satInc (s.port sd).counters.trainingFailures } })) := by
    simp only [exec, execTrainingDeadline, due]
  exact ⟨_, next, enterLost_entersLost sd _ now s⟩

/-- Settles O16: the link's record cleared and the loss counted, then the entry to LOST. -/
theorem lossDeadlineLosesTheLink : Obligations.LossDeadlineLosesTheLink := by
  intro sd s now hlink hdue
  have due : (s.port sd).lossDue = some now := by simp [Port.lossDue, hlink, hdue]
  have next : exec (.lossDeadline sd) s = .next (enterLost sd ((s.setTimebase now).setPort sd
      { s.port sd with
        inProgress := none, lossDeadline := none, lastCounter := none, lastExpose := none, outstanding := false
        resendDone := false, unsettledRun := 0
        counters := { (s.port sd).counters with losses := satInc (s.port sd).counters.losses } })) := by
    simp only [exec, execLossDeadline, due]
  exact ⟨_, next, enterLost_entersLost sd _ now s⟩

/-- Settles O15: in LOST and awake a training begins; where any of the three conditions fails there is no retrain time to reach. -/
theorem retrainTimeBeginsTraining : Obligations.RetrainTimeBeginsTraining := by
  intro sd s
  refine ⟨fun now hlink hdue hawake => ?_, fun hno => ?_⟩
  · have due : s.retrainDue sd = some now := TheStep.retrainDue_eq_some.mpr ⟨hlink, hawake, hdue⟩
    simp only [exec, execRetrainTime, due, startTraining, State.setPort_port, hlink]
    simp [State.setPort, State.emit, State.setTimebase, State.later, trainingTimeout]
  · have none : s.retrainDue sd = none := by
      rw [Option.eq_none_iff_forall_ne_some]
      intro x hx
      obtain ⟨hlink, hawake, hdue⟩ := TheStep.retrainDue_eq_some.mp hx
      rcases hno with h | h | h | h
      · exact h hlink
      · simp [hdue] at h
      · simp [h] at hawake
      · simp [h] at hawake
    simp only [exec, execRetrainTime, none]

end Sys2Proof.Proofs.SensorDeadlines
end

section
set_option Elab.async false
/-! The completion of a training (R3, R141, R142, R149, R150): the two judgements of the context store one after the other, then the
entry to STREAMING. -/

namespace Sys2Proof.Proofs.TrainingCompletion

open Sys2Proof Sys2Proof.Machine Sys2Proof.Proofs.Blocks Sys2Proof.Proofs.SharedEffects Sys2Proof.Proofs.SensorDeadlines

section
variable {sd : Side} {identity : BitVec 64}

/-! ### The live state against the identity (R141) -/

/-- The identity copy is that of the sensor, or there was none. -/
def SameSensor (c : Context) (identity : BitVec 64) : Prop := c.identityCopy = none ∨ c.identityCopy = some identity

theorem not_sameSensor_iff (c : Context) (identity : BitVec 64) :
    ¬SameSensor c identity ↔ ∃ old, c.identityCopy = some old ∧ old ≠ identity := by
  unfold SameSensor
  cases c.identityCopy <;> simp

/-- The live state stands under the same sensor. -/
theorem judgeRetained_same {u : State} (h : SameSensor (u.context sd) identity) :
    judgeRetained sd identity u = u.setContext sd { u.context sd with identityCopy := some identity }
      ∨ judgeRetained sd identity u = u ∧ (u.context sd).identityCopy = some identity := by
  unfold judgeRetained
  rcases h with h | h
  · exact .inl (by simp [h])
  · exact .inr ⟨by simp [h], h⟩

/-- What the first judgement leaves of a side. -/
structure Retains (sd : Side) (identity : BitVec 64) (u v : State) : Prop where
  same : SameSensor (u.context sd) identity →
    v.exposure sd = u.exposure sd ∧ v.glare sd = u.glare sd ∧ v.display sd = u.display sd
      ∧ v.context sd = { u.context sd with identityCopy := some identity }
  other : ∀ old, (u.context sd).identityCopy = some old → old ≠ identity →
    v.exposure sd =
        { u.exposure sd with e := clampNat 128 (u.pipe sd).expAct.eMin (u.pipe sd).expAct.eMax, gainR := 256, gainB := 256 }
      ∧ v.glare sd = { u.glare sd with grid := List.replicate 128 0, tags := List.replicate 128 false }
      ∧ v.display sd = { u.display sd with backlight := min (u.night.target.get sd) 1023 }
      ∧ v.context sd =
        { u.context sd with
          framesAdapted := 0
          identityCopy := some identity
          lastOutcome := .discardedRetained
          retainedDiscards := satInc (u.context sd).retainedDiscards }

theorem judgeRetained_retains (u : State) : Retains sd identity u (judgeRetained sd identity u) where
  same h := by
    rcases judgeRetained_same h with he | ⟨he, hc⟩
    · simp [he]
    · rw [he]
      refine ⟨rfl, rfl, rfl, ?_⟩
      rw [← hc]
  other old hold hne := by
    obtain ⟨hexposure, hglare, hcontext, hdisplay⟩ := installDefault_eq sd u
    simp [judgeRetained, hold, hne, hexposure, hglare, hcontext, hdisplay]

/-! ### The pending restore against the identity (R149, R150) -/

theorem applyRestore_eq (i : Image) (v : State) :
    let t := applyRestore sd i v
    t.exposure sd =
        { v.exposure sd with
          e := clampNat i.e (v.pipe sd).expAct.eMin (v.pipe sd).expAct.eMax
          gainR := clampNat i.gainR 128 1023
          gainB := clampNat i.gainB 128 1023 }
      ∧ t.glare sd =
        { v.glare sd with
          grid := i.grid.map fun a => min a (v.glare sd).act.aMax
          tags := if i.framesAdapted < 30 then List.replicate 128 false else i.tags }
      ∧ t.display sd = { v.display sd with backlight := min i.backlight 1023 }
      ∧ t.night = (if v.night.sourceSeen then v.night else { v.night with state := i.night, dwellCount := 0, dwellTarget := none })
      ∧ t.context sd =
        { v.context sd with
          framesAdapted := i.framesAdapted
          committedNight := i.night
          lastOutcome := .applied
          restoresApplied := satInc (v.context sd).restoresApplied }
      ∧ t.faults = v.faults
      ∧ t.queue = queueAfter v v.timebase [.contextApplied sd] := by
  simp only [applyRestore, install, adoptNight, allEmpty_eq, inLimits]
  by_cases hseen : v.night.sourceSeen = true
  · simp [hseen]; rfl
  · simp [hseen]; rfl

theorem rejectRestore_eq (v : State) :
    let t := rejectRestore sd v
    t.context sd =
        { v.context sd with lastOutcome := .rejectedIdentity, restoresRejected := satInc (v.context sd).restoresRejected }
      ∧ t.faults = { v.faults with accrued := FaultSet.insert v.faults.accrued (.contextRejected sd) }
      ∧ t.queue = queueAfter v v.timebase
          ((if v.faults.unmasked (.contextRejected sd) then [.faultRaised (.contextRejected sd) false] else []) ++ [.contextRejected sd]) := by
  have frame := unchanged_raiseEvent v (.contextRejected sd)
  have hfaults := raiseEvent_faults (.contextRejected sd) v
  have hqueue := raiseEvent_queue (.contextRejected sd) v
  refine ⟨?_, ?_, ?_⟩
  · have hcontext := frame (.context sd) (by simp)
    simp only [Part.same] at hcontext
    simp [rejectRestore, hcontext]
  · simpa [rejectRestore] using hfaults
  · refine report_queue_after _ hqueue ?_ (frame .timebase (by simp))
    rw [hfaults]

theorem judgeRestore_none {v : State} (h : (v.context sd).pendingRestore = none) : judgeRestore sd identity v = v := by
  simp [judgeRestore, h]

theorem judgeRestore_applied {v : State} {i : Image} (h : (v.context sd).pendingRestore = some i) (hi : i.identity = identity) :
    judgeRestore sd identity v
      = (applyRestore sd i v).setContext sd { (applyRestore sd i v).context sd with pendingRestore := none } := by
  simp [judgeRestore, h, hi]

theorem judgeRestore_rejected {v : State} {i : Image} (h : (v.context sd).pendingRestore = some i) (hi : i.identity ≠ identity) :
    judgeRestore sd identity v
      = (rejectRestore sd v).setContext sd { (rejectRestore sd v).context sd with pendingRestore := none } := by
  simp [judgeRestore, h, hi]

/-! ### The whole completion -/

/-- The first judgement touches nothing that the second reads beside the side's own record. -/
theorem judgeRetained_reads (u : State) :
    let v := judgeRetained sd identity u
    v.faults = u.faults ∧ v.queue = u.queue ∧ v.night = u.night ∧ v.timebase = u.timebase ∧ v.pipe sd = u.pipe sd
      ∧ (v.context sd).pendingRestore = (u.context sd).pendingRestore ∧ (v.context sd).identityCopy = some identity
      ∧ (v.glare sd).act = (u.glare sd).act := by
  have frame := unchanged_judgeRetained u sd identity
  have record := judgeRetained_retains (sd := sd) (identity := identity) u
  have faults : (judgeRetained sd identity u).faults = u.faults := by
    unfold judgeRetained; simp only; split
    · rfl
    · split <;> rfl
  refine ⟨faults, frame .queue (by simp), frame .night (by simp), frame .timebase (by simp), frame (.pipe sd) (by simp), ?_⟩
  by_cases h : SameSensor (u.context sd) identity
  · obtain ⟨-, hglare, -, hcontext⟩ := record.same h
    rw [hcontext, hglare]; exact ⟨rfl, rfl, rfl⟩
  · obtain ⟨old, hold, hne⟩ := (not_sameSensor_iff _ _).mp h
    obtain ⟨-, hglare, -, hcontext⟩ := record.other old hold hne
    rw [hcontext, hglare]; exact ⟨rfl, rfl, rfl⟩

variable (sd identity) in
/-- Both judgements together: the reports, the current set, and the side's record. -/
theorem judgeTraining_reads (u : State) :
    let w := judgeTraining sd identity u
    w.queue = queueAfter u u.timebase (restoreReports sd identity u) ∧ w.faults.current = u.faults.current
      ∧ (w.context sd).identityCopy = some identity ∧ (w.context sd).pendingRestore = none := by
  obtain ⟨hfaults, hqueue, -, htime, -, hpending, hcopy, -⟩ := judgeRetained_reads (sd := sd) (identity := identity) u
  unfold judgeTraining restoreReports
  generalize judgeRetained sd identity u = v at *
  have before (l : List Report) : queueAfter v v.timebase l = queueAfter u u.timebase l := by
    rw [htime]; exact queueAfter_congr _ _ hqueue (by rw [hfaults])
  cases hp : (u.context sd).pendingRestore with
  | none =>
    rw [judgeRestore_none (hpending.trans hp)]
    exact ⟨hqueue, by rw [hfaults], hcopy, hpending.trans hp⟩
  | some i =>
    by_cases hi : i.identity = identity
    · rw [judgeRestore_applied (hpending.trans hp) hi]
      obtain ⟨-, -, -, -, hcontext, hf, hq⟩ := applyRestore_eq (sd := sd) i v
      simp only [hi, if_true, State.setContext_context, State.setContext_get_queue, State.setContext_get_faults, hq, before, hf,
        hfaults, hcontext, hcopy, and_self]
    · rw [judgeRestore_rejected (hpending.trans hp) hi]
      obtain ⟨hcontext, hf, hq⟩ := rejectRestore_eq (sd := sd) v
      simp only [hi, if_false, State.setContext_context, State.setContext_get_queue, State.setContext_get_faults, hq, before, hf,
        hfaults, hcontext, hcopy, and_self]

/-- The entry to STREAMING (R3, R12). -/
theorem startStreaming_eq (w : State) :
    (startStreaming sd w).port sd =
        { w.port sd with
          lastExpose := some ⟨(w.exposure sd).e, (w.pipe sd).expAct.ratioCode⟩
          outstanding := true
          resendDone := false
          unsettledRun := 0
          lossDeadline := some (w.timebase + 50000)
          link := .streaming }
      ∧ (startStreaming sd w).sent = w.sent ++ [.stream sd, .expose sd (w.exposure sd).e (w.pipe sd).expAct.ratioCode] := by
  refine ⟨?_, ?_⟩
  · simp [startStreaming, sendExpose, State.later, lossTimeout]
  · simp [startStreaming, sendExpose, State.later, lossTimeout]

theorem unchanged_startStreaming (w : State) : Unchanged [.port sd, .sent] w (startStreaming sd w) :=
  ((Unchanged.refl.snoc (unchanged_emit w _)).snoc (unchanged_sendExpose _ sd)).snoc (unchanged_setPort _ sd _)

variable (sd identity) in
/-- The state of a training completion after both judgements. -/
def judged (revision : Byte) (s : State) : State := judgeTraining sd identity (storeIdentity sd identity revision s)

variable (sd identity) in
/-- The state of a training completion. -/
def completed (revision : Byte) (s : State) : State := judgeRunning (startStreaming sd (judged sd identity revision s))

theorem exec_identityRecord {s : State} (h : (s.port sd).link = .training) (revision : Byte) :
    exec (.identityRecord sd identity revision) s = .next (completed sd identity revision s) := by
  simp only [exec, execIdentityRecord, h]; rfl

theorem unchanged_storeIdentity (revision : Byte) (s : State) : Unchanged [.port sd, .runs sd] s (storeIdentity sd identity revision s) :=
  (Unchanged.refl.snoc (unchanged_setPort s sd _)).snoc (unchanged_setRuns _ sd _)

theorem unchanged_completed (revision : Byte) (s : State) :
    Unchanged [.port sd, .sent, .power, .queue] (judged sd identity revision s) (completed sd identity revision s) :=
  ((unchanged_startStreaming _).mono (by simp)).trans ((unchanged_judgeRunning _).mono (by simp))

/-- The reports of a training completion. -/
theorem completed_queue (revision : Byte) (s : State) :
    (completed sd identity revision s).power = powerAfterPort sd s
      ∧ (completed sd identity revision s).queue = queueAfter s s.timebase (restoreReports sd identity s ++ runningReport sd s) := by
  obtain ⟨hqueue, -, -, -⟩ := judgeTraining_reads sd identity (storeIdentity sd identity revision s)
  have stored := unchanged_storeIdentity (sd := sd) (identity := identity) revision s
  have judging := unchanged_judgeTraining (storeIdentity sd identity revision s) sd identity
  have streaming := unchanged_startStreaming (sd := sd) (judged sd identity revision s)
  have before := (stored.mono (l' := [.port sd, .runs sd, .exposure sd, .glare sd, .context sd, .display sd, .night, .faultSets, .queue, .sent])
    (by simp)).trans ((judging.mono (by simp)).trans (streaming.mono (by simp)))
  obtain ⟨hp, hq⟩ := judgeRunning_after_port (sd := sd) (s := s) (u := startStreaming sd (judged sd identity revision s))
    (.inl (by rw [(startStreaming_eq _).1])) (by rw [before (.port (Side.other sd)) (by simp)]) (before .power (by simp))
  refine ⟨hp, hq.trans ?_⟩
  rw [before .timebase (by simp), queueAfter_append]
  exact queueAfter_congr _ _ ((streaming .queue (by simp)).trans hqueue) (before .faultGroup (by simp))

end

/-- Settles O12: the training stored, both judgements, the entry to STREAMING, RUNNING judged. -/
theorem identityRecordCompletesTraining : Obligations.IdentityRecordCompletesTraining := by
  intro sd identity revision s
  refine ⟨fun hlink => ⟨_, exec_identityRecord hlink revision, ?_⟩, fun hno => ?_⟩
  · have stored := unchanged_storeIdentity (sd := sd) (identity := identity) revision s
    have judging := unchanged_judgeTraining (storeIdentity sd identity revision s) sd identity
    have done := unchanged_completed (sd := sd) (identity := identity) revision s
    have running := unchanged_judgeRunning (startStreaming sd (judged sd identity revision s))
    obtain ⟨hport, hsent⟩ := startStreaming_eq (sd := sd) (judged sd identity revision s)
    obtain ⟨-, hcurrent, hcopy, hpending⟩ := judgeTraining_reads sd identity (storeIdentity sd identity revision s)
    obtain ⟨hpower, hqueue⟩ := completed_queue (sd := sd) (identity := identity) revision s
    have he : (completed sd identity revision s).exposure sd = (judged sd identity revision s).exposure sd := done (.exposure sd) (by simp)
    have hp : (judged sd identity revision s).port sd = (storeIdentity sd identity revision s).port sd := judging (.port sd) (by simp)
    have hpipe : (judged sd identity revision s).pipe sd = s.pipe sd := (judging (.pipe sd) (by simp)).trans (stored (.pipe sd) (by simp))
    have htime : (judged sd identity revision s).timebase = s.timebase :=
      (judging .timebase (by simp)).trans (stored .timebase (by simp))
    have hsent' : (judged sd identity revision s).sent = s.sent := (judging .sent (by simp)).trans (stored .sent (by simp))
    rw [he]
    refine ⟨?_, ?_, ?_, ?_, hpower, ?_, ?_, hqueue, ?_⟩
    · rw [show (completed sd identity revision s).port sd = _ from (running (.port sd) (by simp)).trans hport, hp, hpipe, htime]
      simp [storeIdentity]
    · rw [show (completed sd identity revision s).sent = _ from (running .sent (by simp)).trans hsent, hsent', hpipe]
    · rw [done (.context sd) (by simp)]; exact hcopy
    · rw [done (.context sd) (by simp)]; exact hpending
    · rw [done (.runs sd) (by simp), show (judged sd identity revision s).runs sd = _ from judging (.runs sd) (by simp)]
      simp [storeIdentity, Runs.onTraining]
    · exact (done .faultSets (by simp)).1.trans hcurrent
    · exact (stored.mono (by simp)).trans ((judging.mono (by simp)).trans (done.mono (by simp)))
  · cases hl : (s.port sd).link with
    | training => exact absurd hl hno
    | _ => simp only [exec, execIdentityRecord, hl]

/-! ### The four cases of the judgement -/

section
variable {sd : Side} {identity : BitVec 64} (revision : Byte) (s : State)

/-- What the completion shows of a side is what the two judgements leave, from the side's state at the event. -/
theorem completed_shows :
    let v := judgeRetained sd identity (storeIdentity sd identity revision s)
    let w := judgeRestore sd identity v
    let t := completed sd identity revision s
    Retains sd identity s v
      ∧ (v.context sd).pendingRestore = (s.context sd).pendingRestore ∧ (v.glare sd).act = (s.glare sd).act
      ∧ v.pipe sd = s.pipe sd ∧ v.night = s.night ∧ v.faults.accrued = s.faults.accrued
      ∧ t.exposure sd = w.exposure sd ∧ t.glare sd = w.glare sd ∧ t.display sd = w.display sd ∧ t.night = w.night
      ∧ t.context sd = w.context sd ∧ t.faults.accrued = w.faults.accrued
      ∧ t.queue = queueAfter s s.timebase (restoreReports sd identity s ++ runningReport sd s) := by
  have record := judgeRetained_retains (sd := sd) (identity := identity) (storeIdentity sd identity revision s)
  obtain ⟨hfaults, -, hnight, -, hpipe, hpending, -, hact⟩ :=
    judgeRetained_reads (sd := sd) (identity := identity) (storeIdentity sd identity revision s)
  have done := unchanged_completed (sd := sd) (identity := identity) revision s
  exact ⟨⟨record.same, record.other⟩, hpending, hact, hpipe, hnight, by rw [hfaults]; rfl, done (.exposure sd) (by simp),
    done (.glare sd) (by simp), done (.display sd) (by simp), done .night (by simp), done (.context sd) (by simp),
    (done .faultSets (by simp)).2, (completed_queue revision s).2⟩

end

/-- Settles O13: the first judgement by the identity copy, the second by the pending restore. -/
theorem trainingJudgesTheContext : Obligations.TrainingJudgesTheContext := by
  intro sd identity revision s hlink c x g d lo hi
  obtain ⟨retained, hpending, hact, hpipe, hnight, haccrued, hx, hg, hd, hn, hc, ha, hq⟩ :=
    completed_shows (sd := sd) (identity := identity) revision s
  refine ⟨_, exec_identityRecord hlink revision, fun hp hsame => ?_, fun hp old hold hne => ?_, fun i hp hi => ?_, fun i hp hi => ?_⟩
  · rw [judgeRestore_none (hpending.trans hp)] at hx hg hd hn hc ha
    obtain ⟨rx, rg, rd, rc⟩ := retained.same hsame
    refine ⟨hx.trans rx, hg.trans rg, hd.trans rd, hn.trans hnight, hc.trans rc, ha.trans haccrued, ?_⟩
    simpa [restoreReports, show (s.context sd).pendingRestore = none from hp] using hq
  · rw [judgeRestore_none (hpending.trans hp)] at hx hg hd hn hc ha
    obtain ⟨rx, rg, rd, rc⟩ := retained.other old hold hne
    refine ⟨hx.trans rx, hg.trans rg, hd.trans rd, hn.trans hnight, hc.trans rc, ha.trans haccrued, ?_⟩
    simpa [restoreReports, show (s.context sd).pendingRestore = none from hp] using hq
  · rw [judgeRestore_applied (hpending.trans hp) hi] at hx hg hd hn hc ha
    obtain ⟨ax, ag, ad, an, ac, af, -⟩ := applyRestore_eq (sd := sd) i (judgeRetained sd identity (storeIdentity sd identity revision s))
    simp only [State.setContext_get_exposure, State.setContext_get_glare, State.setContext_get_display, State.setContext_get_night,
      State.setContext_context, State.setContext_get_faults] at hx hg hd hn hc ha
    rw [ax, hpipe] at hx
    rw [ag, hact] at hg
    rw [ad] at hd
    rw [an, hnight] at hn
    rw [ac] at hc
    rw [af] at ha
    have reports : restoreReports sd identity s = [.contextApplied sd] := by
      simp [restoreReports, show (s.context sd).pendingRestore = some i from hp, hi]
    rw [reports] at hq
    by_cases hsame : c.identityCopy = none ∨ c.identityCopy = some identity
    · obtain ⟨rx, rg, rd, rc⟩ := retained.same hsame
      rw [rx] at hx; rw [rg] at hg; rw [rd] at hd; rw [rc] at hc
      exact ⟨hx, hg, hd, hn, by rw [if_pos hsame]; exact hc, ha.trans haccrued, hq⟩
    · obtain ⟨old, hold, hne⟩ := (not_sameSensor_iff _ _).mp hsame
      obtain ⟨rx, rg, rd, rc⟩ := retained.other old hold hne
      rw [rx] at hx; rw [rg] at hg; rw [rd] at hd; rw [rc] at hc
      exact ⟨hx, hg, hd, hn, by rw [if_neg hsame]; exact hc, ha.trans haccrued, hq⟩
  · have frame := unchanged_rejectRestore (judgeRetained sd identity (storeIdentity sd identity revision s)) sd
    rw [judgeRestore_rejected (hpending.trans hp) hi] at hx hg hd hn hc ha
    obtain ⟨rjc, rjf, -⟩ := rejectRestore_eq (sd := sd) (judgeRetained sd identity (storeIdentity sd identity revision s))
    simp only [State.setContext_get_exposure, State.setContext_get_glare, State.setContext_get_display, State.setContext_get_night,
      State.setContext_context, State.setContext_get_faults] at hx hg hd hn hc ha
    rw [show _ = _ from frame (.exposure sd) (by simp)] at hx
    rw [show _ = _ from frame (.glare sd) (by simp)] at hg
    rw [show _ = _ from frame (.display sd) (by simp)] at hd
    rw [show _ = _ from frame .night (by simp), hnight] at hn
    rw [rjc] at hc
    rw [rjf] at ha
    have reports : restoreReports sd identity s
        = (if s.faults.unmasked (.contextRejected sd) then [.faultRaised (.contextRejected sd) false] else []) ++ [.contextRejected sd] := by
      simp [restoreReports, show (s.context sd).pendingRestore = some i from hp, hi]
    rw [reports, List.append_assoc] at hq
    by_cases hsame : c.identityCopy = none ∨ c.identityCopy = some identity
    · obtain ⟨rx, rg, rd, rc⟩ := retained.same hsame
      rw [rc] at hc
      refine ⟨hn, by rw [if_pos hsame, if_pos hsame]; exact hc, ha.trans (by rw [haccrued]), hq,
        fun _ => ⟨hx.trans rx, hg.trans rg, hd.trans rd⟩, fun old hold hne => absurd hsame ?_⟩
      exact (not_sameSensor_iff _ _).mpr ⟨old, hold, hne⟩
    · obtain ⟨old, hold, hne⟩ := (not_sameSensor_iff _ _).mp hsame
      obtain ⟨rx, rg, rd, rc⟩ := retained.other old hold hne
      rw [rc] at hc
      exact ⟨hn, by rw [if_neg hsame, if_neg hsame]; exact hc, ha.trans (by rw [haccrued]), hq, fun h => absurd h hsame,
        fun _ _ _ => ⟨hx.trans rx, hg.trans rg, hd.trans rd⟩⟩

end Sys2Proof.Proofs.TrainingCompletion
end

section
set_option Elab.async false
/-! Headers, lines, discards and the repair of bad lines (R8 to R11). -/

namespace Sys2Proof.Proofs.FrameIntake

open Sys2Proof Sys2Proof.Machine

/-! ### Repair (R10) -/

section
variable (firstGood : Array Sample)

theorem repairFrom_length (above : Option (Array Sample)) (lines : List Line) :
    (repairFrom firstGood above lines).length = lines.length := by
  induction lines generalizing above with
  | nil => rfl
  | cons l rest ih => simp only [repairFrom]; split <;> simp [ih]

/-- A good line stands. -/
theorem repairFrom_good {lines : List Line} {i : Nat} {l : Line} (above : Option (Array Sample)) (hl : lines[i]? = some l)
    (hgood : l.good = true) : (repairFrom firstGood above lines)[i]? = some l.samples := by
  induction lines generalizing above i with
  | nil => simp at hl
  | cons a rest ih =>
    cases i with
    | zero =>
      obtain rfl : a = l := by simpa using hl
      simp [repairFrom, hgood]
    | succ i =>
      have hl' : rest[i]? = some l := by simpa using hl
      simp only [repairFrom]
      split <;> simpa using ih _ hl'

/-- A bad line with no good line above it within the list takes what is above the list. -/
theorem repairFrom_none_above {lines : List Line} {i : Nat} {l : Line} (above : Option (Array Sample)) (hl : lines[i]? = some l)
    (hbad : l.good = false) (hnone : ∀ k n, k < i → lines[k]? = some n → n.good = false) :
    (repairFrom firstGood above lines)[i]? = some (above.getD firstGood) := by
  induction lines generalizing i with
  | nil => simp at hl
  | cons a rest ih =>
    cases i with
    | zero =>
      obtain rfl : a = l := by simpa using hl
      simp [repairFrom, hbad]
    | succ i =>
      have ha : a.good = false := hnone 0 a (Nat.succ_pos i) rfl
      simpa [repairFrom, ha] using ih (by simpa using hl) fun k n hk hn => hnone (k + 1) n (Nat.succ_lt_succ hk) (by simpa using hn)

/-- A bad line takes the nearest good line above it. -/
theorem repairFrom_above {lines : List Line} {i j : Nat} {l m : Line} (above : Option (Array Sample)) (hl : lines[i]? = some l)
    (hbad : l.good = false) (hji : j < i) (hm : lines[j]? = some m) (hgood : m.good = true)
    (hbetween : ∀ k n, j < k → k < i → lines[k]? = some n → n.good = false) :
    (repairFrom firstGood above lines)[i]? = some m.samples := by
  induction lines generalizing above i j with
  | nil => simp at hl
  | cons a rest ih =>
    obtain ⟨i, rfl⟩ : ∃ i', i = i' + 1 := ⟨i - 1, by omega⟩
    have hl' : rest[i]? = some l := by simpa using hl
    cases j with
    | zero =>
      obtain rfl : a = m := by simpa using hm
      have hnone : ∀ k n, k < i → rest[k]? = some n → n.good = false := fun k n hk hn =>
        hbetween (k + 1) n (Nat.succ_pos k) (Nat.succ_lt_succ hk) (by simpa using hn)
      simpa [repairFrom, hgood] using repairFrom_none_above firstGood (some a.samples) hl' hbad hnone
    | succ j =>
      have between : ∀ k n, j < k → k < i → rest[k]? = some n → n.good = false := fun k n hk hk' hn =>
        hbetween (k + 1) n (Nat.succ_lt_succ hk) (Nat.succ_lt_succ hk') (by simpa using hn)
      simp only [repairFrom]
      split <;> simpa using ih _ hl' (Nat.lt_of_succ_lt_succ hji) (by simpa using hm) between

end

/-- The first good line of a list, where it stands at place j. -/
theorem find_good {lines : List Line} {j : Nat} {m : Line} (hm : lines[j]? = some m) (hgood : m.good = true)
    (hfirst : ∀ k n, k < j → lines[k]? = some n → n.good = false) : lines.find? (fun l => l.good) = some m := by
  induction lines generalizing j with
  | nil => simp at hm
  | cons a rest ih =>
    cases j with
    | zero =>
      obtain rfl : a = m := by simpa using hm
      simp [hgood]
    | succ j =>
      have ha : a.good = false := hfirst 0 a (Nat.succ_pos j) rfl
      simpa [ha] using ih (by simpa using hm) fun k n hk hn => hfirst (k + 1) n (Nat.succ_lt_succ hk) (by simpa using hn)

/-- Settles O20: repair from the top down with nothing above, the first good line standing in for what is above. -/
theorem repairTakesTheNearestGoodLine : Obligations.RepairTakesTheNearestGoodLine := by
  intro lines
  refine ⟨repairFrom_length _ _ _, fun i l hl => ⟨fun hgood => repairFrom_good _ _ hl hgood,
    fun hbad j m hji hm hgood hbetween => repairFrom_above _ _ hl hbad hji hm hgood hbetween,
    fun hbad hnone j m hij hm hgood hbetween => ?_⟩⟩
  have first : lines.find? (fun l => l.good) = some m := by
    refine find_good hm hgood fun k n hk hn => ?_
    rcases Nat.lt_trichotomy k i with h | h | h
    · exact hnone k n h hn
    · obtain rfl : l = n := Option.some.inj (hl.symm.trans (h ▸ hn))
      exact hbad
    · exact hbetween k n h hk hn
  simpa [repair, first] using repairFrom_none_above (((lines.find? fun l => l.good).map Line.samples).getD #[]) none hl hbad hnone

/-! ### Headers and lines (R8, R9) -/

theorem wellFormedLine_iff (samples : Array Sample) : wellFormedLine samples = true ↔ samples.size = 1920 := by
  simp [wellFormedLine]

/-- A line taken, in STREAMING with a frame in progress. -/
theorem exec_sensorLine {sd : Side} {samples : Array Sample} {crc : BitVec 16} {s : State} {f : FrameInProgress} (hsize : samples.size = 1920)
    (hlink : (s.port sd).link = .streaming) (hf : (s.port sd).inProgress = some f) :
    exec (.sensorLine sd samples crc) s = .next (storeLine sd f samples crc s) := by
  simp only [exec, execSensorLine, (wellFormedLine_iff samples).mpr hsize, if_true, hlink, hf]

/-- The port with a line stored. -/
def linePort (p : Port) (f : FrameInProgress) (samples : Array Sample) (crc : BitVec 16) : Port :=
  { p with inProgress := some (withLine f samples crc), counters := lineCounted p.counters samples crc }

theorem storeLine_eq (sd : Side) (f : FrameInProgress) (samples : Array Sample) (crc : BitVec 16) (s : State) :
    storeLine sd f samples crc s =
      if f.lines.size + 1 = 2160 then completeFrame sd (withLine f samples crc) (s.setPort sd (linePort (s.port sd) f samples crc))
      else s.setPort sd (linePort (s.port sd) f samples crc) := by
  simp [storeLine, linePort, withLine, lineCounted, linesPerFrame]

/-- Settles O17: by the link state, the frame in progress and the size of the line. -/
theorem headersAndLinesBuildTheFrame : Obligations.HeadersAndLinesBuildTheFrame := by
  refine ⟨fun sd counter exposure ratio healthy s => ⟨fun hlink hnone => ?_, fun hlink hsome => ?_, fun hno => ?_⟩,
    fun sd samples crc s => ⟨fun hsize hlink f hf hnot => ?_, fun hsize hno => ?_, fun hsize => ?_⟩⟩
  · simp only [exec, execSensorHeader, hlink, hnone]
    rfl
  · obtain ⟨f, hf⟩ := Option.ne_none_iff_exists'.mp hsome
    simp only [exec, execSensorHeader, hlink, hf]
    rfl
  · cases hl : (s.port sd).link with
    | streaming => exact absurd hl hno
    | _ => simp only [exec, execSensorHeader, hl]
  · rw [exec_sensorLine hsize hlink hf, storeLine_eq, if_neg hnot]
    rfl
  · simp only [exec, execSensorLine, (wellFormedLine_iff samples).mpr hsize, if_true]
    split
    · next hl hp => rcases hno with h | h <;> simp_all
    · rfl
  · have bad : wellFormedLine samples = false := by
      rw [Bool.eq_false_iff]; exact fun h => hsize ((wellFormedLine_iff samples).mp h)
    simp only [exec, execSensorLine, bad, Bool.false_eq_true, if_false]

/-! ### Complete frames (R11) -/

theorem badLines_eq (lines : Array Line) : badLines lines = (lines.toList.filter fun l => !l.good).length := List.countP_eq_length_filter

/-- The first check that fails, and the counter of its cause. -/
theorem discardCounted_eq (c : PortCounters) (last : Option (BitVec 16)) (f : FrameInProgress) :
    discardCounted c last f = (judgeFrame f last).map c.discarded := by
  unfold discardCounted judgeFrame
  rw [badLines_eq]
  simp only [Bool.or_eq_true, Bool.not_eq_true', decide_eq_true_eq, or_assoc, maxBadLines]
  split
  · rfl
  · split
    · next hlines => simp [hlines, PortCounters.discarded]
    · next hlines =>
      split
      · simp [PortCounters.discarded]
      · simp

theorem completeFrame_discarded {sd : Side} {f : FrameInProgress} {u : State} {why : Discard}
    (h : judgeFrame f (u.port sd).lastCounter = some why) :
    completeFrame sd f u = breakRecovery sd (u.setPort sd { u.port sd with inProgress := none, counters := (u.port sd).counters.discarded why }) := by
  simp only [completeFrame, h]

/-- Settles O18: the first failing check of R11 decides the counter. -/
theorem lastLineDiscardsABadFrame : Obligations.LastLineDiscardsABadFrame := by
  intro sd samples crc s f counted p hsize hlink hf hlines hdiscard
  rw [discardCounted_eq, Option.map_eq_some_iff] at hdiscard
  obtain ⟨why, hwhy, rfl⟩ := hdiscard
  rw [exec_sensorLine hsize hlink hf, storeLine_eq, if_pos (by omega),
    completeFrame_discarded (why := why) (by rw [State.setPort_port]; exact hwhy)]
  simp [State.setPort, State.port, breakRecovery, State.setRuns, State.runs, linePort, p]

end Sys2Proof.Proofs.FrameIntake
end

section
set_option Elab.async false
/-! Judgements of faults one after another: what each leaves of the two sets and of the queue, and how they add up (R114 to R117). -/

namespace Sys2Proof.Proofs.Judgements

open Sys2Proof Sys2Proof.Machine Sys2Proof.Proofs.Blocks

/-- From s to t these identities have been judged, in this order: no other has moved, and each that has moved is reported. -/
structure Judged (l : List FaultId) (s t : State) : Prop where
  moves : FaultsMove l s t
  queue : t.queue = queueAfter s s.timebase (l.flatMap fun f => movedReport f s t)
  masks : t.faults.masks = s.faults.masks
  group : t.faults.group = s.faults.group
  time : t.timebase = s.timebase

section
variable {s t u : State} {l l' : List FaultId}

theorem faultsMove_trans (h : FaultsMove l s t) (h' : FaultsMove l' t u) (hd : ∀ f ∈ l, f ∉ l') : FaultsMove (l ++ l') s u := by
  refine ⟨fun f hf => ?_, fun f => ?_⟩
  · have hf' := not_or.mp (fun h => hf (List.mem_append.mpr h))
    rw [h'.1 f hf'.2, h.1 f hf'.1]
  · rw [h'.2, h.2]
    by_cases hf : f ∈ l
    · rw [h'.1 f (hd f hf)]
      cases FaultSet.has s.faults.accrued f <;> cases FaultSet.has t.faults.current f <;> cases FaultSet.has s.faults.current f <;> rfl
    · rw [h.1 f hf]
      cases FaultSet.has s.faults.accrued f <;> cases FaultSet.has u.faults.current f <;> cases FaultSet.has s.faults.current f <;> rfl

/-- What a moved identity's report depends on. -/
theorem movedReport_congr {f : FaultId} {s' t' : State} (hm : s'.faults.masks = s.faults.masks)
    (hs : FaultSet.has s'.faults.current f = FaultSet.has s.faults.current f)
    (ht : FaultSet.has t'.faults.current f = FaultSet.has t.faults.current f) : movedReport f s' t' = movedReport f s t := by
  simp [movedReport, raisedReport, clearedReport, Faults.unmasked, hm, hs, ht]

theorem Judged.append (h : Judged l s t) (h' : Judged l' t u) (hd : ∀ f ∈ l, f ∉ l') : Judged (l ++ l') s u where
  moves := faultsMove_trans h.moves h'.moves hd
  queue := by
    have before : (l.flatMap fun f => movedReport f s t) = l.flatMap fun f => movedReport f s u :=
      List.flatMap_congr fun f hf => movedReport_congr rfl rfl (h'.moves.1 f (hd f hf)).symm
    have after : (l'.flatMap fun f => movedReport f t u) = l'.flatMap fun f => movedReport f s u :=
      List.flatMap_congr fun f hf => movedReport_congr h.masks (h.moves.1 f fun hf' => hd f hf' hf) rfl
    rw [List.flatMap_append, queueAfter_append, ← before, ← after, h'.queue, h.time]
    exact queueAfter_congr _ _ h.queue h.group
  masks := h'.masks.trans h.masks
  group := h'.group.trans h.group
  time := h'.time.trans h.time

/-- An operation that keeps the sets, the masks, the group, the queue and the timebase. -/
theorem Judged.of_unchanged {touched : List Part} (h : Unchanged touched s t)
    (hl : .faultSets ∉ touched ∧ .masks ∉ touched ∧ .faultGroup ∉ touched ∧ .queue ∉ touched ∧ .timebase ∉ touched := by simp) :
    Judged [] s t where
  moves := ⟨fun f _ => by rw [(h .faultSets hl.1).1],
    fun f => by rw [(h .faultSets hl.1).1, (h .faultSets hl.1).2]; simp⟩
  queue := h .queue hl.2.2.2.1
  masks := h .masks hl.2.1
  group := h .faultGroup hl.2.2.1
  time := h .timebase hl.2.2.2.2

theorem Judged.after {touched : List Part} (h : Judged l t u) (hs : Unchanged touched s t)
    (hl : .faultSets ∉ touched ∧ .masks ∉ touched ∧ .faultGroup ∉ touched ∧ .queue ∉ touched ∧ .timebase ∉ touched := by simp) :
    Judged l s u :=
  (Judged.of_unchanged hs hl).append h nofun

theorem Judged.before {touched : List Part} (h : Judged l s t) (hs : Unchanged touched t u)
    (hl : .faultSets ∉ touched ∧ .masks ∉ touched ∧ .faultGroup ∉ touched ∧ .queue ∉ touched ∧ .timebase ∉ touched := by simp) :
    Judged l s u := by
  simpa using h.append (Judged.of_unchanged hs hl) (by simp)

theorem has_of_raised {f g : FaultId} (h : Raised f s t) :
    FaultSet.has t.faults.current g = (FaultSet.has s.faults.current g || decide (g = f))
      ∧ FaultSet.has t.faults.accrued g
        = (FaultSet.has s.faults.accrued g || (decide (g = f) && !FaultSet.has s.faults.current f)) := by
  unfold Raised at h
  split at h
  · next hc =>
    rw [h.1, h.2, hc]
    by_cases hg : g = f
    · simp [hg, hc]
    · simp [hg]
  · next hc => simp [h.1, h.2, show FaultSet.has s.faults.current f = false by simpa using hc]

theorem has_of_cleared {f g : FaultId} (h : Cleared f s t) :
    FaultSet.has t.faults.current g = (FaultSet.has s.faults.current g && !decide (g = f))
      ∧ FaultSet.has t.faults.accrued g = FaultSet.has s.faults.accrued g := by
  rw [h.1, h.2]; simp

theorem faultsMove_of_raised {f : FaultId} (h : Raised f s t) : FaultsMove [f] s t := by
  refine ⟨fun g hg => ?_, fun g => ?_⟩
  · have hne : g ≠ f := by simpa using hg
    simp [(has_of_raised (g := g) h).1, hne]
  · rw [(has_of_raised h).1, (has_of_raised h).2]
    by_cases hg : g = f
    · subst hg; simp
    · cases FaultSet.has s.faults.current g <;> simp [hg]

theorem faultsMove_of_cleared {f : FaultId} (h : Cleared f s t) : FaultsMove [f] s t := by
  refine ⟨fun g hg => ?_, fun g => ?_⟩
  · have hne : g ≠ f := by simpa using hg
    simp [(has_of_cleared (g := g) h).1, hne]
  · rw [(has_of_cleared h).1, (has_of_cleared h).2]
    cases FaultSet.has s.faults.current g <;> simp

/-- Nothing moved, and nothing is reported. -/
theorem movedReport_same {f : FaultId} (h : FaultSet.has t.faults.current f = FaultSet.has s.faults.current f) : movedReport f s t = [] := by
  unfold movedReport raisedReport clearedReport
  rw [h]
  cases FaultSet.has s.faults.current f <;> simp

end

section
variable (f : FaultId) (s : State)

theorem judged_clearFault : Judged [f] s (clearFault f s) where
  moves := faultsMove_of_cleared (clearFault_cleared f s)
  queue := by
    have gone := (has_of_cleared (g := f) (clearFault_cleared f s)).1
    simp only [decide_true, Bool.not_true, Bool.and_false] at gone
    rw [clearFault_queue]
    simp [movedReport, gone]
  masks := unchanged_clearFault s f .masks (by simp)
  group := unchanged_clearFault s f .faultGroup (by simp)
  time := unchanged_clearFault s f .timebase (by simp)

theorem judged_raise (hf : f.viewLossSide = none) : Judged [f] s (raise f s) where
  moves := faultsMove_of_raised (raise_raised f s)
  queue := by
    have there := (has_of_raised (g := f) (raise_raised f s)).1
    simp only [decide_true, Bool.or_true] at there
    rw [raise_queue hf]
    simp [movedReport, there]
  masks := unchanged_raise s hf .masks (by simp)
  group := unchanged_raise s hf .faultGroup (by simp)
  time := unchanged_raise s hf .timebase (by simp)

/-- A judgement that leaves the identity as it is. -/
theorem judged_same : Judged [f] s s where
  moves := ⟨fun _ _ => rfl, fun g => by simp⟩
  queue := by simp [movedReport_same rfl, queueAfter]
  masks := rfl
  group := rfl
  time := rfl

end

end Sys2Proof.Proofs.Judgements
end

section
set_option Elab.async false
/-! The last line of a valid frame (R10, R11, R13 to R17, R19, R20, R31): the port's record, the supervisor's part, the frame handed on. -/

namespace Sys2Proof.Proofs.ValidFrame

open Sys2Proof Sys2Proof.Machine Sys2Proof.Proofs.Blocks Sys2Proof.Proofs.FrameStart Sys2Proof.Proofs.FrameIntake
  Sys2Proof.Proofs.Judgements

/-! ### The frame handed on -/

theorem splitPairs_eq (l : List Line) {n : Nat} (h : l.length = 2 * n) (a : Line) :
    splitPairs l = ((List.range n).map fun i => l.getD (2 * i) a, (List.range n).map fun i => l.getD (2 * i + 1) a) := by
  induction n generalizing l with
  | zero =>
    obtain rfl : l = [] := List.length_eq_zero_iff.mp (by omega)
    rfl
  | succ n ih =>
    match l, h with
    | x :: y :: rest, h =>
      have hrest : rest.length = 2 * n := by simp only [List.length_cons] at h; omega
      rw [splitPairs, ih rest hrest, List.range_succ_eq_map]
      simp [Function.comp_def, Nat.mul_succ]
    | [x], h => simp only [List.length_cons, List.length_nil] at h; omega

theorem validFrame_eq (g : FrameInProgress) (settled : Bool) (hsize : g.lines.size = 2160) :
    validFrame g settled = handedFrame g settled := by
  have halves := splitPairs_eq g.lines.toList (n := 1080) (by simpa using hsize) ⟨#[], false⟩
  have at_list (i : Nat) : g.lines.toList.getD i ⟨#[], false⟩ = g.lines.getD i ⟨#[], false⟩ := by
    simp [List.getD_eq_getElem?_getD, Array.getD_eq_getD_getElem?]
  simp only [validFrame, handedFrame, halves, badLines_eq, at_list]

/-! ### The port's record and its judgement -/

section
variable {sd : Side} {s : State} {g : FrameInProgress} {settled : Bool}

theorem settles_eq (p : Port) (applied : Byte) :
    p.settles applied = decide ((p.lastExpose.map fun x => x.e) = some applied.toNat) := by
  unfold Port.settles
  cases p.lastExpose with
  | none => simp
  | some x => exact Bool.eq_iff_iff.mpr (by simp)

theorem unchanged_judgeSettled (s : State) : Unchanged [.port sd, .sent] s (judgeSettled sd settled s) := by
  unfold judgeSettled; simp only; split
  · exact .snoc .refl (unchanged_setPort s sd _)
  · split
    · split
      · exact (Unchanged.refl.snoc (unchanged_emit s _)).snoc (unchanged_setPort _ sd _)
      · exact .snoc .refl (unchanged_setPort s sd _)
    · exact .snoc .refl (unchanged_setPort s sd _)

/-- The port and the messages after the judgement of a frame accepted from a port p (R11 to R14). -/
theorem judgeSettled_acceptFrame (p : Port) (counted : PortCounters)
    (hport : s.port sd = { p with inProgress := (s.port sd).inProgress, counters := counted }) :
    (judgeSettled sd settled (acceptFrame sd g s)).port sd = portAfterFrame p g counted settled s.timebase
      ∧ (judgeSettled sd settled (acceptFrame sd g s)).sent = s.sent ++ resent sd p settled
      ∧ (settled = false → ((judgeSettled sd settled (acceptFrame sd g s)).port sd).unsettledRun = min (p.unsettledRun + 1) 65535) := by
  have seven (n : Nat) : min (n + 1) 65535 = 8 ↔ n = 7 := by omega
  have accepted : (acceptFrame sd g s).port sd =
      { p with
        inProgress := none
        lastCounter := some g.header.counter
        lossDeadline := some (s.timebase + 50000)
        lastCapture := some g.capture
        counters :=
          { counted with
            framesValid := satInc counted.framesValid
            linesRepaired := satAdd counted.linesRepaired (g.lines.toList.filter fun l => !l.good).length } } := by
    simp only [acceptFrame, State.setPort_port, ← badLines_eq]
    rw [hport]
    rfl
  have hsent : (acceptFrame sd g s).sent = s.sent := rfl
  generalize acceptFrame sd g s = v at accepted hsent
  unfold judgeSettled portAfterFrame resent
  simp only [accepted, seven]
  cases settled with
  | true =>
    simp only [if_true, State.setPort_port, State.setPort_get_sent, hsent]
    refine ⟨trivial, ?_, nofun⟩
    cases p.lastExpose <;> simp
  | false =>
    cases hx : p.lastExpose with
    | none => simp [hsent]
    | some x =>
      by_cases h : p.unsettledRun = 7 ∧ p.resendDone = false
      · simp [h, hsent]
      · simp [h, hsent]

/-! ### The supervisor's part (R13 to R15) -/

theorem advanceRecovery_judged (v : State) :
    let t := advanceRecovery sd v
    let lost := FaultSet.has v.faults.current (.sensorLost sd)
    Judged [.sensorLost sd] v t ∧ Unchanged [.runs sd, .faultSets, .queue] v t
      ∧ (lost = false → t.runs sd = { v.runs sd with recovery := 0 } ∧ FaultSet.has t.faults.current (.sensorLost sd) = false)
      ∧ (lost = true → (v.runs sd).recovery < 2 →
          t.runs sd = { v.runs sd with recovery := (v.runs sd).recovery + 1 } ∧ FaultSet.has t.faults.current (.sensorLost sd) = true)
      ∧ (lost = true → 2 ≤ (v.runs sd).recovery →
          t.runs sd = { v.runs sd with recovery := 0 } ∧ FaultSet.has t.faults.current (.sensorLost sd) = false) := by
  have stored (r : Runs) : Judged [.sensorLost sd] v (v.setRuns sd r) := (judged_same _ v).before (unchanged_setRuns v sd r)
  unfold advanceRecovery
  cases hlost : FaultSet.has v.faults.current (.sensorLost sd) with
  | false =>
    simp only [Bool.false_eq_true, if_false]
    exact ⟨stored _, .snoc .refl (unchanged_setRuns v sd _), fun _ => ⟨by simp, by simpa using hlost⟩, nofun, nofun⟩
  | true =>
    simp only [if_true]
    split
    · next hrun =>
      have gone := (has_of_cleared (g := .sensorLost sd) (clearFault_cleared (.sensorLost sd) (v.setRuns sd { v.runs sd with recovery := 0 }))).1
      refine ⟨(judged_clearFault _ _).after (unchanged_setRuns v sd _),
        (Unchanged.refl.snoc (unchanged_setRuns v sd _)).snoc (unchanged_clearFault _ _), nofun, fun _ h => by omega, fun _ _ => ⟨?_, by simp [gone]⟩⟩
      exact (unchanged_clearFault _ _ (.runs sd) (by simp)).trans (by simp)
    · next hrun =>
      exact ⟨stored _, .snoc .refl (unchanged_setRuns v sd _), nofun, fun _ _ => ⟨by simp, by simpa using hlost⟩, fun _ h => by omega⟩

theorem judgeControl_judged (run : Nat) (v : State) :
    let t := judgeControl sd settled run v
    Judged [.sensorControl sd] v t ∧ Unchanged [.faultSets, .queue] v t
      ∧ (settled = true → FaultSet.has t.faults.current (.sensorControl sd) = false)
      ∧ (settled = false → FaultSet.has t.faults.current (.sensorControl sd)
          = (FaultSet.has v.faults.current (.sensorControl sd) || decide (run = 16))) := by
  unfold judgeControl
  cases settled with
  | true =>
    have gone := (has_of_cleared (g := .sensorControl sd) (clearFault_cleared (.sensorControl sd) v)).1
    exact ⟨judged_clearFault _ v, unchanged_clearFault v _, fun _ => by simp [gone], nofun⟩
  | false =>
    by_cases hrun : run = 16
    · have there := (has_of_raised (g := .sensorControl sd) (raise_raised (.sensorControl sd) v)).1
      simp only [Bool.false_eq_true, if_false, hrun, if_true]
      exact ⟨judged_raise _ v rfl, unchanged_raise v rfl, nofun, fun _ => by simp [there]⟩
    · simp only [Bool.false_eq_true, if_false, hrun]
      exact ⟨judged_same _ v, .refl, nofun, fun _ => by simp⟩

/-- Both parts after each other, from a state with the supervisor as it stood in s. -/
theorem frameCounts_of {u : State} {touched : List Part} (hu : Unchanged touched s u) (run : Nat)
    (hrun : settled = false → run = min ((s.port sd).unsettledRun + 1) 65535)
    (hl : .faultSets ∉ touched ∧ .masks ∉ touched ∧ .faultGroup ∉ touched ∧ .queue ∉ touched ∧ .timebase ∉ touched)
    (hr : .runs sd ∉ touched) :
    FrameCounts sd settled s (judgeControl sd settled run (advanceRecovery sd u))
      ∧ Unchanged [.runs sd, .faultSets, .queue] u (judgeControl sd settled run (advanceRecovery sd u)) := by
  obtain ⟨lostJudged, lostFrame, hnot, hgrows, hclears⟩ := advanceRecovery_judged (sd := sd) u
  obtain ⟨controlJudged, controlFrame, hsettled, hunsettled⟩ :=
    judgeControl_judged (sd := sd) (settled := settled) run (advanceRecovery sd u)
  have both := (lostJudged.append controlJudged (by simp)).after hu hl
  have lost_same : FaultSet.has (judgeControl sd settled run (advanceRecovery sd u)).faults.current (.sensorLost sd)
      = FaultSet.has (advanceRecovery sd u).faults.current (.sensorLost sd) := controlJudged.moves.1 _ (by simp)
  have control_before : FaultSet.has (advanceRecovery sd u).faults.current (.sensorControl sd)
      = FaultSet.has s.faults.current (.sensorControl sd) := by
    rw [lostJudged.moves.1 _ (by simp), (hu .faultSets hl.1).1]
  have hcurrent : u.faults.current = s.faults.current := (hu .faultSets hl.1).1
  have runs : (judgeControl sd settled run (advanceRecovery sd u)).runs sd = (advanceRecovery sd u).runs sd :=
    controlFrame (.runs sd) (by simp)
  have hruns : u.runs sd = s.runs sd := hu (.runs sd) hr
  rw [hcurrent, hruns] at hnot hgrows hclears
  refine ⟨⟨?_, ?_, ?_, hsettled, fun h => ?_, both.moves, ?_⟩, lostFrame.snoc controlFrame⟩
  · rw [runs, lost_same]; exact hnot
  · rw [runs, lost_same]; exact hgrows
  · rw [runs, lost_same]; exact hclears
  · rw [hunsettled h, control_before, hrun h]
  · simpa using both.queue

end

/-! ### The whole completion -/

/-- The state of a valid frame with the port's record made. -/
def recorded (sd : Side) (g : FrameInProgress) (settled : Bool) (u : State) : State := judgeSettled sd settled (acceptFrame sd g u)

theorem completeFrame_valid {sd : Side} {g : FrameInProgress} {u : State} (hjudge : judgeFrame g (u.port sd).lastCounter = none)
    (hsize : g.lines.size = 2160) :
    completeFrame sd g u =
      let settled := (u.port sd).settles g.header.exposure
      let v := recorded sd g settled u
      judgeControl sd settled (v.port sd).unsettledRun (advanceRecovery sd (handOver sd (handedFrame g settled) v)) := by
  simp only [completeFrame, hjudge, validFrame_eq g _ hsize, recorded]

/-- Settles O19: the port's record, the handover, then the supervisor's two judgements. -/
theorem lastLineHandsOnAValidFrame : Obligations.LastLineHandsOnAValidFrame := by
  intro sd samples crc s f p q g settled port sent hsize hlink hf hlines hvalid
  rw [discardCounted_eq, Option.map_eq_none_iff] at hvalid
  set u : State := s.setPort sd (linePort p f samples crc) with hu
  have hport : u.port sd = { p with inProgress := (u.port sd).inProgress, counters := lineCounted p.counters samples crc } := by
    simp [hu, linePort]
  have hsettled : (u.port sd).settles g.header.exposure = settled := by
    rw [settles_eq, hport]
    rfl
  have hgsize : g.lines.size = 2160 := by simp [g, withLine, hlines]
  obtain ⟨vport, vsent, vrun⟩ := judgeSettled_acceptFrame (settled := settled) (g := g) p (lineCounted p.counters samples crc) hport
  set v : State := recorded sd g settled u with hv
  have vframe : Unchanged [.port sd, .sent] s v :=
    ((Unchanged.refl.snoc (unchanged_setPort s sd _)).snoc (unchanged_setPort _ sd _)).snoc (unchanged_judgeSettled _)
  have vpipe : v.pipe sd = q := vframe (.pipe sd) (by simp)
  have handed := unchanged_handOver v sd (handedFrame g settled)
  have before : Unchanged [.pipe sd, .glare sd, .exposure sd, .port sd, .sent] s (handOver sd (handedFrame g settled) v) :=
    (vframe.mono (by simp)).trans handed
  obtain ⟨counts, after⟩ := frameCounts_of (settled := settled) before (v.port sd).unsettledRun vrun (by simp) (by simp)
  refine ⟨_, ?_, counts, fun hdev => ?_, fun hbuf hdev => ?_⟩
  · have hjudge : judgeFrame g (u.port sd).lastCounter = none := by rw [hport]; exact hvalid
    rw [exec_sensorLine hsize hlink hf, storeLine_eq, if_pos (by omega)]
    refine congrArg _ ((completeFrame_valid hjudge hgsize).trans ?_)
    rw [hsettled]
  · have started := handOver_developing sd v (f := handedFrame g settled) (by rw [vpipe]; exact hdev)
    rw [started, vpipe] at after ⊢
    refine ⟨(after (.port sd) (by simp)).trans vport, (after .sent (by simp)).trans vsent, (after (.pipe sd) (by simp)).trans (by simp [q]), ?_⟩
    exact (vframe.mono (by simp)).trans (((unchanged_setPipe v sd _).mono (by simp)).trans (after.mono (by simp)))
  · have claimed : ∃ n drops, q.claim = some (n, drops) := by
      obtain ⟨hw, hr, hwait, -⟩ := hbuf sd
      have buffers : SlotsAndBuffers.Buffers q.buf q.dev (s.comp sd).inFlight :=
        ⟨hw, hr, fun n d e h h' => hwait (by cases n; exacts [⟨⟨d, h⟩, ⟨e, h'⟩⟩, ⟨⟨e, h'⟩, ⟨d, h⟩⟩])⟩
      obtain ⟨w, hc⟩ := Option.ne_none_iff_exists'.mp (buffers.claim_ne_none hdev)
      exact ⟨w.1, w.2, hc⟩
    obtain ⟨n, drops, hn⟩ := claimed
    obtain ⟨ha, hb, hwait, hdrops⟩ := claim_spec hn
    obtain ⟨d, dpipe, dbuffer, starts⟩ := beginDevelopment_starts sd v (handedFrame g settled) n drops
    have idle := handOver_idle sd v (f := handedFrame g settled) (by rw [vpipe]; exact hdev) (by rw [vpipe]; exact hn)
    rw [idle] at after ⊢
    set w : State := beginDevelopment sd (handedFrame g settled) n drops v
    have tpipe := (after (.pipe sd) (by simp)).trans dpipe
    rw [vpipe] at tpipe
    rw [show v.port sd = port from vport, show v.sent = sent from vsent] at starts
    have started := frameStarts_congr sd starts (v := s) (t' := judgeControl sd settled (v.port sd).unsettledRun (advanceRecovery sd w))
      (vframe (.pipe sd) (by simp)).symm (vframe (.exposure sd) (by simp)).symm (vframe (.glare sd) (by simp)).symm
      (vframe .night (by simp)).symm (after (.pipe sd) (by simp)) (after (.exposure sd) (by simp)) (after (.glare sd) (by simp))
      (after .sent (by simp)) (after (.port sd) (by simp))
    refine ⟨⟨d, by rw [tpipe], started, fun h => dbuffer.trans (ha h), fun h h' => dbuffer.trans (hb h h'),
      fun h h' => by rw [dbuffer]; exact hwait h h', ?_⟩, ?_, ?_, ?_, ?_, ?_, ?_⟩
    · rw [tpipe, dbuffer]
      exact (SlotsAndBuffers.buf_setBuf q n n.other .writing).trans (if_neg (SlotsAndBuffers.other_ne n))
    · rw [tpipe, hdrops]
      by_cases h : q.bufA = .free ∨ q.bufB = .free <;> simp [h]
    · rw [tpipe]
      cases n <;> exact hbuf sd |>.2.2.2 hdev
    · rw [tpipe]; cases n <;> rfl
    · rw [tpipe]; cases n <;> rfl
    · rw [tpipe]; cases n <;> rfl
    · exact (vframe.mono (by simp)).trans (((unchanged_beginDevelopment v sd _ n drops).mono (by simp)).trans (after.mono (by simp)))

end Sys2Proof.Proofs.ValidFrame
end

section
set_option Elab.async false
/-! The first two steps of an adaptation commit: the glare update and the exposure controller (R41 to R47, R61 to R67). -/

namespace Sys2Proof.Proofs.CommitSteps

open Sys2Proof Sys2Proof.Machine

/-! ### Step 1 (R61 to R67) -/

theorem zones_map_getD {α : Type} (f : Nat → α) (a : α) {n : Nat} (h : n < 128) : (zones.map f).getD n a = f n := by
  have hn : n < (zones.map f).length := by simpa [zones_length] using h
  rw [List.getD_eq_getElem _ _ hn, List.getElem_map]
  simp [zones]

theorem allValid_eq : (zones.map fun _ => true) = List.replicate 128 true := by
  rw [List.map_const', zones_length]

theorem glareUpdate_eq (ns : NightState) (records : List ZoneRecord) (g : Glare) :
    let g' := g.update ns records
    g' =
        { g with
          grid := g'.grid
          tags := List.replicate 128 true
          lastAttenuated := (g'.grid.filter fun v => 0 < v).length
          lastAtMax := (g'.grid.filter fun v => 0 < v && v == g.act.aMax).length }
      ∧ g'.grid.length = 128
      ∧ (let raw := (List.range 128).map fun n =>
            rawTarget g.act ns (g.tags.getD n false) (records.getD n ⟨0, 0, 0, 0, 0, 0, 0, false⟩)
        ∀ n, n < 128 → g'.grid.getD n 0 = filterGain g.act (spreadTarget g.act.spreadDrop raw n) (g.grid.getD n 0)) := by
  refine ⟨?_, ?_, fun n hn => ?_⟩
  · simp only [Glare.update, countAttenuated, countAtMax, List.countP_eq_length_filter, allValid_eq]
  · simp [Glare.update, glareGrid, zones_length]
  · simp only [Glare.update, glareGrid]
    exact zones_map_getD _ _ hn

/-! ### Step 2: exposure (R42, R43) -/

section
variable (g : ExposureGroup) (ns : NightState) (m : Metered) (x : Exposure)

/-- White balance leaves the metering's values. -/
theorem whiteBalance_keeps :
    let y := x.whiteBalance ns m
    y.e = x.e ∧ y.lastMean = x.lastMean ∧ y.lastWeight = x.lastWeight ∧ y.lastError = x.lastError
      ∧ y.settledCommits = x.settledCommits ∧ y.unsettledCommits = x.unsettledCommits ∧ y.exposureChanges = x.exposureChanges := by
  unfold Exposure.whiteBalance; simp only
  split
  · simp
  · split <;> simp

/-- Metering leaves the gains and their targets. -/
theorem meter_keeps :
    let y := x.meter g m
    y.gainR = x.gainR ∧ y.gainB = x.gainB ∧ y.wbTargetR = x.wbTargetR ∧ y.wbTargetB = x.wbTargetB
      ∧ y.settledCommits = x.settledCommits ∧ y.unsettledCommits = x.unsettledCommits := by
  unfold Exposure.meter; simp only
  split <;> simp

theorem stepE_eq (err : Int) :
    (-2 ≤ err → err ≤ 2 → stepE g x.e err = x.e)
      ∧ (err < -2 ∨ 2 < err →
        (stepE g x.e err : Int)
          = max 0 (clampInt (x.e + clampInt ((err * g.aeGain).tdiv 16) (-(g.maxStep : Int)) g.maxStep) g.eMin g.eMax)) := by
  unfold stepE
  refine ⟨fun h h' => if_pos ⟨h, h'⟩, fun h => ?_⟩
  rw [if_neg (by omega)]
  simp only [Int.toNat_eq_max]
  exact Int.max_comm ..

theorem adapt_metersTo (settled : Bool) : metersTo g settled m x (x.adapt g ns settled m) := by
  cases settled with
  | false =>
    obtain ⟨he, hmean, hweight, herror, hsettled, hunsettled, hchanges⟩ :=
      whiteBalance_keeps ns m { x with unsettledCommits := satInc x.unsettledCommits }
    exact ⟨fun _ => ⟨he, hmean, hweight, herror, hunsettled, hsettled⟩, nofun, nofun, nofun, hchanges.trans (if_pos he).symm⟩
  | true =>
    set x' : Exposure := { x with settledCommits := satInc x.settledCommits } with hx'
    obtain ⟨he, hmean, hweight, herror, hsettled, hunsettled, hchanges⟩ := whiteBalance_keeps ns m (x'.meter g m)
    obtain ⟨-, -, -, -, hsettled', hunsettled'⟩ := meter_keeps g m x'
    have hadapt : x.adapt g ns true m = (x'.meter g m).whiteBalance ns m := rfl
    rw [hadapt]
    refine ⟨nofun, fun _ => ⟨hsettled.trans hsettled', hunsettled.trans hunsettled'⟩, fun _ hzero => ?_, fun _ hnz => ?_, ?_⟩
    · have meters : x'.meter g m = { x' with lastMean := none, lastError := none, lastWeight := 0 } := if_pos hzero
      rw [he, hmean, hweight, herror, meters]
      exact ⟨rfl, rfl, rfl, rfl⟩
    · rw [he, hmean, hweight, herror]
      unfold Exposure.meter
      simp only
      have hnz' : ((m.metered g.metering).map fun n => g.metering.getD n 0).sum ≠ 0 := hnz
      rw [if_neg hnz']
      exact ⟨rfl, rfl, rfl, (stepE_eq g x _).1, (stepE_eq g x _).2⟩
    · rw [he, hchanges]
      unfold Exposure.meter
      simp only
      split
      · simp [hx']
      · rfl

/-! ### Step 2: white balance (R46, R47) -/

theorem balanced_eq : m.balanced
    = zones.filter fun n => m.clear n && decide (4096 ≤ (m.record n).meanY ∧ (m.record n).meanY ≤ 524288) := by
  simp [Metered.balanced, Bool.and_assoc]

theorem whiteBalance_balancesTo : BalancesTo ns m x (x.whiteBalance ns m) := by
  unfold BalancesTo
  rw [← balanced_eq]
  unfold Exposure.whiteBalance
  simp only
  by_cases hns : ns = .night
  · simp [hns]
  · rw [if_neg hns, if_neg hns]
    by_cases hzero : m.balanced.length = 0
    · simp [hzero]
    · rw [if_neg hzero]
      exact ⟨rfl, fun h => absurd h hzero, fun _ => ⟨rfl, rfl, approach_eq _ _ _, approach_eq _ _ _⟩⟩

theorem adapt_balancesTo (settled : Bool) : BalancesTo ns m x (x.adapt g ns settled m) := by
  cases settled with
  | false => exact whiteBalance_balancesTo ns m { x with unsettledCommits := satInc x.unsettledCommits }
  | true =>
    set x' : Exposure := { x with settledCommits := satInc x.settledCommits }
    obtain ⟨hr, hb, htr, htb, -, -⟩ := meter_keeps g m x'
    have balanced := whiteBalance_balancesTo ns m (x'.meter g m)
    unfold BalancesTo at balanced
    rw [hr, hb, htr, htb] at balanced
    exact balanced

end

end Sys2Proof.Proofs.CommitSteps
end

section
set_option Elab.async false
/-! The fault counts of an adaptation commit, each by its own rule (R34, R35, R44, R45, R73, R74, R117 to R120). -/

namespace Sys2Proof.Proofs.CommitFaults

open Sys2Proof Sys2Proof.Machine Sys2Proof.Proofs.Blocks Sys2Proof.Proofs.SharedEffects Sys2Proof.Proofs.Judgements

/-! ### Pairs of runs -/

section
variable {f : FaultId} {s v t : State}

/-- The judgement depends on the states by the identity alone. -/
theorem runsJudged_congr {bad good : Prop} {raiseAt clearAt up down up' down' : Nat} {s' t' : State}
    (h : RunsJudged f bad good raiseAt clearAt up down up' down' s t)
    (hs : FaultSet.has s'.faults.current f = FaultSet.has s.faults.current f)
    (ht : FaultSet.has t'.faults.current f = FaultSet.has t.faults.current f) :
    RunsJudged f bad good raiseAt clearAt up down up' down' s' t' := by
  unfold RunsJudged at h ⊢
  rw [hs, ht]
  exact h

/-- One judgement and what it asks for (R44, R45, R73, R74, R119, R120). -/
theorem request_judged {bad good : Bool} {a b up down : Nat} (hf : f.viewLossSide = none) (ha : 0 < a) (hb : 0 < b)
    (hv : v.faults.current = s.faults.current) :
    let p := runPair (FaultSet.has s.faults.current f) bad good a b up down
    Judged [f] v (p.request f v) ∧ Unchanged [.faultSets, .queue] v (p.request f v)
      ∧ RunsJudged f (bad = true) (good = true) a b up down p.up p.down s (p.request f v) := by
  have raised := (has_of_raised (g := f) (raise_raised f v)).1
  have cleared := (has_of_cleared (g := f) (clearFault_cleared f v)).1
  simp only [decide_true, Bool.or_true, Bool.not_true, Bool.and_false] at raised cleared
  have raises : Judged [f] v (raise f v) ∧ Unchanged [.faultSets, .queue] v (raise f v) := ⟨judged_raise f v hf, unchanged_raise v hf⟩
  have clears : Judged [f] v (clearFault f v) ∧ Unchanged [.faultSets, .queue] v (clearFault f v) :=
    ⟨judged_clearFault f v, unchanged_clearFault v f⟩
  have stays : Judged [f] v v ∧ Unchanged [.faultSets, .queue] v v := ⟨judged_same f v, .refl⟩
  unfold runPair RunsJudged
  cases hcur : FaultSet.has s.faults.current f with
  | true =>
    have hcur' : FaultSet.has v.faults.current f = true := by rw [hv, hcur]
    cases good with
    | false => simpa [RunPair.request, Nat.not_le.mpr hb, hcur'] using stays
    | true =>
      by_cases hrun : b ≤ down + 1
      · simpa [RunPair.request, hrun, cleared, Nat.not_lt.mpr hrun] using clears
      · simpa [RunPair.request, hrun, hcur', Nat.lt_of_not_le hrun] using stays
  | false =>
    have hcur' : FaultSet.has v.faults.current f = false := by rw [hv, hcur]
    cases bad with
    | false => simpa [RunPair.request, Nat.not_le.mpr ha, hcur'] using stays
    | true =>
      by_cases hrun : a ≤ up + 1
      · simpa [RunPair.request, hrun, raised, Nat.not_lt.mpr hrun] using raises
      · simpa [RunPair.request, hrun, hcur', Nat.lt_of_not_le hrun] using stays

end

/-! ### The three pairs of a commit -/

section
variable (sd : Side) (v : State)

/-- A pair of runs judged and stored. -/
theorem storedPair_judged {f : FaultId} {bad good : Bool} {a b up down : Nat} (hf : f.viewLossSide = none) (ha : 0 < a) (hb : 0 < b)
    (put : RunPair → Runs) :
    let p := runPair (FaultSet.has v.faults.current f) bad good a b up down
    let t := p.request f (v.setRuns sd (put p))
    Judged [f] v t ∧ Unchanged [.runs sd, .faultSets, .queue] v t ∧ t.runs sd = put p
      ∧ RunsJudged f (bad = true) (good = true) a b up down p.up p.down v t := by
  intro p t
  obtain ⟨judged, frame, runs⟩ := request_judged (f := f) (s := v) (bad := bad) (good := good) (a := a) (b := b) (up := up)
    (down := down) hf ha hb (v := v.setRuns sd (put p)) rfl
  exact ⟨judged.after (unchanged_setRuns v sd _), (Unchanged.refl.snoc (unchanged_setRuns v sd _)).snoc frame,
    (frame (.runs sd) (by simp)).trans (State.setRuns_runs ..), runs⟩

theorem obscuredCount_judged (flat : Nat) :
    let t := obscuredCount sd flat v
    Judged [.obscured sd] v t ∧ Unchanged [.runs sd, .faultSets, .queue] v t
      ∧ (∃ up down, t.runs sd = { v.runs sd with obscuredRaise := up, obscuredClear := down }
        ∧ RunsJudged (.obscured sd) (96 ≤ flat) (flat < 64) 150 30 (v.runs sd).obscuredRaise (v.runs sd).obscuredClear up down v t) := by
  obtain ⟨judged, frame, stored, runs⟩ := storedPair_judged sd v (f := .obscured sd) (bad := decide (96 ≤ flat))
    (good := decide (flat < 64)) (a := 150) (b := 30) (up := (v.runs sd).obscuredRaise) (down := (v.runs sd).obscuredClear) rfl
    (by omega) (by omega) fun p => { v.runs sd with obscuredRaise := p.up, obscuredClear := p.down }
  simp only [decide_eq_true_eq] at runs
  exact ⟨judged, frame, _, _, stored, runs⟩

theorem limitCount_judged (condition : Bool) :
    let t := limitCount sd true condition v
    Judged [.exposureLimit sd] v t ∧ Unchanged [.runs sd, .faultSets, .queue] v t
      ∧ (∃ up down, t.runs sd = { v.runs sd with limitRun := up, limitClear := down }
        ∧ RunsJudged (.exposureLimit sd) (condition = true) (¬condition = true) 60 60 (v.runs sd).limitRun (v.runs sd).limitClear up
          down v t) := by
  obtain ⟨judged, frame, stored, runs⟩ := storedPair_judged sd v (f := .exposureLimit sd) (bad := condition) (good := !condition)
    (a := 60) (b := 60) (up := (v.runs sd).limitRun) (down := (v.runs sd).limitClear) rfl (by omega) (by omega)
    fun p => { v.runs sd with limitRun := p.up, limitClear := p.down }
  rw [show ((!condition) = true) = ¬condition = true by simp] at runs
  exact ⟨judged, frame, _, _, stored, runs⟩

theorem saturationCount_judged (atMax : Nat) :
    let t := saturationCount sd atMax v
    Judged [.glareSaturated sd] v t ∧ Unchanged [.runs sd, .faultSets, .queue] v t
      ∧ (∃ up down, t.runs sd = { v.runs sd with saturation := up, satRelease := down }
        ∧ RunsJudged (.glareSaturated sd) (8 ≤ atMax) (atMax < 8) 30 30 (v.runs sd).saturation (v.runs sd).satRelease up down v t) := by
  obtain ⟨judged, frame, stored, runs⟩ := storedPair_judged sd v (f := .glareSaturated sd) (bad := decide (8 ≤ atMax))
    (good := decide (atMax < 8)) (a := 30) (b := 30) (up := (v.runs sd).saturation) (down := (v.runs sd).satRelease) rfl
    (by omega) (by omega) fun p => { v.runs sd with saturation := p.up, satRelease := p.down }
  simp only [decide_eq_true_eq] at runs
  exact ⟨judged, frame, _, _, stored, runs⟩

/-! ### FROZEN (R34, R35) -/

/-- FROZEN at a commit: its runs, and what a raise brings to the display and to the view. -/
structure FrozenCounted (sd : Side) (signature : BitVec 32) (v t : State) : Prop where
  judged : FrozenJudged sd signature v t
  runs : t.runs sd = { v.runs sd with
    frozenSame := (t.runs sd).frozenSame, frozenChange := (t.runs sd).frozenChange, frozenPrevious := (t.runs sd).frozenPrevious }
  moves : FaultsMove [.frozen sd] v t
  display : t.display sd
    = if FaultSet.has t.faults.current (.frozen sd) then displayAfterLoss (.frozen sd) sd v else v.display sd
  queue : t.queue = queueAfter v v.timebase
    (movedReport (.frozen sd) v t ++ if FaultSet.has t.faults.current (.frozen sd) then lossMove (.frozen sd) sd v else [])
  view : if FaultSet.has t.faults.current (.frozen sd) = true then ViewAfterLoss (.frozen sd) sd v t else ViewStands sd v t
  frame : Unchanged (.runs sd :: faultParts sd) v t

/-- What FROZEN's judgement asks of the runs and of the identity after them. -/
theorem frozenJudged_of {signature : BitVec 32} {t : State} {r : Runs}
    (hruns : t.runs sd = { (v.runs sd).frozenStep (FaultSet.has v.faults.current (.frozen sd)) signature with frozenChange := r.frozenChange })
    (hquiet : FaultSet.has v.faults.current (.frozen sd) = false → r.frozenChange = 0
      ∧ (FaultSet.has t.faults.current (.frozen sd) = true ↔ v.faults.group.frozenLimit ≤ (t.runs sd).frozenSame))
    (hcurrent : FaultSet.has v.faults.current (.frozen sd) = true →
      let change := ((v.runs sd).frozenStep true signature).frozenChange
      (change < 3 → r.frozenChange = change ∧ FaultSet.has t.faults.current (.frozen sd) = true)
        ∧ (3 ≤ change → r.frozenChange = 0 ∧ FaultSet.has t.faults.current (.frozen sd) = false)) :
    FrozenJudged sd signature v t := by
  have hchange : (t.runs sd).frozenChange = r.frozenChange := by rw [hruns]
  refine ⟨by rw [hruns]; rfl, by rw [hruns]; rfl, fun h => by rw [hchange]; exact hquiet h, fun h => ?_⟩
  obtain ⟨hlow, hhigh⟩ := hcurrent h
  rw [hchange]
  refine ⟨fun hsame => ?_, fun p hp hne => ?_⟩
  · have zero : ((v.runs sd).frozenStep true signature).frozenChange = 0 := by
      rcases hsame with hs | hs <;> simp [Runs.frozenStep, hs]
    obtain ⟨hr, hnow⟩ := hlow (by omega)
    exact ⟨hr.trans zero, hnow⟩
  · have one : ((v.runs sd).frozenStep true signature).frozenChange = (v.runs sd).frozenChange + 1 := by
      simp [Runs.frozenStep, hp, hne]
    rw [one] at hlow hhigh
    exact ⟨hlow, hhigh⟩

theorem frozenCounted (signature : BitVec 32) : FrozenCounted sd signature v (frozenCount sd signature v) := by
  set r : Runs := (v.runs sd).frozenStep (FaultSet.has v.faults.current (.frozen sd)) signature with hr
  have stays (hnow : FaultSet.has v.faults.current (.frozen sd) = true ∨ ¬v.faults.group.frozenLimit ≤ r.frozenSame)
      (hc : FaultSet.has v.faults.current (.frozen sd) = true → r.frozenChange < 3) : FrozenCounted sd signature v (v.setRuns sd r) := by
    have moved : movedReport (.frozen sd) v (v.setRuns sd r) = [] := movedReport_same rfl
    refine ⟨frozenJudged_of sd v (r := r) (State.setRuns_runs ..) (fun h => ⟨by simp [hr, h, Runs.frozenStep], ?_⟩) (fun h => ?_),
      by rw [State.setRuns_runs]; rfl, (judged_same (.frozen sd) v).moves, ?_, ?_, ?_, .mono (unchanged_setRuns v sd r) (by simp)⟩
    · rw [State.setRuns_runs, State.setRuns_faults_current, h]
      exact iff_of_false nofun (hnow.resolve_left (by simp [h]))
    · rw [h] at hr
      rw [← hr]
      exact ⟨fun _ => ⟨rfl, h⟩, fun h' => absurd (hc h) (by omega)⟩
    · cases h : FaultSet.has v.faults.current (.frozen sd) <;> simp [h, displayAfterLoss]
    · rw [moved]
      cases h : FaultSet.has v.faults.current (.frozen sd) <;> simp [h, lossMove, queueAfter]
    · cases h : FaultSet.has v.faults.current (.frozen sd) <;> simp [h, ViewAfterLoss, ViewStands]
  unfold frozenCount
  simp only [← hr]
  cases hcur : FaultSet.has v.faults.current (.frozen sd) with
  | true =>
    simp only [if_true]
    split
    · next hthree =>
      set w : State := v.setRuns sd { r with frozenChange := 0 }
      have gone := (has_of_cleared (g := .frozen sd) (clearFault_cleared (.frozen sd) w)).1
      simp only [decide_true, Bool.not_true, Bool.and_false] at gone
      have cleared := (judged_clearFault (.frozen sd) w).after (unchanged_setRuns v sd _)
      have after := unchanged_clearFault w (.frozen sd)
      have hruns : (clearFault (.frozen sd) w).runs sd = { r with frozenChange := 0 } :=
        (after (.runs sd) (by simp)).trans (State.setRuns_runs ..)
      refine ⟨frozenJudged_of sd v (r := { r with frozenChange := 0 }) hruns (by simp [hcur]) (fun _ => ?_), by rw [hruns]; rfl,
        cleared.moves, by rw [gone]; exact after (.display sd) (by simp), by simpa [gone] using cleared.queue, ?_,
        ((unchanged_setRuns v sd _).mono (by simp)).trans (after.mono (by simp [faultParts]))⟩
      · rw [hcur] at hr
        rw [← hr]
        exact ⟨fun h => absurd hthree (by omega), fun _ => ⟨rfl, gone⟩⟩
      · rw [if_neg (by simp [gone])]
        exact ⟨after (.comp sd) (by simp), after (.pipe sd) (by simp), after (.store sd) (by simp)⟩
    · next hlow => exact stays (.inl hcur) fun _ => by omega
  | false =>
    simp only [Bool.false_eq_true, if_false]
    split
    · next hlimit =>
      set w : State := v.setRuns sd r
      have there := (has_of_raised (g := .frozen sd) (raise_raised (.frozen sd) w)).1
      simp only [decide_true, Bool.or_true] at there
      obtain ⟨hdisplay, hqueue, hview⟩ := raise_viewLoss (f := .frozen sd) (sd := sd) rfl w
      have after := unchanged_raise_viewLoss w sd (f := .frozen sd) rfl
      have hruns : (raise (.frozen sd) w).runs sd = r := (after (.runs sd) (by simp [faultParts])).trans (State.setRuns_runs ..)
      refine ⟨frozenJudged_of sd v (r := r) hruns (fun _ => ⟨by simp [hr, hcur, Runs.frozenStep], ?_⟩) (by simp [hcur]),
        by rw [hruns]; rfl, faultsMove_of_raised (s := w) (raise_raised (.frozen sd) w), by rw [there]; exact hdisplay, ?_, ?_,
        ((unchanged_setRuns v sd _).mono (by simp)).trans (after.mono (by simp [faultParts]))⟩
      · rw [hruns, there]; exact iff_of_true rfl hlimit
      · rw [there, movedReport, there]; exact hqueue
      · rw [if_pos there]; exact viewAfterLoss_congr hview rfl rfl rfl rfl rfl rfl rfl
    · next hlow => exact stays (.inr hlow) fun h => by simp [hcur] at h

end

end Sys2Proof.Proofs.CommitFaults
end

section
set_option Elab.async false
/-! The adaptation commit of a statistics completion put together (R27, R61, R118; O27). -/

namespace Sys2Proof.Proofs.StatisticsCommit

open Sys2Proof Sys2Proof.Machine Sys2Proof.Proofs.Blocks Sys2Proof.Proofs.BlockLaws Sys2Proof.Proofs.SharedEffects
  Sys2Proof.Proofs.Judgements Sys2Proof.Proofs.CommitSteps Sys2Proof.Proofs.CommitFaults

/-! ### The settings through a frame start -/

/-- All of a pipeline but its two buffers outlives a compositor's frame start. -/
theorem blockLaw_besideBuffers (sd : Side) (p : Pipeline) : BlockLaw fun s => ∃ a b, s.pipe sd = { p with bufA := a, bufB := b } where
  congr h hs := by rw [h.pipe]; exact hs
  start {s} sd' hs := by
    have begun (source : Option (BufName × Developed)) (store : FrameStore) :
        ∃ a b, (beginComposition sd' source store s).pipe sd = { p with bufA := a, bufB := b } := by
      by_cases he : sd = sd'
      · subst he
        obtain ⟨a, b, hp⟩ := hs
        match source with
        | none => exact ⟨a, b, by simpa [beginComposition] using hp⟩
        | some (.a, d) => exact ⟨.reading d, b, by simp [beginComposition, hp, Pipeline.setBuf]⟩
        | some (.b, d) => exact ⟨a, .reading d, by simp [beginComposition, hp, Pipeline.setBuf]⟩
      · simpa [beginComposition, he] using hs
    unfold tryFrameStart; split
    · exact begun _ _
    · split
      · exact begun _ _
      · exact hs
    · exact hs

theorem frozenCount_pipe (sd : Side) (signature : BitVec 32) (v : State) :
    ∃ a b, (frozenCount sd signature v).pipe sd = { v.pipe sd with bufA := a, bufB := b } := by
  have law := blockLaw_besideBuffers sd (v.pipe sd)
  have stored (r : Runs) : ∃ a b, (v.setRuns sd r).pipe sd = { v.pipe sd with bufA := a, bufB := b } := ⟨_, _, rfl⟩
  unfold frozenCount; simp only
  split
  · split
    · exact law.of_unchanged (unchanged_clearFault _ (.frozen sd)) (stored _)
    · exact stored _
  · split
    · exact law.raise (.frozen sd) (stored _)
    · exact stored _

/-! ### Step 3 (R117, R118) -/

section
variable (sd : Side) (settled : Bool) (signature : BitVec 32) (flat : Nat) (v : State)

/-- EXPOSURE_LIMIT, whether its frame was settled or not. -/
theorem limitCount_counted (condition : Bool) :
    let t := limitCount sd settled condition v
    Judged [.exposureLimit sd] v t ∧ Unchanged [.runs sd, .faultSets, .queue] v t
      ∧ (∃ up down, t.runs sd = { v.runs sd with limitRun := up, limitClear := down }
        ∧ (settled = true → RunsJudged (.exposureLimit sd) (condition = true) (¬condition = true) 60 60 (v.runs sd).limitRun
            (v.runs sd).limitClear up down v t)
        ∧ (settled = false → up = (v.runs sd).limitRun ∧ down = (v.runs sd).limitClear
            ∧ FaultSet.has t.faults.current (.exposureLimit sd) = FaultSet.has v.faults.current (.exposureLimit sd))) := by
  cases settled with
  | true =>
    obtain ⟨judged, frame, up, down, stored, runs⟩ := limitCount_judged sd v condition
    exact ⟨judged, frame, up, down, stored, fun _ => runs, nofun⟩
  | false => exact ⟨judged_same _ v, .refl, _, _, rfl, nofun, fun _ => ⟨rfl, rfl, rfl⟩⟩

theorem limitCondition_iff (g : ExposureGroup) (e : Nat) (err : Option Int) : limitCondition g e err = true ↔
    (e = g.eMax ∧ ∃ x, err = some x ∧ 16 < x) ∨ (e = g.eMin ∧ ∃ x, err = some x ∧ x < -16) := by
  unfold limitCondition
  cases err <;> simp

/-- The three identities after FROZEN, and the runs of each (R44, R45, R73, R74, R119, R120). -/
theorem threeCounts (condition : Bool) (atMax : Nat) :
    let t := saturationCount sd atMax (limitCount sd settled condition (obscuredCount sd flat v))
    let r := v.runs sd
    let r' := t.runs sd
    Judged [.obscured sd, .exposureLimit sd, .glareSaturated sd] v t ∧ Unchanged [.runs sd, .faultSets, .queue] v t
      ∧ RunsJudged (.obscured sd) (96 ≤ flat) (flat < 64) 150 30 r.obscuredRaise r.obscuredClear r'.obscuredRaise r'.obscuredClear v t
      ∧ (settled = true → RunsJudged (.exposureLimit sd) (condition = true) (¬condition = true) 60 60 r.limitRun r.limitClear r'.limitRun
          r'.limitClear v t)
      ∧ (settled = false → r'.limitRun = r.limitRun ∧ r'.limitClear = r.limitClear
          ∧ FaultSet.has t.faults.current (.exposureLimit sd) = FaultSet.has v.faults.current (.exposureLimit sd))
      ∧ RunsJudged (.glareSaturated sd) (8 ≤ atMax) (atMax < 8) 30 30 r.saturation r.satRelease r'.saturation r'.satRelease v t
      ∧ r' =
        { r with
          obscuredRaise := r'.obscuredRaise, obscuredClear := r'.obscuredClear, limitRun := r'.limitRun, limitClear := r'.limitClear
          saturation := r'.saturation, satRelease := r'.satRelease } := by
  obtain ⟨judgedO, frameO, upO, downO, storedO, runsO⟩ := obscuredCount_judged sd v flat
  set a := obscuredCount sd flat v
  obtain ⟨judgedL, frameL, upL, downL, storedL, runsL, sameL⟩ := limitCount_counted sd settled a condition
  set b := limitCount sd settled condition a
  obtain ⟨judgedS, frameS, upS, downS, storedS, runsS⟩ := saturationCount_judged sd b atMax
  set t := saturationCount sd atMax b
  have beyondO := (judgedL.append judgedS (by simp)).moves.1 (.obscured sd) (by simp)
  have beforeL := judgedO.moves.1 (.exposureLimit sd) (by simp)
  have beyondL := judgedS.moves.1 (.exposureLimit sd) (by simp)
  have beforeS := (judgedO.append judgedL (by simp)).moves.1 (.glareSaturated sd) (by simp)
  have stored : t.runs sd = { v.runs sd with
      obscuredRaise := upO, obscuredClear := downO, limitRun := upL, limitClear := downL, saturation := upS, satRelease := downS } := by
    rw [storedS, storedL, storedO]
  simp only [storedO, storedL] at runsL sameL runsS
  refine ⟨(judgedO.append judgedL (by simp)).append judgedS (by simp),
    ((frameO.trans frameL).trans frameS).mono (by simp), ?_, fun h => ?_, fun h => ?_, ?_, ?_⟩
  · rw [stored]; exact runsJudged_congr runsO rfl beyondO
  · rw [stored]; exact runsJudged_congr (runsL h) beforeL.symm beyondL
  · obtain ⟨hup, hdown, hsame⟩ := sameL h
    rw [stored]; exact ⟨hup, hdown, beyondL.trans (hsame.trans beforeL)⟩
  · rw [stored]; exact runsJudged_congr runsS beforeS.symm rfl
  · rw [stored]

theorem unchanged_setFlatZones :
    Unchanged [.flatZones sd] v (v.setFaults { v.faults with flatZones := v.faults.flatZones.set sd flat }) := by
  intro p hp
  cases p with
  | flatZones sd' =>
    have hne : sd' ≠ sd := by simpa using hp
    exact Sides.get_set_ne _ _ hne
  | runs sd' => rfl
  | _ => simp [Part.same]

/-- FROZEN's judgement reads its own three runs and its identity. -/
theorem frozenJudged_congr {u a s t : State} (h : FrozenJudged sd signature u a) (hs : s.runs sd = u.runs sd)
    (hcurrent : s.faults.current = u.faults.current) (hgroup : s.faults.group = u.faults.group)
    (ht : (t.runs sd).frozenSame = (a.runs sd).frozenSame ∧ (t.runs sd).frozenChange = (a.runs sd).frozenChange
      ∧ (t.runs sd).frozenPrevious = (a.runs sd).frozenPrevious)
    (hnow : FaultSet.has t.faults.current (.frozen sd) = FaultSet.has a.faults.current (.frozen sd)) :
    FrozenJudged sd signature s t := by
  obtain ⟨hsame, hchange, hprevious⟩ := ht
  unfold FrozenJudged at h ⊢
  simp only [hs, hcurrent, hgroup, hsame, hchange, hprevious, hnow]
  exact h

/-- Step 3 of a commit: the counts, the view blocks and what else stands. -/
theorem faultCounts_counted :
    let t := faultCounts sd settled signature flat v
    CommitCounts sd settled signature v t ∧ t.faults.flatZones.get sd = flat
      ∧ (if FaultSet.has t.faults.current (.frozen sd) = true then ViewAfterLoss (.frozen sd) sd v t else ViewStands sd v t)
      ∧ (∃ a b, t.pipe sd = { v.pipe sd with bufA := a, bufB := b })
      ∧ Unchanged ([.runs sd, .flatZones sd] ++ faultParts sd) v t := by
  have zoned := unchanged_setFlatZones sd flat v
  set u : State := v.setFaults { v.faults with flatZones := v.faults.flatZones.set sd flat } with hu
  have frozen := frozenCounted sd u signature
  have besides := frozenCount_pipe sd signature u
  intro t
  set a := frozenCount sd signature u with ha
  have settings : (a.pipe sd).expAct = (v.pipe sd).expAct := by
    obtain ⟨x, y, hp⟩ := besides
    rw [hp]; rfl
  have kept : a.exposure sd = v.exposure sd ∧ a.faults.flatZones.get sd = flat ∧ a.faults.masks = v.faults.masks
      ∧ a.faults.group = v.faults.group ∧ a.timebase = v.timebase := by
    have after := frozen.frame
    refine ⟨after (.exposure sd) (by simp [faultParts]), (after (.flatZones sd) (by simp [faultParts])).trans (by simp [u]),
      after .masks (by simp [faultParts]), after .faultGroup (by simp [faultParts]), after .timebase (by simp [faultParts])⟩
  obtain ⟨hexposure, hflat, hmasks, hgroup, htime⟩ := kept
  obtain ⟨condition, hcondition, atMax, hatMax, ht⟩ : ∃ condition, condition = limitCondition (v.pipe sd).expAct (v.exposure sd).e
      (v.exposure sd).lastError ∧ ∃ atMax, atMax = (t.glare sd).lastAtMax
      ∧ t = saturationCount sd atMax (limitCount sd settled condition (obscuredCount sd flat a)) := by
    have settingsO : ((obscuredCount sd flat a).pipe sd).expAct = (v.pipe sd).expAct := by
      rw [(obscuredCount_judged sd a flat).2.1 (.pipe sd) (by simp)]; exact settings
    have exposureO : (obscuredCount sd flat a).exposure sd = v.exposure sd :=
      ((obscuredCount_judged sd a flat).2.1 (.exposure sd) (by simp)).trans hexposure
    set b := limitCount sd settled (limitCondition (v.pipe sd).expAct (v.exposure sd).e (v.exposure sd).lastError)
      (obscuredCount sd flat a) with hb
    have counted : t = saturationCount sd (b.glare sd).lastAtMax b := by rw [hb, ← settingsO, ← exposureO]; rfl
    refine ⟨_, rfl, (b.glare sd).lastAtMax, ?_, counted⟩
    rw [counted, (saturationCount_judged sd b _).2.1 (.glare sd) (by simp)]
  obtain ⟨judged, frame, obscured, limited, unlimited, saturated, hruns⟩ := threeCounts sd settled flat a condition atMax
  rw [← ht] at judged frame obscured limited unlimited saturated hruns
  have frameT : Unchanged ([.runs sd] ++ faultParts sd) u t := (frozen.frame.mono (by simp)).trans (frame.mono (by simp [faultParts]))
  have view : t.display sd = a.display sd ∧ t.comp sd = a.comp sd ∧ t.pipe sd = a.pipe sd ∧ t.store sd = a.store sd :=
    ⟨frame (.display sd) (by simp), frame (.comp sd) (by simp), frame (.pipe sd) (by simp), frame (.store sd) (by simp)⟩
  obtain ⟨hdisplay, hcomp, hpipe, hstore⟩ := view
  have frozenNow : FaultSet.has t.faults.current (.frozen sd) = FaultSet.has a.faults.current (.frozen sd) :=
    judged.moves.1 (.frozen sd) (by simp)
  have frozenBefore (f : FaultId) (hf : f ≠ .frozen sd) : FaultSet.has a.faults.current f = FaultSet.has v.faults.current f :=
    frozen.moves.1 f (by simpa using hf)
  have pinned := limitCondition_iff (v.pipe sd).expAct (v.exposure sd).e (v.exposure sd).lastError
  rw [← hcondition] at pinned
  have hflat' : t.faults.flatZones.get sd = flat := (frame (.flatZones sd) (by simp)).trans hflat
  have hexposure' : t.exposure sd = v.exposure sd := (frame (.exposure sd) (by simp)).trans hexposure
  rw [show a.runs sd = _ from frozen.runs] at obscured limited unlimited saturated
  have hqueue : t.queue = queueAfter v v.timebase
      (movedReport (.frozen sd) v t ++ (if FaultSet.has t.faults.current (.frozen sd) then lossMove (.frozen sd) sd v else [])
        ++ movedReport (.obscured sd) v t ++ (if settled then movedReport (.exposureLimit sd) v t else [])
        ++ movedReport (.glareSaturated sd) v t) := by
    have reports (f : FaultId) (hf : f ≠ .frozen sd) : movedReport f a t = movedReport f v t :=
      movedReport_congr hmasks (frozenBefore f hf) rfl
    have frozenReport : movedReport (.frozen sd) u a = movedReport (.frozen sd) v t := movedReport_congr rfl rfl frozenNow.symm
    have limit : movedReport (.exposureLimit sd) v t = if settled then movedReport (.exposureLimit sd) v t else [] := by
      cases settled with
      | true => rfl
      | false => exact movedReport_same ((unlimited rfl).2.2.trans (frozenBefore _ (by simp)))
    have first := frozen.queue
    rw [frozenReport, ← frozenNow] at first
    have later : ([.obscured sd, .exposureLimit sd, .glareSaturated sd].flatMap fun f => movedReport f a t)
        = movedReport (.obscured sd) v t ++ (movedReport (.exposureLimit sd) v t ++ movedReport (.glareSaturated sd) v t) := by
      simp [reports]
    rw [judged.queue, htime, ← limit, later, List.append_assoc, List.append_assoc _ (movedReport (.obscured sd) v t), queueAfter_append v]
    exact queueAfter_congr _ _ first hgroup
  refine ⟨⟨frozenJudged_congr sd signature frozen.judged rfl rfl rfl (by rw [hruns]; exact ⟨rfl, rfl, rfl⟩) frozenNow, ?_, fun h => ?_,
    fun h => ?_, ?_, ?_, ?_, ?_, ?_, ?_, hqueue⟩, ?_, ?_, ?_, ?_⟩
  · rw [hflat']; exact runsJudged_congr obscured (frozenBefore _ (by simp)).symm rfl
  · rw [hexposure', ← pinned]
    exact runsJudged_congr (limited h) (frozenBefore _ (by simp)).symm rfl
  · obtain ⟨hup, hdown, hsame⟩ := unlimited h
    exact ⟨hup, hdown, hsame.trans (frozenBefore _ (by simp))⟩
  · rw [← hatMax]; exact runsJudged_congr saturated (frozenBefore _ (by simp)).symm rfl
  · rw [hruns, frozen.runs]; rfl
  · rw [hruns, frozen.runs]; rfl
  · rw [hruns, frozen.runs]; rfl
  · exact faultsMove_trans (l := [.frozen sd]) frozen.moves judged.moves (by simp)
  · rw [hdisplay, frozen.display, frozenNow]; rfl
  · exact hflat'
  · rw [frozenNow]
    have seen := frozen.view
    split
    · next h =>
      rw [if_pos h] at seen
      exact viewAfterLoss_later (viewAfterLoss_congr seen rfl rfl rfl rfl rfl rfl rfl) hcomp hpipe hstore
    · next h =>
      rw [if_neg h] at seen
      obtain ⟨hc, hp, hx⟩ := seen
      exact ⟨hcomp.trans hc, hpipe.trans hp, hstore.trans hx⟩
  · rw [hpipe]; exact besides
  · exact (zoned.mono (by simp)).trans (frameT.mono (by simp))

end

/-! ### The completion -/

section
variable {sd : Side} {s : State}

/-- The counts of a commit read neither what the image blocks hold at its start nor the port. -/
theorem commitCounts_congr {settled : Bool} {signature : BitVec 32} {w c t : State} (h : CommitCounts sd settled signature w c)
    (hw : Unchanged [.pipe sd, .context sd, .glare sd, .exposure sd] s w) (hsettings : (w.pipe sd).expAct = (s.pipe sd).expAct)
    (ht : Unchanged [.port sd, .sent] c t) : CommitCounts sd settled signature s t := by
  have runsW : w.runs sd = s.runs sd := hw (.runs sd) (by simp)
  have currentW : w.faults.current = s.faults.current := (hw .faultSets (by simp)).1
  have accruedW : w.faults.accrued = s.faults.accrued := (hw .faultSets (by simp)).2
  have masksW : w.faults.masks = s.faults.masks := hw .masks (by simp)
  have groupW : w.faults.group = s.faults.group := hw .faultGroup (by simp)
  have displayW : w.display sd = s.display sd := hw (.display sd) (by simp)
  have queueW : w.queue = s.queue := hw .queue (by simp)
  have timeW : w.timebase = s.timebase := hw .timebase (by simp)
  have runsT : t.runs sd = c.runs sd := ht (.runs sd) (by simp)
  have currentT : t.faults.current = c.faults.current := (ht .faultSets (by simp)).1
  have accruedT : t.faults.accrued = c.faults.accrued := (ht .faultSets (by simp)).2
  have zonesT : t.faults.flatZones.get sd = c.faults.flatZones.get sd := ht (.flatZones sd) (by simp)
  have exposureT : t.exposure sd = c.exposure sd := ht (.exposure sd) (by simp)
  have glareT : t.glare sd = c.glare sd := ht (.glare sd) (by simp)
  have displayT : t.display sd = c.display sd := ht (.display sd) (by simp)
  have queueT : t.queue = c.queue := ht .queue (by simp)
  unfold CommitCounts FrozenJudged RunsJudged FaultsMove displayAfterLoss lossMove movedReport raisedReport clearedReport queueAfter
    Faults.unmasked at h ⊢
  simp only [runsW, currentW, accruedW, masksW, groupW, displayW, queueW, timeW, hsettings] at h
  simp only [runsT, currentT, accruedT, zonesT, exposureT, glareT, displayT, queueT]
  exact h

/-- Steps 1 and 2 of the commit of a frame in development, with its statistics stored (R27). -/
def adapted (sd : Side) (d : InDevelopment) (s : State) : State :=
  commitExposure sd d.source.frame.settled d.source.records (s.glare sd).tags
    (commitGlare sd d.source.records (finishStatistics sd d (contentSignature d.source.records) s))

theorem adapted_spec (d : InDevelopment) :
    let w := adapted sd d s
    let records := d.source.records
    w.pipe sd = { s.pipe sd with dev := some { d with statsDone := true }, lastSignature := some (contentSignature records) }
      ∧ w.context sd =
          { s.context sd with framesAdapted := satInc (s.context sd).framesAdapted, committedNight := s.night.state }
      ∧ w.glare sd = (s.glare sd).update s.night.state records
      ∧ w.exposure sd = (s.exposure sd).adapt (s.pipe sd).expAct s.night.state d.source.frame.settled
          ⟨records, (w.glare sd).grid, (s.glare sd).tags⟩
      ∧ Unchanged [.pipe sd, .context sd, .glare sd, .exposure sd] s w := by
  refine ⟨?_, ?_, ?_, ?_, ?_⟩
  · simp [adapted, commitExposure, commitGlare, finishStatistics]
  · simp [adapted, commitExposure, commitGlare, finishStatistics]
  · simp [adapted, commitExposure, commitGlare, finishStatistics]
  · simp [adapted, commitExposure, commitGlare, finishStatistics]
  · exact (((Unchanged.refl.snoc (unchanged_setPipe s sd _)).snoc (unchanged_setContext _ sd _)).snoc (unchanged_setGlare _ sd _)).snoc
      (unchanged_setExposure _ sd _)

theorem exec_statisticsCompletion {d : InDevelopment} (hdev : (s.pipe sd).dev = some d) (hnot : d.statsDone = false)
    (hsave : (s.context sd).save = none) :
    let c := faultCounts sd d.source.frame.settled (contentSignature d.source.records) (d.source.records.countP ZoneRecord.flat)
      (adapted sd d s)
    exec (.statisticsCompletion sd) s = .next (if (c.exposure sd).e = (s.exposure sd).e then c else deliverE sd c) := by
  intro c
  have base : exec (.statisticsCompletion sd) s
      = .next (endSave sd true (if (c.exposure sd).e = (s.exposure sd).e then c else deliverE sd c)) := by
    show execStatisticsCompletion sd s = _
    simp only [execStatisticsCompletion, hdev, hnot, Bool.false_eq_true, if_false]
    rfl
  have saved : ((if (c.exposure sd).e = (s.exposure sd).e then c else deliverE sd c).context sd).save = none := by
    have hc : (c.context sd).save = none := by
      rw [(faultCounts_counted sd _ _ _ _).2.2.2.2 (.context sd) (by simp [faultParts]), (adapted_spec d).2.1]
      exact hsave
    split
    · exact hc
    · rw [unchanged_deliverE c sd (.context sd) (by simp)]; exact hc
  rw [base, endSave, saved]

end

/-- Settles O27, step by step: the counts of step 3 on what steps 1 and 2 leave, then the delivery of a changed E. -/
theorem statisticsCompletionCommits : Obligations.StatisticsCompletionCommits := by
  intro sd s
  refine ⟨fun d hdev hnot hsave => ?_, fun hnone => ?_, fun d hdev hdone => ?_⟩
  · intro records g
    have run := exec_statisticsCompletion hdev hnot hsave
    obtain ⟨hpipe, hcontext, hglare, hexposure, frameW⟩ := adapted_spec (sd := sd) (s := s) d
    set w := adapted sd d s
    obtain ⟨counts, hflat, view, besides, frameC⟩ := faultCounts_counted sd d.source.frame.settled (contentSignature records)
      (records.countP ZoneRecord.flat) w
    simp only at run
    set c := faultCounts sd d.source.frame.settled (contentSignature records) (records.countP ZoneRecord.flat) w
    have glareC : c.glare sd = w.glare sd := frameC (.glare sd) (by simp [faultParts])
    have exposureC : c.exposure sd = w.exposure sd := frameC (.exposure sd) (by simp [faultParts])
    have contextC : c.context sd = w.context sd := frameC (.context sd) (by simp [faultParts])
    have portC : c.port sd = s.port sd := (frameC (.port sd) (by simp [faultParts])).trans (frameW (.port sd) (by simp))
    have sentC : c.sent = s.sent := (frameC .sent (by simp [faultParts])).trans (frameW .sent (by simp))
    obtain ⟨t, ht⟩ : ∃ t, t = if (c.exposure sd).e = (s.exposure sd).e then c else deliverE sd c := ⟨_, rfl⟩
    have frameT : Unchanged [.port sd, .sent] c t := by
      rw [ht]; split
      · exact .refl
      · exact unchanged_deliverE c sd
    have settings : (w.pipe sd).expAct = (s.pipe sd).expAct := by rw [hpipe]
    obtain ⟨hupdate, hlength, hgrid⟩ := glareUpdate_eq s.night.state records (s.glare sd)
    rw [← hglare, ← glareC, ← frameT (.glare sd) (by simp)] at hupdate hlength hgrid
    have exposureT : t.exposure sd = (s.exposure sd).adapt (s.pipe sd).expAct s.night.state d.source.frame.settled
        ⟨records, (t.glare sd).grid, g.tags⟩ := by
      rw [frameT (.glare sd) (by simp), glareC, frameT (.exposure sd) (by simp), exposureC]; exact hexposure
    have viewT : (t.comp sd = c.comp sd ∧ t.pipe sd = c.pipe sd ∧ t.store sd = c.store sd)
        ∧ t.faults.current = c.faults.current :=
      ⟨⟨frameT (.comp sd) (by simp), frameT (.pipe sd) (by simp), frameT (.store sd) (by simp)⟩, (frameT .faultSets (by simp)).1⟩
    obtain ⟨⟨compT, pipeT, storeT⟩, currentT⟩ := viewT
    have pipeC : t.pipe sd =
        { s.pipe sd with
          dev := some { d with statsDone := true }, lastSignature := some (contentSignature records)
          bufA := (t.pipe sd).bufA, bufB := (t.pipe sd).bufB } := by
      obtain ⟨a, b, hp⟩ := besides
      rw [pipeT, hp, hpipe]
    have viewW : w.comp sd = s.comp sd ∧ w.store sd = s.store sd ∧ w.display sd = s.display sd ∧ w.faults = s.faults :=
      ⟨frameW (.comp sd) (by simp), frameW (.store sd) (by simp), frameW (.display sd) (by simp), rfl⟩
    obtain ⟨compW, storeW, displayW, faultsW⟩ := viewW
    refine ⟨t, by rw [run, ht], ?_, ?_, ?_, hupdate, hlength, hgrid, ?_, ?_, ?_, ?_, ?_, ?_, ?_⟩
    · rw [pipeC]
    · rw [pipeC]
    · rw [frameT (.context sd) (by simp), contextC, hcontext]
    · rw [exposureT]; exact adapt_metersTo ..
    · rw [exposureT]; exact adapt_balancesTo ..
    · rw [frameT (.flatZones sd) (by simp), hflat, List.countP_eq_length_filter]
    · exact commitCounts_congr counts frameW settings frameT
    · rw [currentT]
      intro u
      have pipeU : u.pipe sd = w.pipe sd := (State.setPipe_pipe ..).trans hpipe.symm
      split
      · next h =>
        rw [if_pos h] at view
        exact viewAfterLoss_later (viewAfterLoss_congr view compW.symm pipeU storeW.symm displayW.symm rfl rfl rfl) compT
          pipeT storeT
      · next h =>
        rw [if_neg h] at view
        obtain ⟨hc, hp, hx⟩ := view
        exact ⟨(compT.trans hc).trans compW, (pipeT.trans hp).trans pipeU.symm, (storeT.trans hx).trans storeW⟩
    · rw [frameT (.exposure sd) (by simp)]
      obtain ⟨hsent, hport⟩ := deliverE_eq sd c
      rw [sentC, portC] at hsent
      have ratio : (c.pipe sd).expAct.ratioCode = (s.pipe sd).expAct.ratioCode := by rw [← pipeT, pipeC]
      rw [portC] at hport
      rw [ratio] at hsent hport
      by_cases he : (c.exposure sd).e = (s.exposure sd).e
      · rw [if_pos (.inl he), ht, if_pos he]; exact ⟨sentC, portC⟩
      · by_cases hl : (s.port sd).link = .streaming
        · rw [if_neg (by simp [he, hl]), ht, if_neg he, hsent, hport, if_pos hl, if_pos hl]; exact ⟨rfl, rfl⟩
        · rw [if_pos (.inr hl), ht, if_neg he, hsent, hport, if_neg hl, if_neg hl]; exact ⟨rfl, rfl⟩
    · exact ((frameW.mono (by simp [faultParts])).trans (frameC.mono (by simp [faultParts]))).trans (frameT.mono (by simp))
  · show execStatisticsCompletion sd s = _
    simp [execStatisticsCompletion, hnone]
  · show execStatisticsCompletion sd s = _
    simp [execStatisticsCompletion, hdev, hdone]

end Sys2Proof.Proofs.StatisticsCommit
end

section
set_option Elab.async false
/-! The compositor's frame start said once (R79, R82, R83, R88), one pan step, and the completion of a development. -/

namespace Sys2Proof.Proofs.SlotsAndBuffers

open Sys2Proof Sys2Proof.Machine Sys2Proof.Proofs.Blocks Sys2Proof.Proofs.FrameStart

/-! ### The frame start of the compositor -/

section
variable (sd : Side) {s : State}

theorem freshAngle_of_unchanged {l : List Part} {s t : State} (h : Unchanged l s t)
    (hl : Part.vehicle ∉ l ∧ Part.expiries ∉ l := by simp) : t.freshAngle = s.freshAngle := by
  unfold State.freshAngle
  rw [(h .vehicle hl.1).1, (h .expiries hl.2).1]

theorem compositionStarts_congr {source : Option (BufName × Developed)} {u v t t' : State} (h : CompositionStarts sd source u t)
    (hstart : (v.comp sd).startFrame sd v.freshAngle = (u.comp sd).startFrame sd u.freshAngle)
    (hd : (v.display sd).state = (u.display sd).state) (ht : t'.comp sd = t.comp sd) : CompositionStarts sd source v t' := by
  unfold CompositionStarts at h ⊢
  rw [hstart, hd, ht]
  exact h

theorem beginComposition_starts (source : Option (BufName × Developed)) (y : FrameStore) (s : State) :
    CompositionStarts sd source s (beginComposition sd source y s) := by
  unfold CompositionStarts beginComposition
  cases hd : (s.display sd).state <;> simp [DisplayState.content, Compositor.latch, pannedX]

@[simp] theorem beginComposition_store (source : Option (BufName × Developed)) (y : FrameStore) (s : State) :
    (beginComposition sd source y s).store sd = y := by simp [beginComposition]

@[simp] theorem beginComposition_pipe_some (n : BufName) (d : Developed) (y : FrameStore) (s : State) :
    (beginComposition sd (some (n, d)) y s).pipe sd = (s.pipe sd).setBuf n (.reading d) := by simp [beginComposition]

@[simp] theorem beginComposition_pipe_none (y : FrameStore) (s : State) : (beginComposition sd none y s).pipe sd = s.pipe sd := by
  simp [beginComposition]

/-- An IDLE compositor with a FREE slot takes the waiting frame (R79, R88). -/
theorem tryFrameStart_waiting {n : BufName} {d : Developed} (hidle : (s.comp sd).inFlight = none)
    (hfree : Slot.free ∈ (s.store sd).slots) (hw : (s.pipe sd).waiting = some (n, d)) :
    let t := tryFrameStart sd s
    CompositionStarts sd (some (n, d)) s t ∧ (t.store sd).slots = claimFree (s.store sd).slots
      ∧ t.store sd = { s.store sd with slot0 := (t.store sd).slot0, slot1 := (t.store sd).slot1, slot2 := (t.store sd).slot2 }
      ∧ t.pipe sd = (s.pipe sd).setBuf n (.reading d) := by
  obtain ⟨y, hy, hslots, hrest⟩ := FrameStore.claim_of_free hfree
  have begun : tryFrameStart sd s = beginComposition sd (some (n, d)) y s := by simp [tryFrameStart, hidle, hw, hy]
  simp only [begun, beginComposition_store, beginComposition_pipe_some]
  exact ⟨beginComposition_starts sd _ y s, hslots, hrest, trivial⟩

/-- An IDLE compositor with a FREE slot and no waiting frame: a blank request in BLANKED (R79, R80). -/
theorem tryFrameStart_none (hidle : (s.comp sd).inFlight = none) (hfree : Slot.free ∈ (s.store sd).slots)
    (hw : (s.pipe sd).waiting = none) :
    let blank := decide ((s.comp sd).blankRequest = true ∧ (s.display sd).state = .blanked)
    let t := tryFrameStart sd s
    (blank = true → CompositionStarts sd none s t ∧ (t.store sd).slots = claimFree (s.store sd).slots
      ∧ t.store sd = { s.store sd with slot0 := (t.store sd).slot0, slot1 := (t.store sd).slot1, slot2 := (t.store sd).slot2 }
      ∧ t.pipe sd = s.pipe sd)
      ∧ (blank = false → t = s) := by
  obtain ⟨y, hy, hslots, hrest⟩ := FrameStore.claim_of_free hfree
  refine ⟨fun hb => ?_, fun hb => ?_⟩
  · have begun : tryFrameStart sd s = beginComposition sd none y s := by simp [tryFrameStart, hidle, hw, hy, of_decide_eq_true hb]
    simp only [begun, beginComposition_store, beginComposition_pipe_none]
    exact ⟨beginComposition_starts sd _ y s, hslots, hrest, trivial⟩
  · simp [tryFrameStart, hidle, hw, hy, of_decide_eq_false hb]

/-- Three slots, none of them FILLING, and at most one READY and one SHOWN, leave one FREE (R88). -/
theorem Slots.free_mem {x : FrameStore} (h : Slots 0 x.slots) : Slot.free ∈ x.slots := by
  by_contra hno
  have used : x.slots.countP Slot.isFilling + x.slots.countP Slot.isReady + x.slots.countP Slot.isShown = x.slots.length := by
    generalize x.slots = l at hno
    induction l with
    | nil => rfl
    | cons a l ih =>
      obtain ⟨ha, hl⟩ : Slot.free ≠ a ∧ Slot.free ∉ l := by simpa using hno
      have := ih hl
      cases a with
      | free => exact absurd rfl ha
      | _ => simp [List.countP_cons, Slot.isFilling, Slot.isReady, Slot.isShown]; omega
  have hlength : x.slots.length = 3 := rfl
  obtain ⟨hfilling, hready, hshown⟩ := h
  omega

end

/-! ### One pan step (R82, R83) -/

/-- Settles O30: the target by the angle and its sign, the offset one step toward it, both within the room. -/
theorem panMovesWithinTheRoom : Obligations.PanMovesWithinTheRoom := by
  intro sd angle c d window room kept
  have hroom : panRoom d.act = room := rfl
  have htarget : d.panTarget = min (rawPanTarget sd d.act angle) room := rfl
  have hoffset : d.panOffset = approach kept d.panTarget d.act.panRate := rfl
  have between := approach_between kept d.panTarget d.act.panRate
  obtain ⟨hup, hdown⟩ := approach_eq kept d.panTarget d.act.panRate
  have hkept : kept ≤ room := Nat.min_le_right ..
  have hin : d.panTarget ≤ room := htarget ▸ Nat.min_le_right ..
  refine ⟨rfl, rfl, hroom, hin, ?_, fun ha => ?_, fun a ha => ⟨fun hl hle => ?_, fun hr hle => ?_⟩, fun a ha hside => ?_, ?_, ?_⟩
  · rw [hoffset]; omega
  · rw [htarget, ha]; exact Nat.zero_min ..
  · subst hl
    rw [htarget, ha, rawPanTarget, if_neg (by omega)]; exact Nat.zero_min ..
  · subst hr
    rw [htarget, ha, rawPanTarget, if_neg (by omega)]; exact Nat.zero_min ..
  · rw [htarget, ha]
    rcases hside with ⟨rfl, h⟩ | ⟨rfl, h⟩ <;> rw [rawPanTarget, if_pos h]
  · rw [hoffset]; exact hdown
  · rw [hoffset]; exact hup

/-! ### The completion of a development (R32) -/

/-- A pipeline after its frame has been offered: the frame waits, an older one dropped. -/
structure Offered (d : InDevelopment) (reading : Option (BufName × Developed)) (p q : Pipeline) : Prop where
  rest : q = { p with
    dev := none
    framesDeveloped := satInc p.framesDeveloped
    bufferDrops := if p.waiting = none then p.bufferDrops else satInc p.bufferDrops
    bufA := q.bufA
    bufB := q.bufB }
  waits : q.buf d.buffer = .waiting d.source
  unread : reading = none → q.buf d.buffer.other = .free ∧ (p.waiting = none ↔ p.buf d.buffer.other = .free)
  read : reading ≠ none → q.buf d.buffer.other = p.buf d.buffer.other ∧ p.waiting = none ∧ ∃ e, p.buf d.buffer.other = .reading e

theorem waiting_iff {p : Pipeline} {n : BufName} (h : p.buf n = .writing) : p.waiting = none ↔ ∀ e, p.buf n.other ≠ .waiting e := by
  unfold Pipeline.waiting
  cases n with
  | a => cases hb : p.bufB <;> simp_all [Pipeline.buf, BufName.other]
  | b => cases ha : p.bufA <;> simp_all [Pipeline.buf, BufName.other]

/-- The READING buffer is that of the source of the composition in flight (R33). -/
theorem Buffers.reading_iff {buf : BufName → Buffer} {dev : Option InDevelopment} {inFlight : Option Composition}
    (h : Buffers buf dev inFlight) (n : BufName) (d : Developed) : buf n = .reading d ↔ inFlight.bind Composition.source = some (n, d) := by
  rw [h.reading]; simp [Option.bind_eq_some_iff]

/-- The other buffer of the one WRITING, by what the compositor reads (R31 to R33). -/
theorem Buffers.beside_writing {buf : BufName → Buffer} {dev : Option InDevelopment} {inFlight : Option Composition} {d : InDevelopment}
    (h : Buffers buf dev inFlight) (hdev : dev = some d) :
    buf d.buffer = .writing
      ∧ (inFlight.bind Composition.source = none → buf d.buffer.other = .free ∨ ∃ e, buf d.buffer.other = .waiting e)
      ∧ (inFlight.bind Composition.source ≠ none → ∃ e, buf d.buffer.other = .reading e) := by
  have hwriting : buf d.buffer = .writing := (h.writing _).mpr ⟨d, hdev, rfl⟩
  refine ⟨hwriting, fun hnone => ?_, fun hsome => ?_⟩
  · cases hb : buf d.buffer.other with
    | free => exact .inl rfl
    | waiting e => exact .inr ⟨e, rfl⟩
    | writing =>
      obtain ⟨d', hd', hbuf⟩ := (h.writing _).mp hb
      obtain rfl : d = d' := Option.some.inj (hdev.symm.trans hd')
      exact absurd hbuf.symm (other_ne _)
    | reading e => simpa [hnone] using (h.reading_iff _ e).mp hb
  · obtain ⟨⟨m, e⟩, hm⟩ := Option.ne_none_iff_exists'.mp hsome
    have hb := (h.reading_iff m e).mpr hm
    have hne : m ≠ d.buffer := fun he => by simp [he, hwriting] at hb
    exact ⟨e, eq_other_of_ne hne ▸ hb⟩

theorem finishDevelopment_offered {sd : Side} {s : State} {d : InDevelopment} (h : Buffers (s.pipe sd).buf (s.pipe sd).dev (s.comp sd).inFlight)
    (hdev : (s.pipe sd).dev = some d) :
    Offered d ((s.comp sd).inFlight.bind Composition.source) (s.pipe sd) ((finishDevelopment sd d s).pipe sd) := by
  obtain ⟨hwriting, hunread, hread⟩ := h.beside_writing hdev
  have hwait := waiting_iff hwriting
  simp only [finishDevelopment, State.setPipe_pipe]
  set p := s.pipe sd
  by_cases hother : ∃ e, p.buf d.buffer.other = .waiting e
  · obtain ⟨e, he⟩ := hother
    have hsome : p.waiting ≠ none := fun hn => hwait.mp hn e he
    have replaced : p.replaceWaiting d.buffer = { p.setBuf d.buffer.other .free with bufferDrops := satInc p.bufferDrops } := by
      simp [Pipeline.replaceWaiting, he]
    rw [replaced]
    refine ⟨?_, ?_, fun _ => ⟨?_, ?_⟩, fun hr => ?_⟩
    · rw [if_neg hsome]
      cases d.buffer <;> rfl
    · cases d.buffer <;> rfl
    · cases d.buffer <;> rfl
    · simp [hsome, he]
    · obtain ⟨x, hx⟩ := hread hr
      simp [he] at hx
  · have hno : ∀ e, p.buf d.buffer.other ≠ .waiting e := fun e he => hother ⟨e, he⟩
    have hnone : p.waiting = none := hwait.mpr hno
    have replaced : p.replaceWaiting d.buffer = p := by
      unfold Pipeline.replaceWaiting; split
      · next e he => exact absurd he (hno e)
      · rfl
    rw [replaced]
    refine ⟨?_, ?_, fun hr => ?_, fun hr => ⟨?_, hnone, hread hr⟩⟩
    · rw [if_pos hnone]
      cases d.buffer <;> rfl
    · cases d.buffer <;> rfl
    · have hfree : p.buf d.buffer.other = .free := (hunread hr).resolve_right hother
      refine ⟨Eq.trans ?_ hfree, by simp [hnone, hfree]⟩
      cases d.buffer <;> rfl
    · cases d.buffer <;> rfl

end Sys2Proof.Proofs.SlotsAndBuffers
end

section
set_option Elab.async false
/-! The completion of a development: the frame offered, an intake frame started, and the frame taken by an IDLE compositor (R19, R20, R31,
R32, R79; O28). -/

namespace Sys2Proof.Proofs.DevelopmentCompletion

open Sys2Proof Sys2Proof.Machine Sys2Proof.Proofs.Blocks Sys2Proof.Proofs.FrameStart Sys2Proof.Proofs.SlotsAndBuffers

/-! ### Buffers by name -/

section
variable {p : Pipeline} {n : BufName} {d e : Developed}

theorem waiting_of_buf (h : p.buf n = .waiting d) (h' : ∀ e, p.buf n.other ≠ .waiting e) : p.waiting = some (n, d) := by
  unfold Pipeline.waiting
  cases n with
  | a => simp_all [Pipeline.buf]
  | b => cases ha : p.bufA <;> simp_all [Pipeline.buf, BufName.other]

theorem claim_of_free (h : p.buf n = .waiting d) (h' : p.buf n.other = .free) : p.claim = some (n.other, false) := by
  cases n <;> simp_all [Pipeline.claim, Pipeline.buf, BufName.other]

theorem claim_of_reading (h : p.buf n = .waiting d) (h' : p.buf n.other = .reading e) : p.claim = some (n, true) := by
  cases n <;> simp_all [Pipeline.claim, Pipeline.buf, BufName.other]

end

/-! ### The intake frame -/

/-- From s to v the frame of a completed development has been offered and an intake frame has started. -/
structure Restarted (sd : Side) (d : InDevelopment) (reading : Option (BufName × Developed)) (s v : State) : Prop where
  frame : Unchanged [.port sd, .pipe sd, .exposure sd, .glare sd, .sent] s v
  counts : (v.pipe sd).framesDeveloped = satInc (s.pipe sd).framesDeveloped ∧ (v.pipe sd).intake = none
    ∧ (v.pipe sd).intakeDrops = (s.pipe sd).intakeDrops ∧ (v.pipe sd).lastSignature = (s.pipe sd).lastSignature
  offers : reading = none → (v.pipe sd).waiting = some (d.buffer, d.source)
  idle : (s.pipe sd).intake = none →
    v.pipe sd =
        { s.pipe sd with
          dev := none
          framesDeveloped := satInc (s.pipe sd).framesDeveloped
          bufferDrops := if (s.pipe sd).waiting = none then (s.pipe sd).bufferDrops else satInc (s.pipe sd).bufferDrops
          bufA := (v.pipe sd).bufA
          bufB := (v.pipe sd).bufB }
      ∧ (v.pipe sd).buf d.buffer = .waiting d.source
      ∧ (v.pipe sd).buf d.buffer.other = (if reading = none then .free else (s.pipe sd).buf d.buffer.other)
      ∧ Unchanged [.pipe sd] s v
  started : ∀ f, (s.pipe sd).intake = some f →
    (∃ e, (v.pipe sd).dev = some e ∧ FrameStarts sd f (s.port sd) s.sent s v e
        ∧ e.buffer = (if reading = none then d.buffer.other else d.buffer))
      ∧ (reading ≠ none → (v.pipe sd).buf d.buffer.other = (s.pipe sd).buf d.buffer.other)
      ∧ (v.pipe sd).bufferDrops
        = (if (s.pipe sd).buf d.buffer.other = .free then (s.pipe sd).bufferDrops else satInc (s.pipe sd).bufferDrops)

/-- A frame start read off the settings of the pipeline before it, and off the settings and the claimed buffer after it. -/
theorem frameStarts_of_settings {sd : Side} {f : Frame} {port : Port} {sent : List Sent} {u v t t' : State} {d : InDevelopment}
    (h : FrameStarts sd f port sent u t d)
    (hp : (v.pipe sd).expAct = (u.pipe sd).expAct ∧ (v.pipe sd).expPend = (u.pipe sd).expPend ∧ (v.pipe sd).toneAct = (u.pipe sd).toneAct
      ∧ (v.pipe sd).tonePend = (u.pipe sd).tonePend)
    (hx : v.exposure sd = u.exposure sd) (hg : v.glare sd = u.glare sd) (hn : v.night = u.night)
    (hp' : (t'.pipe sd).buf d.buffer = (t.pipe sd).buf d.buffer ∧ (t'.pipe sd).expAct = (t.pipe sd).expAct
      ∧ (t'.pipe sd).expPend = (t.pipe sd).expPend ∧ (t'.pipe sd).toneAct = (t.pipe sd).toneAct
      ∧ (t'.pipe sd).tonePend = (t.pipe sd).tonePend)
    (hx' : t'.exposure sd = t.exposure sd) (hg' : t'.glare sd = t.glare sd) (hs' : t'.sent = t.sent) (hport' : t'.port sd = t.port sd) :
    FrameStarts sd f port sent v t' d := by
  obtain ⟨hact, hpend, htone, htonePend⟩ := hp
  obtain ⟨hbuf', hact', hpend', htone', htonePend'⟩ := hp'
  unfold FrameStarts at h ⊢
  simp only [hact, hpend, htone, htonePend, hx, hg, hn, hbuf', hact', hpend', htone', htonePend', hx', hg', hs', hport']
  exact h

section
variable {sd : Side} {s : State} {d : InDevelopment}

theorem startIntake_restarted (hlaw : Buffers (s.pipe sd).buf (s.pipe sd).dev (s.comp sd).inFlight) (hdev : (s.pipe sd).dev = some d) :
    Restarted sd d ((s.comp sd).inFlight.bind Composition.source) s (startIntake sd (finishDevelopment sd d s)) := by
  have offered := finishDevelopment_offered hlaw hdev
  obtain ⟨hwriting, hunread, hread⟩ := hlaw.beside_writing hdev
  have frame := unchanged_finishDevelopment s sd d
  set reading := (s.comp sd).inFlight.bind Composition.source
  set u := finishDevelopment sd d s
  obtain ⟨rest, waits, unread, read⟩ := offered
  have other_free (h : reading = none) : (u.pipe sd).buf d.buffer.other = .free := (unread h).1
  have uintake : (u.pipe sd).intake = (s.pipe sd).intake := by rw [rest]
  have udev : (u.pipe sd).dev = none := by rw [rest]
  cases hi : (s.pipe sd).intake with
  | none =>
    have stays : startIntake sd u = u := by simp [startIntake, uintake, hi]
    rw [stays]
    refine ⟨frame.mono (by simp), ?_, fun h => ?_, fun _ => ⟨rest, waits, ?_, frame⟩, by simp [hi]⟩
    · rw [rest]; exact ⟨rfl, hi, rfl, rfl⟩
    · exact waiting_of_buf waits fun e he => by simp [other_free h] at he
    · split
      · next h => exact other_free h
      · next h => exact (read h).1
  | some f =>
    set v : State := u.setPipe sd { u.pipe sd with intake := none } with hv
    have vpipe : v.pipe sd = { u.pipe sd with intake := none } := State.setPipe_pipe ..
    have vbuf (m : BufName) : (v.pipe sd).buf m = (u.pipe sd).buf m := by rw [vpipe]; cases m <;> rfl
    have vframe : Unchanged [.pipe sd] s v := frame.snoc (unchanged_setPipe u sd _) |>.mono (by simp)
    obtain ⟨m, drops, hclaim, hm, hdrops⟩ : ∃ m drops, (v.pipe sd).claim = some (m, drops)
        ∧ m = (if reading = none then d.buffer.other else d.buffer) ∧ drops = !decide (reading = none) := by
      by_cases hr : reading = none
      · exact ⟨_, _, claim_of_free (n := d.buffer) (d := d.source) (by rw [vbuf, waits]) (by rw [vbuf, other_free hr]), by simp [hr], by simp [hr]⟩
      · obtain ⟨hsame, -, e, he⟩ := read hr
        exact ⟨_, _, claim_of_reading (n := d.buffer) (d := d.source) (e := e) (by rw [vbuf, waits]) (by rw [vbuf, hsame, he]), by simp [hr],
          by simp [hr]⟩
    have starts : startIntake sd u = beginDevelopment sd f m drops v := by
      simp only [startIntake, uintake, hi]
      exact handOver_idle sd v (by rw [vpipe]; exact udev) hclaim
    obtain ⟨e, epipe, ebuffer, estarts⟩ := beginDevelopment_starts sd v f m drops
    rw [starts]
    set w := beginDevelopment sd f m drops v
    have wbuf (k : BufName) : (w.pipe sd).buf k = if k = m then .writing else (u.pipe sd).buf k := by
      have set_buf : (w.pipe sd).buf k = ((v.pipe sd).setBuf m .writing).buf k := by rw [epipe]; cases k <;> rfl
      rw [set_buf, buf_setBuf, vbuf]
    have wdrops : (w.pipe sd).bufferDrops = if drops then satInc (u.pipe sd).bufferDrops else (u.pipe sd).bufferDrops := by
      rw [epipe, vpipe]
    refine ⟨(vframe.mono (by simp)).trans ((unchanged_beginDevelopment v sd f m drops).mono (by simp)), ?_, fun hr => ?_, by simp [hi],
      fun g hg => ?_⟩
    · rw [epipe, vpipe, rest]
      cases m <;> exact ⟨rfl, rfl, rfl, rfl⟩
    · refine waiting_of_buf ?_ fun x hx => ?_
      · rw [wbuf, hm, if_pos hr, if_neg (Ne.symm (other_ne _)), waits]
      · rw [wbuf, hm, if_pos hr, if_pos rfl] at hx
        exact absurd hx (by simp)
    · obtain rfl : f = g := Option.some.inj (hi.symm.trans hg)
      refine ⟨⟨e, by rw [epipe], ?_, by rw [ebuffer, hm]⟩, fun hr => ?_, ?_⟩
      · refine frameStarts_of_settings (u := v) (v := s) (t' := w) (t := w) estarts ?_ rfl rfl rfl ⟨rfl, rfl, rfl, rfl, rfl⟩ rfl rfl rfl rfl
        rw [vpipe, rest]
        exact ⟨rfl, rfl, rfl, rfl⟩
      · rw [wbuf, hm, if_neg hr, if_neg (other_ne _), (read hr).1]
      · rw [wdrops, hdrops, rest]
        by_cases hr : reading = none
        · simp [hr, (unread hr).2]
        · obtain ⟨-, hnone, x, hx⟩ := read hr
          simp [hr, hnone, hx]

end

/-! ### The completion -/

/-- Settles O28: the offer and the intake frame first, then the frame start of an IDLE compositor, which R88 leaves a FREE slot. -/
theorem developmentCompletionOffersTheFrame : Obligations.DevelopmentCompletionOffersTheFrame := by
  intro sd s p
  refine ⟨fun d hdev hdone hslots hbufs => ?_, fun hnone => ?_, fun d hdev hnot => ?_⟩
  · intro n reading
    have law := (viewLaw_iff s).mp ⟨hslots, hbufs⟩ sd
    have restarted := startIntake_restarted law.buffers hdev
    have run : exec (.developmentCompletion sd) s = .next (tryFrameStart sd (startIntake sd (finishDevelopment sd d s))) := by
      show execDevelopmentCompletion sd s = _
      simp only [execDevelopmentCompletion]
      rw [show (s.pipe sd).dev = some d from hdev]
      simp [hdone]
    set v := startIntake sd (finishDevelopment sd d s)
    obtain ⟨frame, ⟨developed, intake, intakeDrops, signature⟩, offers, idle, started⟩ := restarted
    have vcomp : v.comp sd = s.comp sd := frame (.comp sd) (by simp)
    have vstore : v.store sd = s.store sd := frame (.store sd) (by simp)
    by_cases hflight : (s.comp sd).inFlight = none
    · have hread : reading = none := by simp [reading, hflight]
      have free : Slot.free ∈ (v.store sd).slots := by
        have slots := law.slots
        rw [hflight] at slots
        rw [vstore]
        exact slots.free_mem
      obtain ⟨starts, slots, storeRest, pipe⟩ := tryFrameStart_waiting sd (s := v) (by rw [vcomp, hflight]) free (offers hread)
      have after := unchanged_tryFrameStart v sd
      set t := tryFrameStart sd v
      have bufs (m : BufName) : (t.pipe sd).buf m = if m = n then .reading d.source else (v.pipe sd).buf m := by rw [pipe, buf_setBuf]
      have kept : t.port sd = v.port sd ∧ t.exposure sd = v.exposure sd ∧ t.glare sd = v.glare sd ∧ t.sent = v.sent :=
        ⟨after (.port sd) (by simp), after (.exposure sd) (by simp), after (.glare sd) (by simp), after .sent (by simp)⟩
      obtain ⟨tport, texposure, tglare, tsent⟩ := kept
      refine ⟨t, run, ?_, ?_, ?_, ?_, fun hi => ?_, fun f hf => ?_, fun h => absurd hflight h, fun _ => ⟨?_, ?_, ?_, ?_⟩, ?_⟩
      · rw [pipe, ← developed]; cases d.buffer <;> rfl
      · rw [pipe, ← intake]; cases d.buffer <;> rfl
      · rw [pipe, ← intakeDrops]; cases d.buffer <;> rfl
      · rw [pipe, ← signature]; cases d.buffer <;> rfl
      · obtain ⟨rest, -, other, only⟩ := idle hi
        refine ⟨?_, ?_, (only.mono (by simp)).trans (after.mono (by simp))⟩
        · rw [pipe, rest]; cases d.buffer <;> rfl
        · rw [bufs, if_neg (other_ne n)]; exact other
      · obtain ⟨⟨e, edev, estarts, ebuffer⟩, -, edrops⟩ := started f hf
        have hother : e.buffer ≠ n := by rw [ebuffer, if_pos hread]; exact other_ne n
        refine ⟨⟨e, by rw [pipe, setBuf_dev]; exact edev, ?_, ebuffer⟩, fun h => absurd hflight h, fun h => absurd hread h, ?_⟩
        · refine frameStarts_of_settings estarts ⟨rfl, rfl, rfl, rfl⟩ rfl rfl rfl ⟨by rw [bufs, if_neg hother], ?_⟩ texposure tglare tsent tport
          rw [pipe]; cases d.buffer <;> exact ⟨rfl, rfl, rfl, rfl⟩
        · refine Eq.trans ?_ edrops
          rw [pipe]; cases d.buffer <;> rfl
      · rw [bufs, if_pos rfl]
      · exact compositionStarts_congr sd starts (by rw [vcomp, freshAngle_of_unchanged frame]) (by rw [frame (.display sd) (by simp)]) rfl
      · rw [slots, vstore]
      · rw [← vstore]; exact storeRest
      · exact (frame.mono (by simp)).trans (after.mono (by simp))
    · rw [tryFrameStart_composing (by rw [vcomp]; exact hflight)] at run
      refine ⟨v, run, developed, intake, intakeDrops, signature, fun hi => ?_, fun f hf => ?_, fun _ => ⟨fun hi => ?_, vcomp, vstore⟩,
        fun h => absurd h hflight, frame.mono (by simp)⟩
      · obtain ⟨rest, -, other, only⟩ := idle hi
        exact ⟨rest, other, only.mono (by simp)⟩
      · obtain ⟨hdev', hother, hdrops⟩ := started f hf
        refine ⟨hdev', fun _ hr => ?_, hother, hdrops⟩
        exact waiting_eq_some (offers hr)
      · exact (idle hi).2.1
  · show execDevelopmentCompletion sd s = _
    simp only [execDevelopmentCompletion]
    rw [show (s.pipe sd).dev = none from hnone]
  · show execDevelopmentCompletion sd s = _
    simp only [execDevelopmentCompletion]
    rw [show (s.pipe sd).dev = some d from hdev]
    simp [hnot]

end Sys2Proof.Proofs.DevelopmentCompletion
end

section
set_option Elab.async false
/-! The completion of a composition (R87, R89, R33), and the colour of every pixel of a raster (R81, R85, R86; O29). -/

namespace Sys2Proof.Proofs.CompositionCompletion

open Sys2Proof Sys2Proof.Machine Sys2Proof.Proofs.Blocks Sys2Proof.Proofs.FrameStart Sys2Proof.Proofs.SlotsAndBuffers
  Sys2Proof.Proofs.DevelopmentCompletion

/-! ### Pixels -/

theorem onCross_iff (th tx ty : Nat) : onCross th tx ty = true ↔
    (-2 ≤ (ty : Int) - ↑(tx * th / 800) ∧ (ty : Int) - ↑(tx * th / 800) ≤ 2)
      ∨ (-2 ≤ (ty : Int) - ↑((799 - tx) * th / 800) ∧ (ty : Int) - ↑((799 - tx) * th / 800) ≤ 2) := by
  simp only [onCross, Bool.or_eq_true, decide_eq_true_eq]
  omega

theorem pixel_fault (cross : Colour) {row col : Nat} (hcol : col < 800) :
    let th := if row < 960 then 960 else 320
    let ty : Int := if row < 960 then row else row - 960
    let down : Int := col * th / 800
    let up : Int := (799 - col) * th / 800
    Raster.pixel (.fault cross) row col =
      (if (-2 ≤ ty - down ∧ ty - down ≤ 2) ∨ (-2 ≤ ty - up ∧ ty - up ≤ 2) then cross else ⟨256, 256, 256⟩) := by
  have hback : ((799 - col : Nat) : Int) = 799 - col := by omega
  have cross960 := onCross_iff 960 col row
  have cross320 := onCross_iff 320 col (row - 960)
  push_cast [hback] at cross960 cross320
  simp only [Raster.pixel]
  by_cases hrow : row < 960
  · simp only [hrow, if_true, cross960]
  · have hshift : ((row - 960 : Nat) : Int) = row - 960 := by omega
    rw [hshift] at cross320
    simp only [hrow, if_false, cross320]

theorem covers_iff (o : Overlay) (row col : Nat) :
    o.covers row col = true ↔ o.row ≤ row ∧ row < o.row + o.thickness ∧ o.x0 ≤ col ∧ col ≤ o.x1 := by
  simp [Overlay.covers, and_assoc]

theorem pixel_view (d : Developed) (v : LatchedView) (row col : Nat) :
    let on (o : Overlay) : Prop := o.row ≤ row ∧ row < o.row + o.thickness ∧ o.x0 ≤ col ∧ col ≤ o.x1
    let tx := if v.mirror then 799 - col else col
    (∀ before o after, v.overlays = before ++ o :: after → on o → (∀ a ∈ after, ¬on a) →
        Raster.pixel (.view d v) row col = v.palette.getD o.palette ⟨0, 0, 0⟩)
      ∧ ((∀ o ∈ v.overlays, ¬on o) → row < 960 →
        Raster.pixel (.view d v) row col =
          d.pixel (v.pannedX + tx * v.mainWindow.w / 800) (v.mainWindow.y + row * v.mainWindow.h / 960))
      ∧ ((∀ o ∈ v.overlays, ¬on o) → 960 ≤ row →
        Raster.pixel (.view d v) row col =
          d.pixel (v.wideWindow.x + tx * v.wideWindow.w / 800) (v.wideWindow.y + (row - 960) * v.wideWindow.h / 320)) := by
  intro on tx
  have uncovered (l : List Overlay) (h : ∀ o ∈ l, ¬on o) : l.reverse.find? (fun o => o.covers row col) = none := by
    rw [List.find?_eq_none]
    exact fun o ho hc => h o (List.mem_reverse.mp ho) ((covers_iff o row col).mp hc)
  refine ⟨fun before o after hl ho hafter => ?_, fun hno hrow => ?_, fun hno hrow => ?_⟩
  · have covered : v.overlays.reverse.find? (fun o => o.covers row col) = some o := by
      have hit := (covers_iff o row col).mpr ho
      rw [hl, List.reverse_append, List.reverse_cons, List.append_assoc, List.find?_append, uncovered after hafter]
      simp [hit]
    simp only [Raster.pixel, covered]
  · simp only [Raster.pixel, uncovered _ hno, if_pos hrow, fieldSource]
    rfl
  · simp only [Raster.pixel, uncovered _ hno, if_neg (Nat.not_lt.mpr hrow), fieldSource]
    rfl

/-! ### The slots at a completion (R89) -/

theorem ready_eq_findSome (x : FrameStore) : x.ready = x.slots.findSome? Slot.readyRecord := by
  simp only [FrameStore.ready, FrameStore.slots, List.findSome?_cons, List.findSome?_nil]
  cases x.slot0.readyRecord <;> cases x.slot1.readyRecord <;> cases x.slot2.readyRecord <;> rfl

theorem shown_eq_findSome (x : FrameStore) : x.shown = x.slots.findSome? Slot.shownRecord := by
  simp only [FrameStore.shown, FrameStore.slots, List.findSome?_cons, List.findSome?_nil]
  cases x.slot0.shownRecord <;> cases x.slot1.shownRecord <;> cases x.slot2.shownRecord <;> rfl

/-- A claimed slot is neither READY nor SHOWN. -/
theorem findSome_claimFree {f : Slot → Option SlotRecord} (hf : f .free = f .filling) (l : List Slot) :
    (claimFree l).findSome? f = l.findSome? f := by
  induction l with
  | nil => rfl
  | cons a l ih => cases a <;> simp [claimFree, List.findSome?_cons, hf, ih]

/-- What a completion makes of a slot: the FILLING one READY, the one READY before FREE. -/
def completed (r : SlotRecord) : Slot → Slot
  | .filling => .ready r
  | .ready _ => .free
  | z => z

theorem findSome_completed_ready {r : SlotRecord} {l : List Slot} (h : 0 < l.countP Slot.isFilling) :
    (l.map (completed r)).findSome? Slot.readyRecord = some r := by
  induction l with
  | nil => simp at h
  | cons a l ih =>
    cases a with
    | filling => rfl
    | _ => exact ih (by simpa [List.countP_cons, Slot.isFilling] using h)

theorem findSome_completed_shown (r : SlotRecord) (l : List Slot) :
    (l.map (completed r)).findSome? Slot.shownRecord = l.findSome? Slot.shownRecord := by
  rw [List.findSome?_map]
  congr 1
  funext a; cases a <;> rfl

/-- The store after a completion (R87, R89). -/
theorem finish_eq (x : FrameStore) (r : SlotRecord) :
    (x.finish r).slots = x.slots.map (completed r)
      ∧ x.finish r =
        { x with
          slot0 := (x.finish r).slot0
          slot1 := (x.finish r).slot1
          slot2 := (x.finish r).slot2
          slotDrops := if x.ready = none then x.slotDrops else satInc x.slotDrops
          normalComposed := if r.kind = .normal then satInc x.normalComposed else x.normalComposed
          faultComposed := if r.kind = .normal then x.faultComposed else satInc x.faultComposed } := by
  have counted : (x.finish r).slots = x.dropReady.slots.map (Slot.complete r) := by
    unfold FrameStore.finish FrameStore.countComposed; split <;> rfl
  constructor
  · rw [counted]
    cases hr : x.ready with
    | some y =>
      have dropped : x.dropReady.slots = x.slots.map Slot.freeReady := by simp only [FrameStore.dropReady, hr]; rfl
      rw [dropped, List.map_map]
      exact List.map_congr_left fun a _ => by cases a <;> rfl
    | none =>
      have none := (ready_eq_none_iff x).mp hr
      rw [List.countP_eq_zero] at none
      simp only [FrameStore.dropReady, hr]
      exact List.map_congr_left fun a ha => by
        have hno := none a ha
        cases a with
        | ready y => exact absurd rfl hno
        | _ => rfl
  · cases hr : x.ready <;> cases hk : r.kind <;> simp [FrameStore.finish, FrameStore.dropReady, FrameStore.countComposed, FrameStore.mapSlots, hr, hk]

/-! ### The completion -/

section
variable {sd : Side} {s : State} {c : Composition}

/-- The pipeline after a completion: the source's buffer FREE, the waiting frame as it was (R33). -/
theorem released_spec {p : Pipeline} {inFlight : Option Composition} (h : Buffers p.buf p.dev inFlight) (hc : inFlight = some c) :
    let q := released p c.source
    q = { p with bufA := q.bufA, bufB := q.bufB } ∧ q.waiting = p.waiting
      ∧ ∀ n, q.buf n = if c.source.map Prod.fst = some n then .free else p.buf n := by
  unfold released
  match hs : c.source with
  | none => exact ⟨rfl, rfl, fun n => by simp⟩
  | some (m, d) =>
    have hread : p.buf m = .reading d := (h.reading m d).mpr ⟨c, hc, hs⟩
    have freed : p.release m = p.setBuf m .free := by simp [Pipeline.release, hread]
    simp only [freed]
    refine ⟨by cases m <;> rfl, ?_, fun n => ?_⟩
    · cases m with
      | a => cases hb : p.bufB <;> simp [Pipeline.waiting, Pipeline.setBuf, hb, show p.bufA = .reading d from hread]
      | b => cases ha : p.bufA <;> simp [Pipeline.waiting, Pipeline.setBuf, ha, show p.bufB = .reading d from hread]
    · rw [buf_setBuf]
      by_cases he : n = m
      · simp [he]
      · simp [he, Ne.symm he]

/-- The record of a composition (R79, R81, R86, R87). -/
theorem record_spec (c : Composition) :
    let r := c.record
    r.kind = c.kind ∧ r.number = c.source.map (fun x => x.2.frame.number) ∧ r.capture = c.source.map (fun x => x.2.frame.capture)
      ∧ r.signature = displaySignature r.raster
      ∧ (∀ n d, c.source = some (n, d) → c.kind = .normal → r.raster = .view d c.latched)
      ∧ (c.source = none ∨ c.kind = .faultPattern → r.raster = .fault (c.latched.palette.getD 0 ⟨0, 0, 0⟩)) := by
  refine ⟨rfl, rfl, rfl, rfl, fun n d hs hk => ?_, fun h => ?_⟩
  · simp [Composition.record, Composition.raster, hs, hk]
  · cases hk : c.kind <;> cases hs : c.source <;> simp_all [Composition.record, Composition.raster]

/-- A compositor's frame start is read off the compositor but for what is in flight. -/
theorem compositionStarts_idle {source : Option (BufName × Developed)} {u v t : State} (h : CompositionStarts sd source u t)
    (hcomp : u.comp sd = { v.comp sd with inFlight := none }) (hangle : u.freshAngle = v.freshAngle)
    (hd : (u.display sd).state = (v.display sd).state) : CompositionStarts sd source v t := by
  unfold CompositionStarts Compositor.startFrame at h ⊢
  simp only [hcomp, hangle, hd] at h ⊢
  exact h

end

/-- An IDLE compositor with a FREE slot, whatever it finds to start (R79, R80). -/
theorem tryFrameStart_idle {sd : Side} {u : State} (hidle : (u.comp sd).inFlight = none) (hfree : Slot.free ∈ (u.store sd).slots) :
    let blank := decide ((u.comp sd).blankRequest = true ∧ (u.display sd).state = .blanked)
    let t := tryFrameStart sd u
    (t.store sd).slots
        = (if (u.pipe sd).waiting = none ∧ blank = false then (u.store sd).slots else claimFree (u.store sd).slots)
      ∧ t.store sd = { u.store sd with slot0 := (t.store sd).slot0, slot1 := (t.store sd).slot1, slot2 := (t.store sd).slot2 }
      ∧ t.pipe sd = { u.pipe sd with bufA := (t.pipe sd).bufA, bufB := (t.pipe sd).bufB }
      ∧ (∀ n, (u.pipe sd).waiting.map Prod.fst ≠ some n → (t.pipe sd).buf n = (u.pipe sd).buf n)
      ∧ (∀ w, (u.pipe sd).waiting = some w → CompositionStarts sd (some w) u t ∧ (t.pipe sd).buf w.1 = .reading w.2)
      ∧ ((u.pipe sd).waiting = none → blank = true → CompositionStarts sd none u t)
      ∧ ((u.pipe sd).waiting = none → blank = false → t.comp sd = u.comp sd) := by
  intro blank
  cases hw : (u.pipe sd).waiting with
  | some w =>
    obtain ⟨starts, slots, rest, pipe⟩ := tryFrameStart_waiting sd (n := w.1) (d := w.2) hidle hfree hw
    refine ⟨by simpa using slots, rest, ?_, fun n hn => ?_, fun w' hw' => ?_, nofun, nofun⟩
    · rw [pipe]; cases w.1 <;> rfl
    · rw [pipe, buf_setBuf, if_neg (by simpa [eq_comm] using hn)]
    · obtain rfl : w = w' := Option.some.inj hw'
      exact ⟨starts, by rw [pipe, buf_setBuf_same]⟩
  | none =>
    obtain ⟨begins, stands⟩ := tryFrameStart_none sd hidle hfree hw
    cases hb : blank with
    | true =>
      obtain ⟨starts, slots, rest, pipe⟩ := begins hb
      exact ⟨by simpa using slots, rest, by rw [pipe], fun n _ => by rw [pipe], nofun, fun _ _ => starts, nofun⟩
    | false =>
      rw [stands hb]
      exact ⟨by simp, rfl, rfl, fun _ _ => rfl, nofun, nofun, fun _ _ => rfl⟩

/-- Settles O29: the slot and the buffer of the composition in flight, the frame start that follows, and the pixels of each raster. -/
theorem compositionCompletionFillsTheSlot : Obligations.CompositionCompletionFillsTheSlot := by
  refine ⟨fun sd s => ⟨fun c hc hslots hbufs => ?_, fun hnone => ?_⟩, fun _ _ => rfl,
    fun cross row col _ hcol => pixel_fault cross hcol, fun d v row col _ _ => pixel_view d v row col⟩
  · intro x blank
    have law := (viewLaw_iff s).mp ⟨hslots, hbufs⟩ sd
    have slots := law.slots
    rw [hc] at slots
    have run : exec (.compositionCompletion sd) s = .next (tryFrameStart sd (finishComposition sd c s)) := by
      show execCompositionCompletion sd s = _
      simp only [execCompositionCompletion, hc]
    obtain ⟨ucomp, ustore, upipe⟩ := finishComposition_eq sd s c
    have frame := unchanged_finishComposition s sd c
    set u := finishComposition sd c s
    obtain ⟨uslots, urest⟩ := finish_eq (s.store sd) c.record
    obtain ⟨prest, pwaiting, pbuf⟩ := released_spec law.buffers hc
    rw [← ustore] at uslots urest
    rw [← upipe] at prest pwaiting pbuf
    have uready : (u.store sd).slots.findSome? Slot.readyRecord = some c.record := by
      rw [uslots]
      exact findSome_completed_ready (by have := slots.filling; simp at this; omega)
    have ushown : (u.store sd).slots.findSome? Slot.shownRecord = x.shown := by
      rw [uslots, findSome_completed_shown, shown_eq_findSome]
    have free : Slot.free ∈ (u.store sd).slots := by
      rw [ustore]; exact (slots.finish c.record).free_mem
    obtain ⟨hkind, hnumber, hcapture, hsignature, hview, hfault⟩ := record_spec c
    have udisplay : u.display sd = s.display sd := frame (.display sd) (by simp)
    have uangle : u.freshAngle = s.freshAngle := freshAngle_of_unchanged frame
    obtain ⟨tslots, tstore, tpipe, tbuf, twaiting, tblank, tcomp⟩ := tryFrameStart_idle (sd := sd) (u := u) (by rw [ucomp]) free
    have after := unchanged_tryFrameStart u sd
    set t := tryFrameStart sd u
    have ublank : decide ((u.comp sd).blankRequest = true ∧ (u.display sd).state = .blanked) = blank := by rw [ucomp, udisplay]
    rw [ublank, pwaiting] at tslots
    rw [ublank, pwaiting] at tblank tcomp
    rw [pwaiting] at tbuf twaiting
    have kept (f : Slot → Option SlotRecord) (hf : f .free = f .filling) :
        (t.store sd).slots.findSome? f = (u.store sd).slots.findSome? f := by
      rw [tslots]; split
      · rfl
      · exact findSome_claimFree hf _
    refine ⟨t, run, ⟨c.record, ?_, hkind, hnumber, hcapture, hsignature, hview, hfault, ?_⟩, ?_, ?_, ?_, fun n d hs => ?_, fun n hn hw => ?_,
      fun w hw => ?_, fun hw hb => ?_, fun hw hb => ?_, ?_⟩
    · rw [ready_eq_findSome, kept _ rfl, uready]
    · rw [tslots, uslots]; rfl
    · rw [shown_eq_findSome, kept _ rfl, ushown]
    · rw [tstore, urest]; rfl
    · rw [tpipe, prest]
    · have reading : (s.pipe sd).buf n = .reading d := (law.buffers.reading n d).mpr ⟨c, hc, hs⟩
      have hne : (s.pipe sd).waiting.map Prod.fst ≠ some n := fun he => by
        obtain ⟨w, hw, rfl⟩ := Option.map_eq_some_iff.mp he
        simp [waiting_eq_some (n := w.1) (d := w.2) hw] at reading
      simp [tbuf n hne, pbuf, hs]
    · rw [tbuf n hw, pbuf, if_neg hn]
    · obtain ⟨starts, reads⟩ := twaiting w hw
      exact ⟨compositionStarts_idle starts ucomp uangle (by rw [udisplay]), reads⟩
    · exact compositionStarts_idle (tblank hw hb) ucomp uangle (by rw [udisplay])
    · rw [tcomp hw hb, ucomp]
    · exact (frame.mono (by simp)).trans (after.mono (by simp))
  · show execCompositionCompletion sd s = _
    simp only [execCompositionCompletion, hnone]

end Sys2Proof.Proofs.CompositionCompletion
end

section
set_option Elab.async false
/-! One night evaluation (R49 to R55; O31). -/

namespace Sys2Proof.Proofs.NightEvaluation

open Sys2Proof Sys2Proof.Machine Sys2Proof.Proofs.TheStep

/-! ### The transitions (R50, R52) -/

theorem openTransition_eq_some (g : NightGroup) (now dest : NightState) (c : Chosen) :
    openTransition g now c = some dest ↔ Opens g c now dest := by
  cases c with
  | none => simp [openTransition, Opens]
  | exposure e => cases now <;> cases dest <;> simp only [openTransition, Opens] <;> split_ifs <;> simp <;> omega
  | lux v => cases now <;> cases dest <;> simp only [openTransition, Opens] <;> split_ifs <;> simp <;> omega

theorem openTransition_eq_none (g : NightGroup) (now : NightState) (c : Chosen) :
    openTransition g now c = none ↔ ∀ dest, ¬Opens g c now dest := by
  simp only [Option.eq_none_iff_forall_ne_some, ne_eq, openTransition_eq_some]

theorem opens_at_dusk {g : NightGroup} {c : Chosen} {now dest : NightState} (h : Opens g c now dest) : now = .dusk ∨ dest = .dusk := by
  cases c <;> cases now <;> cases dest <;> simp_all [Opens]

/-- What a source leaves of the controller. -/
theorem takeSource_keeps (c : Chosen) (n : Night) :
    let m := n.takeSource c
    m.lastSource = c.source ∧ m.sourceSeen = (n.sourceSeen || decide (c.source ≠ .none)) ∧ m.state = n.state ∧ m.nightAct = n.nightAct
      ∧ m.nightPend = n.nightPend ∧ m.backAct = n.backAct ∧ m.backPend = n.backPend ∧ m.nextEval = n.nextEval := by
  unfold Night.takeSource; simp only
  split <;> simp

/-- What the judgement of the transitions leaves of the controller. -/
theorem transit_keeps (c : Chosen) (m : Night) :
    let n' := m.transit c
    n'.lastSource = m.lastSource ∧ n'.sourceSeen = m.sourceSeen ∧ n'.nightAct = m.nightAct ∧ n'.nightPend = m.nightPend
      ∧ n'.backAct = m.backAct ∧ n'.backPend = m.backPend ∧ n'.nextEval = m.nextEval := by
  have toward (dest : NightState) : (m.dwellToward dest).lastSource = m.lastSource ∧ (m.dwellToward dest).sourceSeen = m.sourceSeen
      ∧ (m.dwellToward dest).nightAct = m.nightAct ∧ (m.dwellToward dest).nightPend = m.nightPend
      ∧ (m.dwellToward dest).backAct = m.backAct ∧ (m.dwellToward dest).backPend = m.backPend
      ∧ (m.dwellToward dest).nextEval = m.nextEval := by
    unfold Night.dwellToward
    generalize (if m.dwellTarget = some dest then m.dwellCount + 1 else 1) = count
    simp only
    split <;> simp
  unfold Night.transit
  split
  · exact ⟨rfl, rfl, rfl, rfl, rfl, rfl, rfl⟩
  · split
    · exact ⟨rfl, rfl, rfl, rfl, rfl, rfl, rfl⟩
    · exact toward _

/-- The dwell toward a destination after the source has been taken (R52). -/
theorem transit_dwells (c : Chosen) (hc : c ≠ .none) (n : Night) : Dwells c n ((n.takeSource c).transit c) := by
  obtain ⟨hsource, -, hstate, hact, -⟩ := takeSource_keeps c n
  obtain ⟨hlast, -, hact', -⟩ := transit_keeps c (n.takeSource c)
  have count (dest : NightState) : (if (n.takeSource c).dwellTarget = some dest then (n.takeSource c).dwellCount + 1 else 1)
      = if decide (n.lastSource = c.source) = true ∧ n.dwellTarget = some dest then n.dwellCount + 1 else 1 := by
    unfold Night.takeSource
    by_cases h : n.lastSource = c.source
    · simp [h]
    · simp [h, Ne.symm h]
  unfold Dwells
  simp only [hlast, hsource, hact', hact]
  have unfolded : (n.takeSource c).transit c = match openTransition n.nightAct n.state c with
      | none => { n.takeSource c with dwellCount := 0, dwellTarget := none }
      | some dest => (n.takeSource c).dwellToward dest := by
    have same : openTransition (n.takeSource c).nightAct (n.takeSource c).state c = openTransition n.nightAct n.state c := by
      rw [hact, hstate]
    rw [← same]
    cases c with
    | none => exact absurd rfl hc
    | _ => rfl
  rw [unfolded]
  refine ⟨fun dest ho => ?_, fun hno => ?_⟩
  · rw [(openTransition_eq_some ..).mpr ho]
    simp only [Night.dwellToward, count, hact]
    refine ⟨fun h => ?_, fun h => ?_⟩
    · rw [if_pos h]; exact ⟨rfl, rfl, rfl⟩
    · rw [if_neg (by omega)]; exact ⟨hstate, rfl, rfl⟩
  · rw [(openTransition_eq_none ..).mpr hno]
    exact ⟨hstate, rfl, rfl⟩

theorem transit_none (n : Night) : ((n.takeSource .none).transit .none).state = n.state ∧ ((n.takeSource .none).transit .none).dwellCount = 0 :=
  ⟨(takeSource_keeps .none n).2.2.1, rfl⟩

/-- A move of the night state ends a dwell, to or from DUSK (R52). -/
theorem state_moves {c : Chosen} {n : Night} (h : ((n.takeSource c).transit c).state ≠ n.state) :
    let n' := (n.takeSource c).transit c
    n'.dwellCount = 0 ∧ n'.dwellTarget = none ∧ (n.state = .dusk ∨ n'.state = .dusk)
      ∧ (n'.nightAct.dwell ≤ 1 ∨ (n.dwellTarget = some n'.state ∧ n'.nightAct.dwell ≤ n.dwellCount + 1)) := by
  intro n'
  by_cases hc : c = .none
  · subst hc
    exact absurd (transit_none n).1 h
  · obtain ⟨opens, shut⟩ := transit_dwells c hc n
    by_cases hno : ∀ dest, ¬Opens n'.nightAct c n.state dest
    · exact absurd (shut hno).1 h
    · obtain ⟨dest, ho⟩ := not_forall_not.mp hno
      obtain ⟨reached, short⟩ := opens dest ho
      by_cases hd : n'.nightAct.dwell ≤ if decide (n.lastSource = n'.lastSource) = true ∧ n.dwellTarget = some dest then n.dwellCount + 1 else 1
      · obtain ⟨hstate, hcount, htarget⟩ := reached hd
        refine ⟨hcount, htarget, ?_, ?_⟩
        · rw [show n'.state = dest from hstate]
          exact opens_at_dusk ho
        · rw [show n'.state = dest from hstate]
          split at hd
          · next hsame => exact .inr ⟨hsame.2, hd⟩
          · exact .inl hd
      · exact absurd (short (Nat.lt_of_not_le hd)).1 h

/-- The targets of a controller (R54). -/
theorem retarget_target (n : Night) (sd : Side) : (((n.retarget.target.get sd : Nat)) : Int) =
    max 0 (min ((match n.state with
        | .day => (n.backAct.day : Int)
        | .dusk => n.backAct.dusk
        | .night => n.backAct.night)
      + (match sd with | .left => n.backAct.trimLeft | .right => n.backAct.trimRight)) 1023) := by
  have clamped (x : Int) : ((clampInt x 0 1023).toNat : Int) = max 0 (min x 1023) := by
    unfold clampInt; omega
  cases sd <;> cases hs : n.state <;> exact (congrArg _ (by simp [Night.retarget, Sides.get, backlightTarget, hs, BacklightGroup.level])).trans (clamped _)

/-! ### The evaluation -/

section
variable (s : State)

theorem awake_iff : s.awake = true ↔ s.power.state = .starting ∨ s.power.state = .running := by
  unfold State.awake; cases s.power.state <;> simp

/-- The controller after an evaluation (R49 to R54). -/
def evaluated (now : Time) : Night :=
  let n := { s.night with nextEval := some (now + 100000) }.applyPending
  let c := chooseSource s
  ((n.takeSource c).transit c).retarget

theorem ramp_eq (d : Display) (target : Nat) :
    { d with backlight := approach d.backlight target 32 } =
      { d with backlight := if d.backlight < target then min target (d.backlight + 32) else max target (d.backlight - 32) } := by
  rw [approach]

theorem evaluateNight_eq (now : Time) :
    let t := evaluateNight now s
    t.timebase = now ∧ t.night = evaluated s now
      ∧ (∀ sd, t.display sd = { s.display sd with backlight := approach (s.display sd).backlight (t.night.target.get sd) 32 })
      ∧ Unchanged [.timebase, .night, .display .left, .display .right] s t := by
  refine ⟨rfl, rfl, fun sd => ?_, ?_⟩
  · cases sd <;> rfl
  · exact (((Unchanged.refl.snoc (unchanged_setTimebase s now)).snoc (unchanged_setNight _ (evaluated s now))).snoc (unchanged_setDisplay _ .left _)).snoc
      (unchanged_setDisplay _ .right _)

theorem exec_nightEvaluation {now : Time} (hawake : s.power.state = .starting ∨ s.power.state = .running)
    (hnow : s.night.nextEval = some now) : exec .nightEvaluation s = .next (evaluateNight now s) := by
  show execNightEvaluation s = _
  simp only [execNightEvaluation, evaluationDue_eq_some.mpr ⟨hawake, hnow⟩]

theorem exec_nightEvaluation_idle (h : s.evaluationDue = none) : exec .nightEvaluation s = .next s := by
  show execNightEvaluation s = _
  simp only [execNightEvaluation, h]

/-- The source of an evaluation by the vehicle's lux and the ports (R50). -/
theorem chooseSource_eq :
    (∀ v, s.freshLux = some v → chooseSource s = .lux v)
      ∧ (s.freshLux = none → ((s.port .left).link = .streaming ∨ (s.port .right).link = .streaming) →
        chooseSource s = .exposure
          (if (s.port .left).link ≠ .streaming then (s.exposure .right).e
            else if (s.port .right).link ≠ .streaming then (s.exposure .left).e
            else ((s.exposure .left).e + (s.exposure .right).e) / 2))
      ∧ (s.freshLux = none → (s.port .left).link ≠ .streaming → (s.port .right).link ≠ .streaming → chooseSource s = .none) := by
  unfold chooseSource
  refine ⟨fun v h => by rw [h], fun h hs => ?_, fun h hl hr => ?_⟩
  · rw [h]
    cases hl : (s.port .left).link <;> cases hr : (s.port .right).link <;> simp_all
  · rw [h]
    cases hl' : (s.port .left).link <;> cases hr' : (s.port .right).link <;> simp_all

end

/-- Settles O31: the source, the dwell it counts, the targets of the state reached and the ramp toward them. -/
theorem nightEvaluationRetargetsAndRamps : Obligations.NightEvaluationRetargetsAndRamps := by
  refine ⟨fun s => ⟨fun now hawake hnow => ?_, fun h => ?_⟩, fun s t h hmoves => ?_⟩
  · obtain ⟨htime, hnight, hdisplay, frame⟩ := evaluateNight_eq s now
    set t := evaluateNight now s
    obtain ⟨hlux, hexposure, hnone⟩ := chooseSource_eq s
    set n : Night := { s.night with nextEval := some (now + 100000) }.applyPending with hn
    set c := chooseSource s with hc
    obtain ⟨ksource, kseen, kstate, kact, kpend, kback, kbackPend, keval⟩ := takeSource_keeps c n
    obtain ⟨jsource, jseen, jact, jpend, jback, jbackPend, jeval⟩ := transit_keeps c (n.takeSource c)
    have night : t.night = ((n.takeSource c).transit c).retarget := hnight
    have dwells (h : c ≠ .none) : Dwells c s.night t.night := by rw [night]; exact transit_dwells c h n
    have source : t.night.lastSource = c.source := by rw [night]; exact jsource.trans ksource
    have seen : t.night.sourceSeen = (s.night.sourceSeen || decide (c.source ≠ .none)) := by rw [night]; exact jseen.trans kseen
    refine ⟨t, exec_nightEvaluation s hawake hnow, htime, ?_, ?_, ?_, ?_, ?_, fun v hv => ?_, fun hl hs => ?_, fun hl hl' hr' => ?_, fun sd => ?_,
      fun sd => ?_, frame⟩
    · rw [night]; exact jeval.trans keval
    · rw [night]; exact jact.trans kact
    · rw [night]; exact jpend.trans kpend
    · rw [night]; exact jback.trans kback
    · rw [night]; exact jbackPend.trans kbackPend
    · have hsrc := hlux v hv
      rw [hsrc] at source seen dwells
      exact ⟨source, by simpa [Chosen.source] using seen, dwells (by simp)⟩
    · have hsrc := hexposure hl hs
      rw [hsrc] at source seen dwells
      exact ⟨source, by simpa [Chosen.source] using seen, dwells (by simp)⟩
    · have hsrc := hnone hl hl' hr'
      rw [hsrc] at source seen
      obtain ⟨hstate, hcount⟩ := transit_none n
      refine ⟨source, by simpa [Chosen.source] using seen, ?_, ?_⟩
      · rw [night, hsrc]; exact hstate
      · rw [night, hsrc]; exact hcount
    · rw [night]
      exact retarget_target _ sd
    · rw [hdisplay, ramp_eq]
  · refine exec_nightEvaluation_idle s (Option.eq_none_iff_forall_ne_some.mpr fun now hd => ?_)
    obtain ⟨hawake, hnow⟩ := evaluationDue_eq_some.mp hd
    rcases h with h | h | h <;> simp_all
  · cases hd : s.evaluationDue with
    | none =>
      rw [exec_nightEvaluation_idle s hd] at h
      cases h
      exact absurd rfl hmoves
    | some now =>
      obtain ⟨hawake, hnow⟩ := evaluationDue_eq_some.mp hd
      rw [exec_nightEvaluation s hawake hnow] at h
      cases h
      exact state_moves hmoves

end Sys2Proof.Proofs.NightEvaluation
end

section
set_option Elab.async false
/-! The wake sequence and the messages of a monitor (R98 to R100, R109, R110; O32, O33). -/

namespace Sys2Proof.Proofs.MonitorLink

open Sys2Proof Sys2Proof.Machine Sys2Proof.Proofs.Blocks Sys2Proof.Proofs.TheStep

/-! ### Bursts (R98) -/

section
variable (sd : Side) (s : State)

/-- A burst other than the first of its sequence. -/
theorem sendBurst_eq {n : Nat} (hn : n ≠ 1) : sendBurst sd n s =
    { s with displays := s.displays.set sd (burst (s.display sd) n s.timebase), sent := s.sent ++ [.wakeBurst sd] } := by
  simp only [sendBurst, burst, if_neg hn]
  rfl

theorem startWake_hibernate (h : (s.display sd).link = .hibernate) : startWake sd s =
    { s with displays := s.displays.set sd (burst (s.display sd) 1 s.timebase), sent := s.sent ++ [.wakeBurst sd] } := by
  unfold startWake
  rw [h]
  cases sd <;> rfl

end

/-! ### Raises and clears with a change of the port -/

section
variable {sd : Side} {f : FaultId} {s u : State}

/-- A raise of a fault that is no view loss, from a state that has the supervisor as s has it. -/
theorem raise_after {l : List Part} (hf : f.viewLossSide = none) (hu : Unchanged l s u)
    (hl : .faultSets ∉ l ∧ .masks ∉ l ∧ .faultGroup ∉ l ∧ .queue ∉ l := by simp) :
    Raised f s (raise f u) ∧ (raise f u).queue = queueAfter s u.timebase (raisedReport f s) := by
  have sets := hu .faultSets hl.1
  have masks : u.faults.masks = s.faults.masks := hu .masks hl.2.1
  refine ⟨?_, ?_⟩
  · have raised := raise_raised f u
    unfold Raised at raised ⊢
    rw [sets.1, sets.2] at raised
    exact raised
  · rw [raise_queue hf, queueAfter_congr u.timebase _ (hu .queue hl.2.2.2) (hu .faultGroup hl.2.2.1)]
    unfold raisedReport Faults.unmasked
    rw [sets.1, masks]

theorem clearFault_after {l : List Part} (hu : Unchanged l s u)
    (hl : .faultSets ∉ l ∧ .masks ∉ l ∧ .faultGroup ∉ l ∧ .queue ∉ l := by simp) :
    Cleared f s (clearFault f u) ∧ (clearFault f u).queue = queueAfter s u.timebase (clearedReport f s) := by
  have sets := hu .faultSets hl.1
  have masks : u.faults.masks = s.faults.masks := hu .masks hl.2.1
  refine ⟨?_, ?_⟩
  · have cleared := clearFault_cleared f u
    unfold Cleared at cleared ⊢
    rw [sets.1, sets.2] at cleared
    exact cleared
  · rw [clearFault_queue, queueAfter_congr u.timebase _ (hu .queue hl.2.2.2) (hu .faultGroup hl.2.2.1)]
    unfold clearedReport Faults.unmasked
    rw [sets.1, masks]

end

/-! ### The deadlines of a wake (R99) -/

theorem wakeRetryDue_iff {sd : Side} {s : State} {now : Time} : s.wakeRetryDue sd = some now
    ↔ (s.display sd).link = .hibernate ∧ s.wanted sd = true ∧ (s.display sd).wakeRetry = some now := by
  unfold State.wakeRetryDue
  cases (s.display sd).link <;> simp

theorem failWake_spec (sd : Side) (s : State) :
    let t := failWake sd s
    t.timebase = s.timebase
      ∧ t.display sd =
        { s.display sd with
          link := .hibernate
          wakeAttempt := 0
          wakeDeadline := none
          wakeRetry := some (s.timebase + 1000000)
          counters := { (s.display sd).counters with wakeFailures := satInc (s.display sd).counters.wakeFailures } }
      ∧ Raised (.displayLink sd) s t
      ∧ t.queue = queueAfter s s.timebase (raisedReport (.displayLink sd) s)
      ∧ Unchanged [.display sd, .faultSets, .queue] s t := by
  set d : Display :=
    { s.display sd with
      link := .hibernate
      wakeAttempt := 0
      wakeDeadline := none
      wakeRetry := some (s.later wakeRetryDelay)
      counters := { (s.display sd).counters with wakeFailures := satInc (s.display sd).counters.wakeFailures } }
  have set := unchanged_setDisplay s sd d
  have after := unchanged_raise (s.setDisplay sd d) (f := .displayLink sd) rfl
  obtain ⟨raised, queue⟩ := raise_after (f := .displayLink sd) rfl set
  exact ⟨after .timebase (by simp), (after (.display sd) (by simp)).trans (State.setDisplay_display ..), raised, queue,
    (set.mono (by simp)).trans (after.mono (by simp))⟩

/-- Settles O32: another burst while attempts remain, the failed sequence after the fourth, and the retry. -/
theorem wakeDeadlinesRetryThenFail : Obligations.WakeDeadlinesRetryThenFail := by
  intro sd s d
  refine ⟨fun now hlink hdue hone hfour => ?_, fun now hlink hdue hfour => ?_, fun h => ?_, fun now hlink hdue hwanted => ?_, fun h => ?_⟩
  · show execWakeDeadline sd s = _
    have due : (s.display sd).wakeDue = some now := wakeDue_eq_some.mpr ⟨hlink, hdue⟩
    simp only [execWakeDeadline, due]
    rw [if_pos (show ((s.setTimebase now).display sd).wakeAttempt < 4 from hfour)]
    exact congrArg _ (sendBurst_eq sd (s.setTimebase now) (n := d.wakeAttempt + 1) (by omega))
  · have due : (s.display sd).wakeDue = some now := wakeDue_eq_some.mpr ⟨hlink, hdue⟩
    obtain ⟨time, display, raised, queue, frame⟩ := failWake_spec sd (s.setTimebase now)
    refine ⟨failWake sd (s.setTimebase now), ?_, time, display, raised, queue,
      ((unchanged_setTimebase s now).mono (by simp)).trans (frame.mono (by simp))⟩
    show execWakeDeadline sd s = _
    simp only [execWakeDeadline, due]
    exact (if_neg (show ¬((s.setTimebase now).display sd).wakeAttempt < 4 from Nat.not_lt.mpr (Nat.le_of_eq hfour.symm)))
  · show execWakeDeadline sd s = _
    have due : (s.display sd).wakeDue = none := Option.eq_none_iff_forall_ne_some.mpr fun x hx => by
      obtain ⟨hlink, hsome⟩ := wakeDue_eq_some.mp hx
      rcases h with h | h
      · exact h hlink
      · simp [d, hsome] at h
    simp only [execWakeDeadline, due]
  · show execWakeRetryTime sd s = _
    have due : s.wakeRetryDue sd = some now := wakeRetryDue_iff.mpr ⟨hlink, hwanted, hdue⟩
    simp only [execWakeRetryTime, due]
    rw [startWake_hibernate sd (s.setTimebase now) hlink]
    rfl
  · show execWakeRetryTime sd s = _
    have due : s.wakeRetryDue sd = none := Option.eq_none_iff_forall_ne_some.mpr fun x hx => by
      obtain ⟨hlink, hwanted, hsome⟩ := wakeRetryDue_iff.mp hx
      rcases h with h | h | h
      · exact h hlink
      · simp [d, hsome] at h
      · simp [hwanted] at h
    simp only [execWakeRetryTime, due]

/-! ### Messages (R100, R109, R110) -/

theorem exec_ready (sd : Side) (identity : BitVec 32) (s : State) :
    ((s.display sd).link = .waking → exec (.ready sd identity) s = .next (completeWake sd identity s))
      ∧ ((s.display sd).link ≠ .waking → exec (.ready sd identity) s = .next s) := by
  refine ⟨fun h => ?_, fun h => ?_⟩
  · show execReady sd identity s = _
    simp only [execReady, h]
  · show execReady sd identity s = _
    unfold execReady; split
    · next hw => exact absurd hw h
    · rfl

/-- The blank request after a move that is not to BLANKED (R80). -/
theorem changeDisplay_comp (sd : Side) {new : DisplayState} (h : new ≠ .blanked) (s : State) :
    (changeDisplay sd new s).comp sd =
      { s.comp sd with blankRequest := if (s.display sd).state = .blanked then false else (s.comp sd).blankRequest } := by
  have requested : blankAfter (s.display sd).state new (s.comp sd).blankRequest
      = if (s.display sd).state = .blanked then false else (s.comp sd).blankRequest := by
    cases new with
    | blanked => exact absurd rfl h
    | _ => cases (s.display sd).state <;> rfl
  rw [← requested]
  unfold changeDisplay
  cases new with
  | blanked => exact absurd rfl h
  | _ => simp

/-- A move that is not to DARK or BLANKED, beside its report and the blank request. -/
theorem unchanged_changeDisplay_comp (sd : Side) {new : DisplayState} (hdark : new ≠ .dark) (hblanked : new ≠ .blanked) (s : State) :
    Unchanged [.queue, .display sd, .comp sd] s (changeDisplay sd new s) := by
  unfold changeDisplay; simp only
  cases new with
  | dark => exact absurd rfl hdark
  | blanked => exact absurd rfl hblanked
  | _ => exact ((Unchanged.refl.snoc (unchanged_report s _)).snoc (unchanged_setDisplay _ sd _)).snoc (unchanged_setComp _ sd _)

/-- A frame without a piece that has not changed. -/
theorem Unchanged.erase {l : List Part} {p : Part} {s t : State} (h : Unchanged (p :: l) s t) (hp : p.same s t) : Unchanged l s t := by
  intro q hq
  by_cases he : q = p
  · exact he ▸ hp
  · exact h q (by simp [he, hq])

theorem unchanged_changeDisplay_plain (sd : Side) {new : DisplayState} (hdark : new ≠ .dark) (hblanked : new ≠ .blanked) {s : State}
    (hold : (s.display sd).state ≠ .blanked) : Unchanged [.queue, .display sd] s (changeDisplay sd new s) := by
  refine Unchanged.erase (p := .comp sd) ((unchanged_changeDisplay_comp sd hdark hblanked s).mono (by simp)) ?_
  show (changeDisplay sd new s).comp sd = s.comp sd
  rw [changeDisplay_comp sd hblanked, if_neg hold]

/-- A wake completed from DARK (R100, R102). -/
theorem completeWake_spec (sd : Side) (identity : BitVec 32) (s : State) (hdark : (s.display sd).state = .dark) :
    let t := completeWake sd identity s
    t.display sd =
        { s.display sd with
          identity := some identity
          wakeDeadline := none
          wakeAttempt := 0
          echoList := []
          silence := 0
          nextScan := some (s.timebase + 16667)
          link := .synced
          state := .priming }
      ∧ t.runs sd = { s.runs sd with pathMatch := 0, staleClear := 0 }
      ∧ Cleared (.displayLink sd) s t
      ∧ t.queue = queueAfter s s.timebase (clearedReport (.displayLink sd) s ++ [.displayChanged sd .dark .priming])
      ∧ Unchanged [.display sd, .runs sd, .faultSets, .queue] s t := by
  set d : Display :=
    { s.display sd with
      identity := some identity, wakeDeadline := none, wakeAttempt := 0, echoList := [], silence := 0
      nextScan := some (s.later scanPeriod), link := .synced }
  set u : State := (s.setDisplay sd d).setRuns sd { s.runs sd with pathMatch := 0, staleClear := 0 }
  have hu : Unchanged [.display sd, .runs sd] s u := (Unchanged.refl.snoc (unchanged_setDisplay s sd d)).snoc (unchanged_setRuns _ sd _)
  obtain ⟨cleared, queue⟩ := clearFault_after (f := .displayLink sd) hu
  have after := unchanged_clearFault u (.displayLink sd)
  set v : State := clearFault (.displayLink sd) u
  have vdisplay : v.display sd = d := (after (.display sd) (by simp)).trans (by simp [u])
  have vruns : v.runs sd = { s.runs sd with pathMatch := 0, staleClear := 0 } := (after (.runs sd) (by simp)).trans (by simp [u])
  have vtime : v.timebase = s.timebase := (after .timebase (by simp)).trans (hu .timebase (by simp))
  have dark : (v.display sd).state = .dark := by rw [vdisplay]; exact hdark
  have primed := unchanged_changeDisplay_plain sd (new := .priming) (by simp) (by simp) (s := v) (by simp [dark])
  have vgroup : v.faults.group = s.faults.group := (after .faultGroup (by simp)).trans (hu .faultGroup (by simp))
  refine ⟨?_, (primed (.runs sd) (by simp)).trans vruns, ?_, ?_, ((hu.mono (by simp)).trans (after.mono (by simp))).trans (primed.mono (by simp))⟩
  · exact (changeDisplay_display sd .priming v).trans (by rw [vdisplay]; rfl)
  · exact ⟨(primed .faultSets (by simp)).1.trans cleared.1, (primed .faultSets (by simp)).2.trans cleared.2⟩
  · refine (changeDisplay_queue sd .priming v).trans ?_
    rw [dark, vtime, queueAfter_append]
    exact queueAfter_congr _ _ queue vgroup

/-- Settles O33: each message in the link state where it acts, and ignored in every other. -/
theorem monitorMessagesActByTheLinkState : Obligations.MonitorMessagesActByTheLinkState := by
  refine ⟨fun sd identity s => ?_, fun sd fault temperature bytes s => ?_⟩
  · intro d
    refine ⟨fun hlink hdark => ?_, (exec_ready sd identity s).2, fun hlink hwanted => ?_, fun hlink hnot => ?_, fun hlink => ?_⟩
    · refine ⟨completeWake sd identity s, (exec_ready sd identity s).1 hlink, completeWake_spec sd identity s hdark⟩
    · show execCall sd s = _
      simp only [execCall]
      rw [show (s.display sd).link = .hibernate from hlink]
      simp only [hwanted, if_true]
      rw [startWake_hibernate sd s hlink]
    · show execCall sd s = _
      simp only [execCall]
      rw [show (s.display sd).link = .hibernate from hlink]
      simp only [hnot, Bool.false_eq_true, if_false]
      rfl
    · show execCall sd s = _
      unfold execCall; simp only; split
      · next hh => exact absurd hh hlink
      · rfl
  · intro d
    refine ⟨fun hlink => ?_, fun hlink hlen => ?_, fun hlink => ?_, fun hlink hlen => ?_, fun hlen => ?_⟩
    · set u : State := s.setDisplay sd { d with lastStatus := some ⟨fault, temperature, s.timebase⟩ }
      have set := unchanged_setDisplay s sd { d with lastStatus := some ⟨fault, temperature, s.timebase⟩ }
      have run : exec (.monitorStatus sd fault temperature) s
          = .next (if fault then raise (.monitorFault sd) u else clearFault (.monitorFault sd) u) := by
        show execMonitorStatus sd fault temperature s = _
        unfold execMonitorStatus; split
        · rfl
        · next h => exact absurd hlink h
      cases fault with
      | true =>
        have after := unchanged_raise u (f := .monitorFault sd) rfl
        exact ⟨_, run, (after (.display sd) (by simp)).trans (State.setDisplay_display ..), fun _ => raise_after rfl set, nofun,
          (set.mono (by simp)).trans (after.mono (by simp))⟩
      | false =>
        have after := unchanged_clearFault u (.monitorFault sd)
        exact ⟨_, run, (after (.display sd) (by simp)).trans (State.setDisplay_display ..), nofun, fun _ => clearFault_after set,
          (set.mono (by simp)).trans (after.mono (by simp))⟩
    · show execMonitorReply sd bytes s = _
      simp only [execMonitorReply, wellFormedReply, hlen, decide_true, if_true]
      rw [show (s.display sd).link = .synced from hlink]
      rfl
    · show execMonitorStatus sd fault temperature s = _
      unfold execMonitorStatus; split
      · next h => exact absurd h hlink
      · rfl
    · show execMonitorReply sd bytes s = _
      unfold execMonitorReply; split
      · split
        · next h => exact absurd h hlink
        · rfl
      · next h => exact absurd (by simpa [wellFormedReply] using hlen) h
    · show execMonitorReply sd bytes s = _
      unfold execMonitorReply
      rw [if_neg (by simpa [wellFormedReply] using hlen)]

end Sys2Proof.Proofs.MonitorLink
end

section
set_option Elab.async false
/-! The two first steps of a scan start: the display state judged, and the slot handed for it (R102, R104, R90 to R92; O34). -/

namespace Sys2Proof.Proofs.ScanJudgement

open Sys2Proof Sys2Proof.Machine Sys2Proof.Proofs.Blocks Sys2Proof.Proofs.SharedEffects Sys2Proof.Proofs.MonitorLink

/-! ### Step 1: the display state (R102, R104) -/

/-- From s to t the display of the side has been judged to be in `new`, with all that brings. -/
structure JudgedTo (sd : Side) (new : DisplayState) (s t : State) : Prop where
  display : t.display sd =
    { s.display sd with
      state := new
      holdCount :=
        if new = (s.display sd).state then
          (if (s.display sd).state = .hold then (s.display sd).holdCount + 1 else (s.display sd).holdCount)
        else if new = .live then 0 else (s.display sd).holdCount }
  queue : t.queue =
    (if new = (s.display sd).state then s.queue else queueAfter s s.timebase [.displayChanged sd (s.display sd).state new])
  view : if new = .blanked ∧ (s.display sd).state ≠ .blanked then BlankStarts sd true s t
    else ViewStands sd
      (s.setComp sd
        { s.comp sd with blankRequest := if (s.display sd).state = .blanked ∧ new ≠ .blanked then false else (s.comp sd).blankRequest }) t
  frame : Unchanged [.display sd, .queue, .comp sd, .pipe sd, .store sd] s t

section
variable (sd : Side) {s : State}

theorem judgedTo_live (h : (s.display sd).state ≠ .live) : JudgedTo sd .live s (changeDisplay sd .live s) where
  display := by rw [changeDisplay_display, if_neg (Ne.symm h)]; rfl
  queue := by rw [changeDisplay_queue, if_neg (Ne.symm h)]
  view := by
    have frame := unchanged_changeDisplay_comp sd (new := .live) (by simp) (by simp) s
    rw [if_neg (by simp)]
    refine ⟨?_, frame (.pipe sd) (by simp), frame (.store sd) (by simp)⟩
    rw [changeDisplay_comp sd (by simp)]
    simp
  frame := (unchanged_changeDisplay_comp sd (new := .live) (by simp) (by simp) s).mono (by simp)

theorem judgedTo_blanked (h : (s.display sd).state ≠ .blanked) : JudgedTo sd .blanked s (changeDisplay sd .blanked s) where
  display := by rw [changeDisplay_display, if_neg (Ne.symm h)]; rfl
  queue := by rw [changeDisplay_queue, if_neg (Ne.symm h)]
  view := by rw [if_pos ⟨rfl, h⟩]; exact changeDisplay_blanked_starts sd s
  frame := (unchanged_changeDisplay s sd (new := .blanked) (by simp)).mono (by simp)

theorem judgedTo_same (h : (s.display sd).state ≠ .hold) : JudgedTo sd (s.display sd).state s s where
  display := by simp [h]
  queue := by simp
  view := by
    rw [if_neg fun hb => hb.2 hb.1]
    refine ⟨?_, rfl, rfl⟩
    rw [State.setComp_comp, if_neg fun hb => hb.2 hb.1]
  frame := .refl

theorem judgedTo_hold (h : (s.display sd).state = .hold) :
    JudgedTo sd .hold s (s.setDisplay sd { s.display sd with holdCount := (s.display sd).holdCount + 1 }) where
  display := by simp [h]
  queue := by simp [h]
  view := by simp [h, ViewStands]
  frame := (unchanged_setDisplay s sd _).mono (by simp)

theorem normalReady_iff (x : FrameStore) : x.normalReady = true ↔ x.ready.map SlotRecord.kind = some .normal := by
  unfold FrameStore.normalReady
  cases x.ready <;> simp

/-- The display state that step 1 comes to (R102, R104). -/
def judgedState (sd : Side) (s : State) : DisplayState :=
  match (s.display sd).state with
  | .priming =>
    if s.faults.viewLoss sd then .blanked else if (s.store sd).ready.map SlotRecord.kind = some .normal then .live else .priming
  | .hold => if s.faults.viewLoss sd then (if s.faults.group.holdLimit ≤ (s.display sd).holdCount then .blanked else .hold) else .live
  | .blanked => if s.faults.viewLoss sd then .blanked else .live
  | .live => .live
  | .dark => .dark

theorem judgeDisplay_judged (s : State) : JudgedTo sd (judgedState sd s) s (judgeDisplay sd s) := by
  have same (h : (s.display sd).state ≠ .hold) {x : DisplayState} (hx : (s.display sd).state = x) : JudgedTo sd x s s :=
    hx ▸ judgedTo_same sd h
  unfold judgeDisplay judgedState
  cases hd : (s.display sd).state with
  | dark => exact same (by simp [hd]) hd
  | live => exact same (by simp [hd]) hd
  | priming =>
    simp only [judgePriming, normalReady_iff]
    split
    · exact judgedTo_blanked sd (by simp [hd])
    · split
      · exact judgedTo_live sd (by simp [hd])
      · exact same (by simp [hd]) hd
  | hold =>
    simp only [judgeHold]
    split
    · split
      · exact judgedTo_blanked sd (by simp [hd])
      · exact judgedTo_hold sd hd
    · exact judgedTo_live sd (by simp [hd])
  | blanked =>
    simp only
    split
    · exact same (by simp [hd]) hd
    · exact judgedTo_live sd (by simp [hd])

end

/-! ### Step 2: the frame store (R90 to R92) -/

theorem showReady_eq (x : FrameStore) :
    let taken (y : Slot) : Slot := match y with | .ready r => .shown r | .shown _ => .free | z => z
    x.showReady = { x with slot0 := taken x.slot0, slot1 := taken x.slot1, slot2 := taken x.slot2 } := by
  intro taken
  have same (y : Slot) : y.freeShown.show = taken y := by cases y <;> rfl
  simp only [FrameStore.showReady, FrameStore.mapSlots, same]

theorem dropReady_eq {x : FrameStore} (h : x.ready ≠ none) :
    let freed (y : Slot) : Slot := match y with | .ready _ => .free | y => y
    x.dropReady = { x with slot0 := freed x.slot0, slot1 := freed x.slot1, slot2 := freed x.slot2, slotDrops := satInc x.slotDrops } := by
  intro freed
  have same (y : Slot) : y.freeReady = freed y := by cases y <;> rfl
  obtain ⟨r, hr⟩ := Option.ne_none_iff_exists'.mp h
  simp only [FrameStore.dropReady, hr, FrameStore.mapSlots, same]

/-- A dropped READY slot leaves what is SHOWN and the counts of scans. -/
theorem dropReady_keeps (x : FrameStore) :
    x.dropReady.shown = x.shown ∧ x.dropReady.scanRepeats = x.scanRepeats ∧ x.dropReady.emptyScans = x.emptyScans := by
  have same (y : Slot) : y.freeReady.shownRecord = y.shownRecord := by cases y <;> rfl
  unfold FrameStore.dropReady
  split
  · simp [FrameStore.shown, FrameStore.mapSlots, same]
  · exact ⟨rfl, rfl, rfl⟩

theorem dropReady_none {x : FrameStore} (h : x.ready = none) : x.dropReady = x := by simp [FrameStore.dropReady, h]

theorem scanLive_eq (x : FrameStore) :
    x.scanLive = if x.ready.map SlotRecord.kind = some .normal then ⟨x.showReady, x.ready⟩ else x.dropReady.repeatShown := by
  unfold FrameStore.scanLive
  cases hr : x.ready with
  | none => simp [dropReady_none hr]
  | some r => cases hk : r.kind <;> simp [hk]

theorem scanBlanked_eq (x : FrameStore) :
    x.scanBlanked = if x.ready.map SlotRecord.kind = some .faultPattern then ⟨x.showReady, x.ready⟩ else x.dropReady.repeatFault := by
  unfold FrameStore.scanBlanked
  cases hr : x.ready with
  | none => simp [dropReady_none hr]
  | some r => cases hk : r.kind <;> simp [hk]

theorem repeatShown_eq (y : FrameStore) :
    y.repeatShown = if y.shown = none then ⟨{ y with emptyScans := satInc y.emptyScans }, none⟩
      else ⟨{ y with scanRepeats := satInc y.scanRepeats }, y.shown⟩ := by
  unfold FrameStore.repeatShown
  cases y.shown <;> simp

theorem repeatFault_eq (y : FrameStore) :
    y.repeatFault = if y.shown.map SlotRecord.kind = some .faultPattern then ⟨{ y with scanRepeats := satInc y.scanRepeats }, y.shown⟩
      else ⟨{ y with emptyScans := satInc y.emptyScans }, none⟩ := by
  unfold FrameStore.repeatFault
  cases y.shown with
  | none => simp
  | some r => cases hk : r.kind <;> simp [hk]

theorem scanHold_eq (x : FrameStore) :
    x.scanHold = if x.shown = none then ⟨x, none⟩ else ⟨{ x with scanRepeats := satInc x.scanRepeats }, x.shown⟩ := by
  unfold FrameStore.scanHold
  cases x.shown <;> simp

theorem scanPriming_eq (x : FrameStore) :
    x.scanPriming = if x.ready.map SlotRecord.kind = some .faultPattern then ⟨x.dropReady, none⟩ else ⟨x, none⟩ := by
  unfold FrameStore.scanPriming
  cases x.ready with
  | none => simp
  | some r => cases hk : r.kind <;> simp [hk]

/-- Settles O34: the judged state with its move, and the store's answer by the state and the kinds it holds. -/
theorem scanJudgesThenHandsASlot : Obligations.ScanJudgesThenHandsASlot := by
  refine ⟨fun sd s => ?_, fun x => ?_⟩
  · intro old new loss count limit
    obtain ⟨display, queue, view, frame⟩ := judgeDisplay_judged sd s
    have hnew : judgedState sd s = new := by simp only [new]; rw [display]
    rw [hnew] at display queue view
    have from_state {x : DisplayState} (h : old = x) : (s.display sd).state = x := h
    refine ⟨fun h => ?_, fun h => ?_, fun h => ?_, fun h => ?_, fun h => ?_, display, queue, view, frame⟩
    · rw [← hnew]; simp only [judgedState, from_state h]
    · rw [← hnew]; simp only [judgedState, from_state h]
    · rw [← hnew]; simp only [judgedState, from_state h]; rfl
    · rw [← hnew]; simp only [judgedState, from_state h]; rfl
    · rw [← hnew]; simp only [judgedState, from_state h]; rfl
  · intro drop taken shows repeats empty kind rest
    have hshows : x.showReady = shows := showReady_eq x
    have hdrop (h : x.ready ≠ none) : x.dropReady = drop := dropReady_eq h
    have hrest : x.dropReady = rest := by
      cases hr : x.ready with
      | none => simp [rest, kind, hr, dropReady_none hr]
      | some r => simp [rest, kind, hr, hdrop]
    obtain ⟨shown, scans, empties⟩ := dropReady_keeps x
    rw [hrest] at shown scans empties
    have counted : { rest with emptyScans := satInc rest.emptyScans } = empty rest := by simp only [empty, empties]
    have repeated : { rest with scanRepeats := satInc rest.scanRepeats } = repeats rest := by simp only [repeats, scans]
    refine ⟨fun h => ?_, fun h => ?_, fun h => ?_, fun h => ?_, fun h => ?_, fun h => ?_, ?_⟩
    · exact (scanLive_eq x).trans ((if_pos h).trans (by rw [hshows]))
    · refine (scanLive_eq x).trans ((if_neg h).trans ?_)
      rw [hrest, repeatShown_eq, shown, counted, repeated]
    · exact (scanBlanked_eq x).trans ((if_pos h).trans (by rw [hshows]))
    · refine (scanBlanked_eq x).trans ((if_neg h).trans ?_)
      rw [hrest, repeatFault_eq, shown, counted, repeated]
    · exact (scanHold_eq x).trans (if_neg h)
    · exact (scanHold_eq x).trans (if_pos h)
    · refine (scanPriming_eq x).trans ?_
      by_cases h : kind = some .faultPattern
      · rw [if_pos h, if_pos h, hdrop fun hn => by simp [kind, hn] at h]
      · rw [if_neg h, if_neg h]

end Sys2Proof.Proofs.ScanJudgement
end

section
set_option Elab.async false
/-! The sleep-and-wake of a link after a raise of DISPLAY_PATH (R108), and the judgements that bring it (R104, R106, R107; O36, O37). -/

namespace Sys2Proof.Proofs.PathFailure

open Sys2Proof Sys2Proof.Machine Sys2Proof.Proofs.Blocks Sys2Proof.Proofs.SharedEffects Sys2Proof.Proofs.MonitorLink

/-! ### The sleep-and-wake (R108) -/

section
variable (sd : Side) {s : State}

/-- A display in DARK or on its way there (R102, R80, R111). -/
theorem moveDark_spec (s : State) :
    let d := s.display sd
    let t := moveDark sd s
    t.display sd = { d with state := .dark, holdCount := if d.state = .dark then d.holdCount else 0 }
      ∧ t.comp sd = { s.comp sd with blankRequest := if d.state = .blanked then false else (s.comp sd).blankRequest }
      ∧ t.runs sd = { s.runs sd with staleClear := if d.state = .dark then (s.runs sd).staleClear else 0 }
      ∧ t.queue = queueAfter s s.timebase (if d.state = .dark then [] else [.displayChanged sd d.state .dark])
      ∧ Unchanged [.queue, .display sd, .comp sd, .runs sd] s t := by
  intro d t
  by_cases h : d.state = .dark
  · have stays : t = s := by
      simp only [t, moveDark]
      rw [show (s.display sd).state = .dark from h]
    rw [stays]
    refine ⟨?_, ?_, ?_, ?_, .refl⟩
    · rw [if_pos h, ← h]
    · rw [if_neg (by simp [h])]
    · rw [if_pos h]
    · rw [if_pos h, queueAfter_nil]
  · have moves : t = changeDisplay sd .dark s := by
      simp only [t, moveDark]
      split
      · next hd => exact absurd hd h
      · rfl
    rw [moves]
    refine ⟨?_, changeDisplay_comp sd (by simp) s, ?_, ?_, unchanged_changeDisplay_dark s sd⟩
    · rw [changeDisplay_display, if_neg h]; rfl
    · rw [if_neg h]; simp [changeDisplay]
    · rw [changeDisplay_queue, if_neg h]

/-- The link of a SYNCED port put to sleep and woken (R108). -/
theorem sleepAndWake_spec (h : (s.display sd).link = .synced) :
    let d := s.display sd
    let t := sleepAndWake sd s
    t.display sd = { resynced d s.timebase with holdCount := if d.state = .dark then d.holdCount else 0 }
      ∧ t.sent = s.sent ++ [.sleepNotice sd, .wakeBurst sd]
      ∧ t.comp sd = { s.comp sd with blankRequest := if d.state = .blanked then false else (s.comp sd).blankRequest }
      ∧ t.runs sd = { s.runs sd with staleClear := if d.state = .dark then (s.runs sd).staleClear else 0 }
      ∧ t.queue = queueAfter s s.timebase (if d.state = .dark then [] else [.displayChanged sd d.state .dark])
      ∧ Unchanged [.display sd, .sent, .queue, .comp sd, .runs sd] s t := by
  intro d t
  set u : State := (sleepLink sd s).setDisplay sd { (sleepLink sd s).display sd with nextScan := none }
  have asleep : sleepLink sd s = (s.emit (.sleepNotice sd)).setDisplay sd { s.display sd with link := .hibernate } := by
    unfold sleepLink
    simp only [h]
  have udisplay : u.display sd = { d with link := .hibernate, nextScan := none } := by simp [u, asleep, d]
  have usent : u.sent = s.sent ++ [.sleepNotice sd] := by simp [u, asleep, State.emit]
  have uframe : Unchanged [.display sd, .sent] s u := (unchanged_sleepLink s sd).snoc (unchanged_setDisplay _ sd _)
  obtain ⟨display, comp, runs, queue, frame⟩ := moveDark_spec sd u
  set v : State := moveDark sd u
  rw [udisplay] at display comp runs queue
  set w : State := v.setDisplay sd
    { v.display sd with counters := { (v.display sd).counters with pathResyncs := satInc (v.display sd).counters.pathResyncs } }
  have wframe := unchanged_setDisplay v sd
    { v.display sd with counters := { (v.display sd).counters with pathResyncs := satInc (v.display sd).counters.pathResyncs } }
  have wdisplay : w.display sd =
      { v.display sd with counters := { (v.display sd).counters with pathResyncs := satInc (v.display sd).counters.pathResyncs } } :=
    State.setDisplay_display ..
  have woken := startWake_hibernate sd w (by rw [wdisplay, display])
  have tframe := unchanged_startWake w sd
  have ht : t = startWake sd w := rfl
  have vtime : w.timebase = s.timebase := (wframe .timebase (by simp)).trans ((frame .timebase (by simp)).trans (uframe .timebase (by simp)))
  rw [← ht] at woken tframe
  refine ⟨?_, ?_, ?_, ?_, ?_, ?_⟩
  · rw [woken]
    refine (Sides.get_set_same ..).trans ?_
    rw [wdisplay, display, vtime]
    rfl
  · rw [woken]
    show w.sent ++ _ = _
    rw [wframe .sent (by simp), frame .sent (by simp), usent]
    simp
  · rw [tframe (.comp sd) (by simp), wframe (.comp sd) (by simp), comp, uframe (.comp sd) (by simp)]
  · rw [tframe (.runs sd) (by simp), wframe (.runs sd) (by simp), runs, uframe (.runs sd) (by simp)]
  · rw [tframe .queue (by simp), wframe .queue (by simp), queue, uframe .timebase (by simp)]
    exact queueAfter_congr _ _ (uframe .queue (by simp)) (uframe .faultGroup (by simp))
  · exact (((uframe.mono (by simp)).trans (frame.mono (by simp))).trans (wframe.mono (by simp))).trans (tframe.mono (by simp))

/-- A path failure where DISPLAY_PATH is not current: the raise, then the sleep-and-wake (R106 to R108). -/
theorem pathFailed_raises (k : State → State) (hlink : (s.display sd).link = .synced)
    (hpath : FaultSet.has s.faults.current (.displayPath sd) = false) :
    let d := s.display sd
    let t := pathFailed sd k s
    t.display sd = { resynced d s.timebase with holdCount := if d.state = .dark then d.holdCount else 0 }
      ∧ Raised (.displayPath sd) s t
      ∧ t.queue = queueAfter s s.timebase
          (raisedReport (.displayPath sd) s ++ if d.state = .dark then [] else [.displayChanged sd d.state .dark])
      ∧ t.sent = s.sent ++ [.sleepNotice sd, .wakeBurst sd]
      ∧ t.runs sd = { s.runs sd with staleClear := if d.state = .dark then (s.runs sd).staleClear else 0 }
      ∧ t.comp sd = { s.comp sd with blankRequest := if d.state = .blanked then false else (s.comp sd).blankRequest }
      ∧ Unchanged [.display sd, .comp sd, .runs sd, .faultSets, .queue, .sent] s t := by
  intro d t
  have ht : t = sleepAndWake sd (raise (.displayPath sd) s) := by simp [t, pathFailed, hpath]
  have raised := unchanged_raise s (f := .displayPath sd) rfl
  have sets := raise_raised (.displayPath sd) s
  have reported := raise_queue (f := .displayPath sd) rfl s
  set u : State := raise (.displayPath sd) s
  have udisplay : u.display sd = d := raised (.display sd) (by simp)
  obtain ⟨display, sent, comp, runs, queue, frame⟩ := sleepAndWake_spec sd (s := u) (by rw [udisplay]; exact hlink)
  rw [← ht] at display sent comp runs queue frame
  rw [udisplay] at display comp runs queue
  have utime : u.timebase = s.timebase := raised .timebase (by simp)
  refine ⟨by rw [display, utime], ?_, ?_, by rw [sent, raised .sent (by simp)], by rw [runs, raised (.runs sd) (by simp)],
    by rw [comp, raised (.comp sd) (by simp)], (raised.mono (by simp)).trans (frame.mono (by simp))⟩
  · unfold Raised at sets ⊢
    rw [(frame .faultSets (by simp)).1, (frame .faultSets (by simp)).2]
    exact sets
  · rw [queue, queueAfter_append, utime]
    exact queueAfter_congr _ _ reported (raised .faultGroup (by simp))

end

/-! ### HOLD at its limit and an echo silence on their own (R104, R107) -/

/-- HOLD at its limit under a view loss (R104). -/
theorem expireHold_expires {sd : Side} {s : State} (hhold : (s.display sd).state = .hold) (hloss : s.faults.viewLoss sd = true)
    (hlimit : s.faults.group.holdLimit ≤ (s.display sd).holdCount) : expireHold sd s = changeDisplay sd .blanked s := by
  unfold expireHold
  simp only [hhold]
  exact if_pos ⟨hloss, hlimit⟩

theorem exec_echoSilence {sd : Side} {s : State} (hlink : (s.display sd).link = .synced) (hsix : 6 ≤ (s.display sd).silence) :
    exec (.echoSilence sd) s = .next (silenceReached sd s) := by
  show execEchoSilence sd s = _
  unfold execEchoSilence; split
  · exact if_pos hsix
  · next h => exact absurd hlink h

/-- Settles O36: each judgement where it applies, and no effect elsewhere. -/
theorem holdExpiryAndEchoSilenceAct : Obligations.HoldExpiryAndEchoSilenceAct := by
  intro sd s d
  refine ⟨fun hhold hloss hlimit => ?_, fun h => ?_, fun hlink hsix hpath => ?_, fun hlink hdark hsix hpath => ?_, fun h => ?_⟩
  · set u : State := s.setTimebase (d.nextScan.getD s.timebase)
    have run : exec (.holdExpiry sd) s = .next (changeDisplay sd .blanked u) := by
      show execHoldExpiry sd s = _
      unfold execHoldExpiry; simp only; split
      · rw [if_pos ⟨hloss, hlimit⟩]
        exact congrArg _ (expireHold_expires (s := u) hhold hloss hlimit)
      · next h => exact absurd hhold h
    have uframe := unchanged_setTimebase s (d.nextScan.getD s.timebase)
    have frame := unchanged_changeDisplay u sd (new := .blanked) (by simp)
    refine ⟨_, run, frame .timebase (by simp), ?_, ?_, ?_, (uframe.mono (by simp)).trans (frame.mono (by simp))⟩
    · exact changeDisplay_display sd .blanked u
    · refine (changeDisplay_queue sd .blanked u).trans ?_
      rw [show (u.display sd).state = .hold from hhold]
      rfl
    · exact blankStarts_congr (changeDisplay_blanked_starts sd u) rfl rfl rfl rfl
  · show execHoldExpiry sd s = _
    unfold execHoldExpiry; simp only; split
    · next hhold =>
      refine if_neg fun hboth => ?_
      obtain ⟨hloss, hlimit⟩ := hboth
      rcases h with h | h | h
      · exact h hhold
      · simp [hloss] at h
      · exact absurd hlimit (Nat.not_le.mpr h)
    · rfl
  · exact (exec_echoSilence hlink hsix).trans (congrArg _ (if_pos hpath))
  · have set := unchanged_setDisplay s sd
      { d with silence := 0, counters := { d.counters with echoSilences := satInc d.counters.echoSilences } }
    set u : State := s.setDisplay sd { d with silence := 0, counters := { d.counters with echoSilences := satInc d.counters.echoSilences } }
    have udisplay : u.display sd = { d with silence := 0, counters := { d.counters with echoSilences := satInc d.counters.echoSilences } } :=
      State.setDisplay_display ..
    obtain ⟨display, raised, queue, sent, runs, comp, frame⟩ := pathFailed_raises sd (s := u)
      (fun s => s.setRuns sd { s.runs sd with pathMatch := 0 }) (by rw [udisplay]; exact hlink) hpath
    rw [udisplay] at display queue runs comp
    simp only [if_neg hdark] at display queue runs
    refine ⟨_, exec_echoSilence hlink hsix, display, raised, queue, sent, runs, comp, (set.mono (by simp)).trans (frame.mono (by simp))⟩
  · show execEchoSilence sd s = _
    unfold execEchoSilence; split
    · next hlink => exact if_neg (Nat.not_le.mpr (h.resolve_left fun hne => hne hlink))
    · rfl

/-! ### Echoes (R106) -/

/-- The list after a match: what is newer than the oldest equal entry (R106). -/
theorem confirm_eq {x : BitVec 32} {before after : List (BitVec 32)} (h : x ∉ before) : confirm (before ++ x :: after) x = after := by
  have dropped : (before ++ x :: after).dropWhile (fun y => decide (y ≠ x)) = x :: after := by
    rw [List.dropWhile_append_of_pos fun y hy => decide_eq_true (p := y ≠ x) fun he => h (he ▸ hy)]
    simp
  simp only [confirm, dropped, List.drop_succ_cons, List.drop_zero]

theorem exec_echo {sd : Side} {x : BitVec 32} {s : State} (hlink : (s.display sd).link = .synced) :
    exec (.echo sd x) s = .next (judgeEcho sd x s) := by
  show execEcho sd x s = _
  unfold execEcho; split
  · rfl
  · next h => exact absurd hlink h

/-- Settles O37: the three steps of the match run, and a mismatch with and without DISPLAY_PATH current. -/
theorem echoIsMatchedAgainstTheList : Obligations.EchoIsMatchedAgainstTheList := by
  intro sd x s d r path
  refine ⟨fun hlink before after hlist hfirst => ?_, fun hlink hno => ?_, fun hlink => ?_⟩
  · set matched : Display :=
      { d with silence := 0, echoList := after, counters := { d.counters with echoesMatched := satInc d.counters.echoesMatched } }
    set u : State := s.setDisplay sd matched
    have run : exec (.echo sd x) s = .next (advanceMatch sd u) := by
      have confirmed : confirm d.echoList x = after := by rw [hlist]; exact confirm_eq hfirst
      refine (exec_echo hlink).trans (congrArg _ ((if_pos (show x ∈ d.echoList by simp [hlist])).trans ?_))
      simp only [u, matched, ← confirmed]
      rfl
    have uframe := unchanged_setDisplay s sd matched
    have udisplay : u.display sd = matched := State.setDisplay_display ..
    by_cases hpath : path = true
    · by_cases hrun : 3 ≤ r.pathMatch + 1
      · have advanced : advanceMatch sd u = clearFault (.displayPath sd) (u.setRuns sd { r with pathMatch := 0 }) :=
          (if_pos hpath).trans (if_pos hrun)
        have zeroed : Unchanged [.display sd, .runs sd] s (u.setRuns sd { r with pathMatch := 0 }) :=
          (Unchanged.refl.snoc uframe).snoc (unchanged_setRuns u sd _)
        have frame := unchanged_clearFault (u.setRuns sd { r with pathMatch := 0 }) (.displayPath sd)
        obtain ⟨cleared, queue⟩ := clearFault_after (f := .displayPath sd) zeroed
        rw [advanced] at run
        refine ⟨_, run, (frame (.display sd) (by simp)).trans udisplay, by simp [hpath], fun _ h => by omega, fun _ _ => ⟨?_, cleared, queue, ?_⟩⟩
        · exact (frame (.runs sd) (by simp)).trans (State.setRuns_runs ..)
        · exact (zeroed.mono (by simp)).trans (frame.mono (by simp))
      · have advanced : advanceMatch sd u = u.setRuns sd { r with pathMatch := r.pathMatch + 1 } := (if_pos hpath).trans (if_neg hrun)
        rw [advanced] at run
        exact ⟨_, run, udisplay, by simp [hpath], fun _ _ => ⟨State.setRuns_runs .., (Unchanged.refl.snoc uframe).snoc (unchanged_setRuns u sd _)⟩,
          fun _ h => by omega⟩
    · rw [show advanceMatch sd u = u from if_neg hpath] at run
      exact ⟨u, run, udisplay, fun _ => uframe, fun h => absurd h hpath, fun h => absurd h hpath⟩
  · intro missed
    set u : State := (s.setDisplay sd missed).setRuns sd { r with pathMatch := 0 }
    have run : exec (.echo sd x) s = .next (pathFailed sd id u) := (exec_echo hlink).trans (congrArg _ (if_neg hno))
    refine ⟨fun hpath => ?_, fun hpath hdark => ?_⟩
    · exact run.trans (congrArg _ (if_pos hpath))
    · have uframe : Unchanged [.display sd, .runs sd] s u := (Unchanged.refl.snoc (unchanged_setDisplay s sd missed)).snoc (unchanged_setRuns _ sd _)
      have udisplay : u.display sd = missed := (State.setRuns_get_display ..).trans (State.setDisplay_display ..)
      have uruns : u.runs sd = { r with pathMatch := 0 } := State.setRuns_runs ..
      obtain ⟨display, raised, queue, sent, runs, comp, frame⟩ := pathFailed_raises sd (s := u) id (by rw [udisplay]; exact hlink) hpath
      rw [udisplay] at display queue runs comp
      rw [uruns] at runs
      simp only [show missed.state ≠ .dark from hdark, if_false] at display queue runs
      exact ⟨_, run, display, raised, queue, sent, runs, comp, (uframe.mono (by simp)).trans (frame.mono (by simp))⟩
  · show execEcho sd x s = _
    unfold execEcho; split
    · next h => exact absurd h hlink
    · rfl

end Sys2Proof.Proofs.PathFailure
end

section
set_option Elab.async false
/-! The seven steps of a scan start, each by itself (R105, R107, R111). -/

namespace Sys2Proof.Proofs.ScanSteps

open Sys2Proof Sys2Proof.Machine Sys2Proof.Proofs.Blocks Sys2Proof.Proofs.SharedEffects Sys2Proof.Proofs.MonitorLink
  Sys2Proof.Proofs.Judgements Sys2Proof.Proofs.PathFailure

/-! ### The next scan time aside -/

section
variable (sd : Side) (x : Option Time)

/-- The next scan time of a display set. -/
def setScan (s : State) : State := s.setDisplay sd { s.display sd with nextScan := x }

theorem beginComposition_setScan (source : Option (BufName × Developed)) (y : FrameStore) (s : State) :
    beginComposition sd source y (setScan sd x s) = setScan sd x (beginComposition sd source y s) := by
  cases sd <;> rfl

theorem tryFrameStart_setScan (s : State) : tryFrameStart sd (setScan sd x s) = setScan sd x (tryFrameStart sd s) := by
  have state : ((setScan sd x s).display sd).state = (s.display sd).state := by simp [setScan]
  have comp : (setScan sd x s).comp sd = s.comp sd := rfl
  have pipe : (setScan sd x s).pipe sd = s.pipe sd := rfl
  have store : (setScan sd x s).store sd = s.store sd := rfl
  unfold tryFrameStart
  rw [state, comp, pipe, store]
  split
  · exact beginComposition_setScan ..
  · split
    · exact beginComposition_setScan ..
    · rfl
  · rfl

theorem changeDisplay_setScan (new : DisplayState) (s : State) :
    changeDisplay sd new (setScan sd x s) = setScan sd x (changeDisplay sd new s) := by
  cases new with
  | blanked =>
    refine Eq.trans ?_ (tryFrameStart_setScan sd x _)
    cases sd <;> rfl
  | _ => cases sd <;> rfl

theorem judgeDisplay_setScan (s : State) : judgeDisplay sd (setScan sd x s) = setScan sd x (judgeDisplay sd s) := by
  have display : (setScan sd x s).display sd = { s.display sd with nextScan := x } := by simp [setScan]
  have faults : (setScan sd x s).faults = s.faults := rfl
  have store : (setScan sd x s).store sd = s.store sd := rfl
  unfold judgeDisplay judgePriming judgeHold
  simp only [display, faults, store, changeDisplay_setScan]
  cases hd : (s.display sd).state with
  | dark => rfl
  | live => rfl
  | priming => simp only; split_ifs <;> rfl
  | blanked => simp only; split_ifs <;> rfl
  | hold =>
    simp only; split_ifs
    · rfl
    · cases sd <;> rfl
    · rfl

end

/-! ### Steps 3 to 5: what is sent -/

theorem sent_spec (sd : Side) (handed : Option SlotRecord) (v : State) :
    let d := v.display sd
    let t := sendOutbound sd (sendFrame sd handed v)
    t.display sd =
        { d with
          echoList :=
            (if 4 ≤ d.echoList.length then d.echoList.drop 1 else d.echoList) ++ [(handed.map SlotRecord.signature).getD startSignature]
          outQueue := d.outQueue.drop 1
          counters :=
            { d.counters with
              framesSent := satInc d.counters.framesSent
              startPatternsSent := if handed = none then satInc d.counters.startPatternsSent else d.counters.startPatternsSent } }
      ∧ t.sent = v.sent ++ [.frame sd d.backlight ((handed.map SlotRecord.raster).getD .start)]
          ++ (d.outQueue.take 1).map (Sent.passThrough sd)
      ∧ Unchanged [.display sd, .sent] v t := by
  intro d t
  set u := sendFrame sd handed v with hu
  have framed : u.display sd =
        { d with
          echoList :=
            (if 4 ≤ d.echoList.length then d.echoList.drop 1 else d.echoList) ++ [(handed.map SlotRecord.signature).getD startSignature]
          counters :=
            { d.counters with
              framesSent := satInc d.counters.framesSent
              startPatternsSent := if handed = none then satInc d.counters.startPatternsSent else d.counters.startPatternsSent } }
      ∧ u.sent = v.sent ++ [.frame sd d.backlight ((handed.map SlotRecord.raster).getD .start)]
      ∧ Unchanged [.display sd, .sent] v u := by
    cases handed with
    | none =>
      exact ⟨State.setDisplay_display .., rfl, (Unchanged.refl.snoc (unchanged_emit v _)).snoc (unchanged_setDisplay _ sd _)⟩
    | some r =>
      exact ⟨State.setDisplay_display .., rfl, (Unchanged.refl.snoc (unchanged_emit v _)).snoc (unchanged_setDisplay _ sd _)⟩
  obtain ⟨display, sent, frame⟩ := framed
  have queue : (u.display sd).outQueue = d.outQueue := by rw [display]
  have ht : t = sendOutbound sd u := rfl
  cases hq : d.outQueue with
  | nil =>
    have stays : t = u := by rw [ht, sendOutbound, queue, hq]
    rw [stays]
    refine ⟨?_, by simpa using sent, frame⟩
    rw [display, hq]
    rfl
  | cons x rest =>
    have sends : t = (u.emit (.passThrough sd x)).setDisplay sd { u.display sd with outQueue := rest } := by rw [ht, sendOutbound, queue, hq]
    rw [sends]
    refine ⟨?_, ?_, (frame.snoc (unchanged_emit u _)).snoc (unchanged_setDisplay _ sd _)⟩
    · rw [State.setDisplay_display, display]
      rfl
    · show u.sent ++ _ = _
      rw [sent]
      simp

/-! ### Step 6: VIEW_STALE (R111) -/

/-- From w to t VIEW_STALE has been judged by the slot handed. -/
structure StaleJudged (sd : Side) (handed : Option SlotRecord) (w t : State) : Prop where
  current : FaultSet.has t.faults.current (.viewStale sd) = (staleAfter sd handed w.timebase w).1
  moves : FaultsMove [.viewStale sd] w t
  runs : t.runs sd = { w.runs sd with staleClear := (staleAfter sd handed w.timebase w).2 }
  display : t.display sd =
    { (if FaultSet.has t.faults.current (.viewStale sd) then displayAfterLoss (.viewStale sd) sd w else w.display sd) with
      lastAge := ((handed.bind SlotRecord.capture).map (w.timebase - ·) <|> (w.display sd).lastAge) }
  queue : t.queue = queueAfter w w.timebase
    (movedReport (.viewStale sd) w t ++ if FaultSet.has t.faults.current (.viewStale sd) then lossMove (.viewStale sd) sd w else [])
  view : if FaultSet.has t.faults.current (.viewStale sd) then ViewAfterLoss (.viewStale sd) sd w t else ViewStands sd w t
  frame : Unchanged (.runs sd :: faultParts sd) w t

section
variable {sd : Side} {handed : Option SlotRecord} {w : State}

/-- Of the display a raise of a view loss reads the state alone, as far as the view blocks go. -/
theorem viewAfterLoss_of_state {f : FaultId} {u v t : State} (h : ViewAfterLoss f sd u t) (hc : v.comp sd = u.comp sd)
    (hp : v.pipe sd = u.pipe sd) (hx : v.store sd = u.store sd) (hd : (v.display sd).state = (u.display sd).state)
    (ha : v.freshAngle = u.freshAngle) (hf : v.faults.current = u.faults.current) (hg : v.faults.group = u.faults.group) :
    ViewAfterLoss f sd v t := by
  unfold ViewAfterLoss ViewStands at h ⊢
  rw [hf, hd, hg]
  split
  · next hif => rw [if_pos hif] at h; exact blankStarts_congr h hc hp hx ha
  · next hif => rw [if_neg hif] at h; rw [hc, hp, hx]; exact h

/-- VIEW_STALE left as it is. -/
theorem staleJudged_stays {t : State} {age : Option Time} {run : Nat}
    (hage : ((handed.bind SlotRecord.capture).map (w.timebase - ·) <|> (w.display sd).lastAge) = age)
    (hafter : staleAfter sd handed w.timebase w = (FaultSet.has w.faults.current (.viewStale sd), run))
    (hdisplay : t.display sd = { w.display sd with lastAge := age }) (hruns : t.runs sd = { w.runs sd with staleClear := run })
    (frame : Unchanged [.display sd, .runs sd] w t) : StaleJudged sd handed w t := by
  have sets := frame .faultSets (by simp)
  have same : FaultSet.has t.faults.current (.viewStale sd) = FaultSet.has w.faults.current (.viewStale sd) := by rw [sets.1]
  refine ⟨by rw [same, hafter], ⟨fun f _ => by rw [sets.1], fun f => by rw [sets.1, sets.2]; simp⟩, by rw [hruns, hafter], ?_, ?_, ?_,
    frame.mono (by simp [faultParts])⟩
  · rw [hdisplay, same, hage]
    cases h : FaultSet.has w.faults.current (.viewStale sd) <;> simp [h, displayAfterLoss]
  · rw [movedReport_same same, frame .queue (by simp), same]
    cases h : FaultSet.has w.faults.current (.viewStale sd) <;> simp [h, lossMove, queueAfter_nil]
  · have stands : ViewStands sd w t := ⟨frame (.comp sd) (by simp), frame (.pipe sd) (by simp), frame (.store sd) (by simp)⟩
    rw [same]
    cases h : FaultSet.has w.faults.current (.viewStale sd) with
    | false => simpa using stands
    | true => simpa [ViewAfterLoss, h] using stands

theorem evaluateStale_judged : StaleJudged sd handed w (evaluateStale sd handed w) := by
  unfold evaluateStale
  cases hcap : handed.bind SlotRecord.capture with
  | none =>
    exact staleJudged_stays (age := (w.display sd).lastAge) (by rw [hcap]; rfl) (run := (w.runs sd).staleClear) (by simp only [staleAfter, hcap])
      rfl rfl .refl
  | some c =>
    set age := w.timebase - c
    have hage : ((handed.bind SlotRecord.capture).map (w.timebase - ·) <|> (w.display sd).lastAge) = some age := by rw [hcap]; rfl
    set u : State := w.setDisplay sd { w.display sd with lastAge := some age }
    have uframe := unchanged_setDisplay w sd { w.display sd with lastAge := some age }
    have udisplay : u.display sd = { w.display sd with lastAge := some age } := State.setDisplay_display ..
    have stored (run : Nat) : Unchanged [.display sd, .runs sd] w (u.setRuns sd { w.runs sd with staleClear := run }) :=
      (Unchanged.refl.snoc uframe).snoc (unchanged_setRuns u sd _)
    have judged : judgeStale sd age w =
        if FaultSet.has w.faults.current (.viewStale sd) then
          if w.faults.group.latencyBudget < age.toNat then u.setRuns sd { w.runs sd with staleClear := 0 }
          else if 3 ≤ (w.runs sd).staleClear + 1 then clearFault (.viewStale sd) (u.setRuns sd { w.runs sd with staleClear := 0 })
          else u.setRuns sd { w.runs sd with staleClear := (w.runs sd).staleClear + 1 }
        else if w.faults.group.latencyBudget < age.toNat then raise (.viewStale sd) u
        else u := rfl
    show StaleJudged sd handed w (judgeStale sd age w)
    rw [judged]
    cases hold : FaultSet.has w.faults.current (.viewStale sd) with
    | true =>
      rw [if_pos rfl]
      by_cases hlate : w.faults.group.latencyBudget < age.toNat
      · rw [if_pos hlate]
        exact staleJudged_stays hage (by simp only [staleAfter, hcap, hold, if_true]; rw [if_pos hlate]) udisplay (State.setRuns_runs ..)
          (stored 0)
      · rw [if_neg hlate]
        by_cases hrun : 3 ≤ (w.runs sd).staleClear + 1
        · rw [if_pos hrun]
          have after := unchanged_clearFault (u.setRuns sd { w.runs sd with staleClear := 0 }) (.viewStale sd)
          have gone := (has_of_cleared (g := .viewStale sd) (clearFault_cleared (.viewStale sd)
            (u.setRuns sd { w.runs sd with staleClear := 0 }))).1
          simp only [decide_true, Bool.not_true, Bool.and_false] at gone
          have judgement := (judged_clearFault (.viewStale sd) (u.setRuns sd { w.runs sd with staleClear := 0 })).after (stored 0)
          have outcome : staleAfter sd handed w.timebase w = (false, 0) := by
            simp only [staleAfter, hcap, hold, if_true]; rw [if_neg hlate, if_neg (by omega)]
          refine ⟨by rw [gone, outcome], judgement.moves, ?_, ?_, ?_, ?_, ((stored 0).mono (by simp [faultParts])).trans (after.mono (by simp [faultParts]))⟩
          · rw [outcome]; exact (after (.runs sd) (by simp)).trans (State.setRuns_runs ..)
          · rw [gone, hage]; exact (after (.display sd) (by simp)).trans udisplay
          · simpa [gone] using judgement.queue
          · rw [if_neg (by simp [gone])]
            exact ⟨after (.comp sd) (by simp), after (.pipe sd) (by simp), after (.store sd) (by simp)⟩
        · rw [if_neg hrun]
          exact staleJudged_stays hage
            (by simp only [staleAfter, hcap, hold, if_true]; rw [if_neg hlate, if_pos (by omega)]) udisplay (State.setRuns_runs ..) (stored _)
    | false =>
      rw [if_neg (by simp)]
      by_cases hlate : w.faults.group.latencyBudget < age.toNat
      · rw [if_pos hlate]
        have after := unchanged_raise_viewLoss u (sd := sd) (f := .viewStale sd) rfl
        have there := (has_of_raised (g := .viewStale sd) (raise_raised (.viewStale sd) u)).1
        simp only [decide_true, Bool.or_true] at there
        obtain ⟨display, queue, view⟩ := raise_viewLoss (f := .viewStale sd) (sd := sd) rfl u
        have outcome : staleAfter sd handed w.timebase w = (true, (w.runs sd).staleClear) := by
          simp only [staleAfter, hcap, hold]; rw [if_pos hlate]; rfl
        have ustate : (u.display sd).state = (w.display sd).state := by rw [udisplay]
        refine ⟨by rw [there, outcome], faultsMove_of_raised (s := u) (raise_raised (.viewStale sd) u), ?_, ?_, ?_, ?_,
          (uframe.mono (by simp [faultParts])).trans (after.mono (by simp [faultParts]))⟩
        · rw [outcome]; exact after (.runs sd) (by simp [faultParts])
        · rw [display, there, hage]
          simp only [displayAfterLoss, udisplay, show u.faults = w.faults from rfl, if_true]
          split_ifs <;> rfl
        · rw [queue, there]
          simp only [movedReport, there, lossMove, ustate]
          rfl
        · rw [if_pos there]
          exact viewAfterLoss_of_state view rfl rfl rfl ustate.symm rfl rfl rfl
      · rw [if_neg hlate]
        exact staleJudged_stays hage (by simp only [staleAfter, hcap, hold]; rw [if_neg hlate]; rfl) udisplay rfl (uframe.mono (by simp))

end

/-! ### Step 7: the echo silence (R107, R108) -/

/-- From e to t the echo silence count has advanced and has been judged. -/
structure SilenceJudged (sd : Side) (silent resync : Bool) (shown : Display) (e t : State) : Prop where
  display : t.display sd =
    (if resync then { resynced shown e.timebase with holdCount := if (e.display sd).state = .dark then shown.holdCount else 0 } else shown)
  sent : t.sent = e.sent ++ (if resync then [.sleepNotice sd, .wakeBurst sd] else [])
  comp : t.comp sd =
    { e.comp sd with blankRequest := if resync = true ∧ (e.display sd).state = .blanked then false else (e.comp sd).blankRequest }
  runs : t.runs sd =
    { e.runs sd with
      staleClear := if resync = true ∧ (e.display sd).state ≠ .dark then 0 else (e.runs sd).staleClear
      pathMatch := if silent = true ∧ FaultSet.has e.faults.current (.displayPath sd) = true then 0 else (e.runs sd).pathMatch }
  current : FaultSet.has t.faults.current (.displayPath sd) = (FaultSet.has e.faults.current (.displayPath sd) || silent)
  moves : FaultsMove [.displayPath sd] e t
  queue : t.queue = queueAfter e e.timebase
    ((if resync then raisedReport (.displayPath sd) e else [])
      ++ (if resync = true ∧ (e.display sd).state ≠ .dark then [.displayChanged sd (e.display sd).state .dark] else []))
  frame : Unchanged [.display sd, .comp sd, .runs sd, .faultSets, .queue, .sent] e t

theorem judgeSilence_judged {sd : Side} {e : State} (hlink : (e.display sd).link = .synced) :
    let d := e.display sd
    let silent : Bool := decide (5 ≤ d.silence)
    SilenceJudged sd silent (silent && !FaultSet.has e.faults.current (.displayPath sd))
      { d with
        silence := if silent then 0 else d.silence + 1
        counters := { d.counters with echoSilences := if silent then satInc d.counters.echoSilences else d.counters.echoSilences } }
      e (judgeSilence sd e) := by
  intro d silent
  by_cases hsilent : 5 ≤ d.silence
  · have on : silent = true := decide_eq_true hsilent
    set shown : Display := { d with silence := 0, counters := { d.counters with echoSilences := satInc d.counters.echoSilences } }
    set u : State := (e.setDisplay sd { d with silence := d.silence + 1 }).setDisplay sd shown
    have uframe : Unchanged [.display sd] e u := (Unchanged.refl.snoc (unchanged_setDisplay e sd _)).snoc (unchanged_setDisplay _ sd _)
    have udisplay : u.display sd = shown := State.setDisplay_display ..
    have reached : judgeSilence sd e = pathFailed sd (fun s => s.setRuns sd { s.runs sd with pathMatch := 0 }) u := by
      have six : 6 ≤ ((e.setDisplay sd { d with silence := d.silence + 1 }).display sd).silence := by
        rw [State.setDisplay_display]; show 6 ≤ d.silence + 1; omega
      refine (if_pos six).trans ?_
      simp only [silenceReached, State.setDisplay_display]
      rfl
    rw [reached, on]
    cases hpath : FaultSet.has e.faults.current (.displayPath sd) with
    | true =>
      have stays : pathFailed sd (fun s => s.setRuns sd { s.runs sd with pathMatch := 0 }) u = u.setRuns sd { e.runs sd with pathMatch := 0 } :=
        if_pos hpath
      have frame : Unchanged [.display sd, .runs sd] e (u.setRuns sd { e.runs sd with pathMatch := 0 }) :=
        (Unchanged.refl.snoc uframe).snoc (unchanged_setRuns u sd _)
      rw [stays]
      refine ⟨udisplay, (List.append_nil _).symm, by simp [u], ?_, ?_, ?_, frame .queue (by simp), frame.mono (by simp)⟩
      · rw [State.setRuns_runs]; simp [hpath]
      · show FaultSet.has e.faults.current (.displayPath sd) = _
        simp [hpath]
      · exact ⟨fun _ _ => rfl, fun f => by simp [u]⟩
    | false =>
      obtain ⟨display, raised, queue, sent, runs, comp, frame⟩ := pathFailed_raises sd (s := u)
        (fun s => s.setRuns sd { s.runs sd with pathMatch := 0 }) (by rw [udisplay]; exact hlink) hpath
      set t := pathFailed sd (fun s => s.setRuns sd { s.runs sd with pathMatch := 0 }) u
      have there := (has_of_raised (g := .displayPath sd) raised).1
      simp only [decide_true, Bool.or_true] at there
      have state : (u.display sd).state = d.state := by rw [udisplay]
      refine ⟨?_, sent, ?_, ?_, by simp [there], faultsMove_of_raised (s := u) raised, ?_, (uframe.mono (by simp)).trans (frame.mono (by simp))⟩
      · rw [display, state, udisplay]; rfl
      · rw [comp, state, uframe (.comp sd) (by simp)]; simp [d]
      · rw [runs, state, uframe (.runs sd) (by simp)]; simp [d, hpath]
      · rw [queue, state]
        refine (congrArg _ ?_).trans (queueAfter_congr e.timebase _ (uframe .queue (by simp)) (uframe .faultGroup (by simp)))
        by_cases hd : d.state = .dark <;> simp [hd, d] <;> rfl
  · have off : silent = false := decide_eq_false hsilent
    have waits : judgeSilence sd e = e.setDisplay sd { d with silence := d.silence + 1 } := by
      have six : ¬6 ≤ ((e.setDisplay sd { d with silence := d.silence + 1 }).display sd).silence := by
        rw [State.setDisplay_display]; show ¬6 ≤ d.silence + 1; omega
      exact if_neg six
    have frame := unchanged_setDisplay e sd { d with silence := d.silence + 1 }
    rw [waits, off]
    refine ⟨State.setDisplay_display .., (List.append_nil _).symm, by simp, by simp, by simp, ?_, frame .queue (by simp), frame.mono (by simp)⟩
    exact ⟨fun _ _ => rfl, fun f => by simp⟩

end Sys2Proof.Proofs.ScanSteps
end

section
set_option Elab.async false
/-! The scan start as a whole (R105; O35). -/

namespace Sys2Proof.Proofs.ScanStart

open Sys2Proof Sys2Proof.Machine Sys2Proof.Proofs.Blocks Sys2Proof.Proofs.SharedEffects Sys2Proof.Proofs.MonitorLink
  Sys2Proof.Proofs.Judgements Sys2Proof.Proofs.ScanJudgement Sys2Proof.Proofs.PathFailure Sys2Proof.Proofs.ScanSteps
  Sys2Proof.Proofs.TheStep Sys2Proof.Proofs.SlotsAndBuffers

section
variable {sd : Side}

/-! ### A VIEW_STALE raise as a move of the display (R103) -/

/-- Whether a judgement that leaves VIEW_STALE as given has moved a LIVE display. -/
def staleMoves (sd : Side) (stale : Bool) (w : State) : Bool :=
  stale && !FaultSet.has w.faults.current (.viewStale sd) && decide ((w.display sd).state = .live)

theorem lossMove_stale (stale : Bool) (w : State) :
    (if stale then lossMove (.viewStale sd) sd w else [])
      = if staleMoves sd stale w then [.displayChanged sd .live (if 0 < w.faults.group.holdLimit then .hold else .blanked)] else [] := by
  unfold staleMoves lossMove
  cases stale <;> cases FaultSet.has w.faults.current (.viewStale sd) <;> by_cases h : (w.display sd).state = .live <;> simp [h]

theorem displayAfterLoss_stale (stale : Bool) (w : State) :
    (if stale then displayAfterLoss (.viewStale sd) sd w else w.display sd)
      = { w.display sd with
          state :=
            if staleMoves sd stale w then (if 0 < w.faults.group.holdLimit then .hold else .blanked) else (w.display sd).state
          holdCount := if staleMoves sd stale w = true ∧ 0 < w.faults.group.holdLimit then 0 else (w.display sd).holdCount } := by
  unfold staleMoves displayAfterLoss
  generalize w.display sd = d
  by_cases h : d.state = .live
  · rw [← h]
    cases stale <;> cases FaultSet.has w.faults.current (.viewStale sd) <;> by_cases hlimit : 0 < w.faults.group.holdLimit <;> simp [hlimit]
  · cases stale <;> cases FaultSet.has w.faults.current (.viewStale sd) <;> simp [h]

theorem viewAfterLoss_stale {stale : Bool} {w e : State}
    (h : if stale then ViewAfterLoss (.viewStale sd) sd w e else ViewStands sd w e) :
    if staleMoves sd stale w = true ∧ w.faults.group.holdLimit = 0 then BlankStarts sd true w e else ViewStands sd w e := by
  unfold staleMoves
  unfold ViewAfterLoss at h
  cases stale <;> cases hc : FaultSet.has w.faults.current (.viewStale sd) <;> by_cases hl : (w.display sd).state = .live <;>
    by_cases hlimit : w.faults.group.holdLimit = 0 <;> simp_all

/-- A frame start of a move to BLANKED whose blank request is cleared within the event. -/
theorem blankStarts_cleared {u e t : State} (h : BlankStarts sd true u e) (hc : t.comp sd = { e.comp sd with blankRequest := false })
    (hp : t.pipe sd = e.pipe sd) (hx : t.store sd = e.store sd) : BlankStarts sd false u t := by
  obtain ⟨starts, requests⟩ := h
  refine ⟨fun hi hf => ?_, fun hi => ?_⟩
  · obtain ⟨begun, rest⟩ := starts hi hf
    rw [hp, hx]
    refine ⟨?_, rest⟩
    unfold CompositionStarts at begun ⊢
    rw [hc, begun]
    simp
  · obtain ⟨comp, pipe, store⟩ := requests hi
    rw [hc, comp, hp, hx]
    exact ⟨rfl, pipe, store⟩

theorem blankStarts_later {stays : Bool} {u e t : State} (h : BlankStarts sd stays u e) (hc : t.comp sd = e.comp sd)
    (hp : t.pipe sd = e.pipe sd) (hx : t.store sd = e.store sd) : BlankStarts sd stays u t := by
  unfold BlankStarts CompositionStarts at h ⊢
  rw [hc, hp, hx]
  exact h

/-! ### Steps 1 to 5 -/

theorem exec_scanStart {s : State} {now : Time} (hlink : (s.display sd).link = .synced) (hscan : (s.display sd).nextScan = some now) :
    exec (.scanStart sd) s = .next (scan sd (setScan sd (some (now + 16667)) (s.setTimebase now))) := by
  show execScanStart sd s = _
  simp only [execScanStart, scanDue_eq_some.mpr ⟨hlink, hscan⟩]
  rfl

/-- The state in which step 6 begins. -/
def afterSending (sd : Side) (x : Option Time) (judged : State) : State :=
  let p := presentScan sd (setScan sd x judged)
  sendOutbound sd (sendFrame sd p.2 p.1)

theorem afterSending_spec (x : Option Time) (judged : State) :
    let d := judged.display sd
    let scanned := (judged.store sd).scan d.state
    let handed := scanned.handed
    let w := afterSending sd x judged
    w.display sd =
        { d with
          nextScan := x
          echoList :=
            (if 4 ≤ d.echoList.length then d.echoList.drop 1 else d.echoList) ++ [(handed.map SlotRecord.signature).getD startSignature]
          outQueue := d.outQueue.drop 1
          counters :=
            { d.counters with
              framesSent := satInc d.counters.framesSent
              startPatternsSent := if handed = none then satInc d.counters.startPatternsSent else d.counters.startPatternsSent } }
      ∧ w.sent = judged.sent ++ [.frame sd d.backlight ((handed.map SlotRecord.raster).getD .start)]
          ++ (d.outQueue.take 1).map (Sent.passThrough sd)
      ∧ w.store sd = scanned.store
      ∧ Unchanged [.display sd, .store sd, .sent] judged w := by
  intro d scanned handed w
  have display : (setScan sd x judged).display sd = { d with nextScan := x } := State.setDisplay_display ..
  have store : (setScan sd x judged).store sd = judged.store sd := rfl
  have presented : presentScan sd (setScan sd x judged) = ((setScan sd x judged).setStore sd scanned.store, handed) := by
    unfold presentScan
    rw [display, store]
  have hw : w = sendOutbound sd (sendFrame sd handed ((setScan sd x judged).setStore sd scanned.store)) := by
    simp only [w, afterSending, presented]
  have before : Unchanged [.display sd, .store sd] judged ((setScan sd x judged).setStore sd scanned.store) :=
    (Unchanged.refl.snoc (unchanged_setDisplay judged sd _)).snoc (unchanged_setStore _ sd _)
  have vdisplay : ((setScan sd x judged).setStore sd scanned.store).display sd = { d with nextScan := x } := display
  obtain ⟨wdisplay, wsent, frame⟩ := sent_spec sd handed ((setScan sd x judged).setStore sd scanned.store)
  rw [← hw] at wdisplay wsent frame
  rw [vdisplay] at wdisplay wsent
  exact ⟨wdisplay, wsent, (frame (.store sd) (by simp)).trans (State.setStore_store ..), (before.mono (by simp)).trans (frame.mono (by simp))⟩

theorem scan_eq (x : Option Time) (s : State) :
    let judged := judgeDisplay sd s
    let handed := ((judged.store sd).scan (judged.display sd).state).handed
    scan sd (setScan sd x s) = judgeSilence sd (evaluateStale sd handed (afterSending sd x judged)) := by
  intro judged handed
  have same : (presentScan sd (setScan sd x judged)).2 = handed := by
    have display : ((setScan sd x judged).display sd).state = (judged.display sd).state := by simp [setScan]
    unfold presentScan
    rw [display]
    rfl
  unfold scan afterSending
  simp only [judgeDisplay_setScan, same, judged]

end

/-- Settles O35: the judged display, what is sent, then VIEW_STALE and the echo silence judged one after the other. -/
theorem scanStartSendsOneFrame : Obligations.ScanStartSendsOneFrame := by
  intro sd s
  refine ⟨fun now hlink hscan => ?_, fun h => ?_⟩
  · intro judged d scanned handed path silent resync stale moves limit state shown presented
    have run : exec (.scanStart sd) s
        = .next (judgeSilence sd (evaluateStale sd handed (afterSending sd (some (now + 16667)) judged))) :=
      (exec_scanStart hlink hscan).trans (congrArg _ (scan_eq (sd := sd) (some (now + 16667)) (s.setTimebase now)))
    obtain ⟨jdisplay, -, -, jframe⟩ : JudgedTo sd (judgedState sd (s.setTimebase now)) (s.setTimebase now) judged :=
      judgeDisplay_judged sd (s.setTimebase now)
    have dlink : d.link = .synced := by
      show (judged.display sd).link = _
      rw [jdisplay]; exact hlink
    obtain ⟨wdisplay, wsent, wstore, wframe⟩ := afterSending_spec (sd := sd) (some (now + 16667)) judged
    set w := afterSending sd (some (now + 16667)) judged
    have staled := evaluateStale_judged (sd := sd) (handed := handed) (w := w)
    set e := evaluateStale sd handed w
    -- What the supervisor and the clock hold through the first five steps.
    have jsets := jframe .faultSets (by simp)
    have wsets := wframe .faultSets (by simp)
    have wcurrent : w.faults.current = s.faults.current := wsets.1.trans jsets.1
    have waccrued : w.faults.accrued = s.faults.accrued := wsets.2.trans jsets.2
    have wmasks : w.faults.masks = judged.faults.masks := wframe .masks (by simp)
    have wgroup : w.faults.group = s.faults.group := (wframe .faultGroup (by simp)).trans (jframe .faultGroup (by simp))
    have wruns : w.runs sd = s.runs sd := (wframe (.runs sd) (by simp)).trans (jframe (.runs sd) (by simp))
    have wtime : w.timebase = now := (wframe .timebase (by simp)).trans (jframe .timebase (by simp))
    have wstate : (w.display sd).state = d.state := by rw [wdisplay]
    have after : staleAfter sd handed w.timebase w = staleAfter sd handed now judged := by
      unfold staleAfter
      rw [wsets.1, wtime, wframe (.runs sd) (by simp), wframe .faultGroup (by simp)]
    have hmoves : staleMoves sd stale w = moves := by
      unfold staleMoves
      rw [wcurrent, wstate]
    obtain ⟨ecurrent, emoves, eruns, edisplay, equeue, eview, eframe⟩ := staled
    rw [after] at ecurrent eruns
    have estale : FaultSet.has e.faults.current (.viewStale sd) = stale := ecurrent
    rw [estale] at edisplay equeue eview
    rw [displayAfterLoss_stale, hmoves] at edisplay
    rw [lossMove_stale, hmoves] at equeue
    have eview := viewAfterLoss_stale eview
    rw [hmoves] at eview
    have epath : FaultSet.has e.faults.current (.displayPath sd) = path :=
      (emoves.1 _ (by simp)).trans (by rw [wcurrent])
    have estate : (e.display sd).state = state := by rw [edisplay, wstate, wgroup]
    have ekept : (e.display sd).link = .synced ∧ (e.display sd).silence = d.silence := by
      rw [edisplay, wdisplay]
      exact ⟨dlink, rfl⟩
    obtain ⟨elink, esilence⟩ := ekept
    have silenced : SilenceJudged sd silent resync shown e (judgeSilence sd e) := by
      convert judgeSilence_judged (sd := sd) elink using 1
      · rw [esilence]
      · rw [esilence, epath]
      · rw [edisplay, wdisplay, wgroup, wtime]
        have held : (state = .hold ∧ moves = true) = (moves = true ∧ 0 < limit) := by
          refine propext ⟨fun ⟨hs, hm⟩ => ⟨hm, ?_⟩, fun ⟨hm, hl⟩ => ⟨?_, hm⟩⟩
          · by_contra hl
            simp [state, hm, hl] at hs
          · simp [state, hm, hl]
        simp only [shown, held]
        rfl
    set t := judgeSilence sd e
    obtain ⟨tdisplay, tsent, tcomp, truns, tcurrent, tmoves, tqueue, tframe⟩ := silenced
    rw [estate] at tdisplay tcomp truns tqueue
    rw [epath] at truns tcurrent
    have etime : e.timebase = now := (eframe .timebase (by simp [faultParts])).trans wtime
    have tstale : FaultSet.has t.faults.current (.viewStale sd) = stale := (tmoves.1 _ (by simp)).trans estale
    refine ⟨t, run, ?_, ?_, ?_, ?_, tstale, tcurrent, ?_, ?_, ?_, ?_⟩
    · exact (tframe .timebase (by simp)).trans etime
    · rw [tdisplay, etime]
    · rw [tsent, eframe .sent (by simp [faultParts]), wsent]
      rw [jframe .sent (by simp)]
      rfl
    · have presentedView : presented.comp sd = w.comp sd ∧ presented.pipe sd = w.pipe sd ∧ presented.store sd = w.store sd
          ∧ presented.freshAngle = w.freshAngle := by
        refine ⟨(wframe (.comp sd) (by simp)).symm, (wframe (.pipe sd) (by simp)).symm, ?_, (freshAngle_of_unchanged wframe).symm⟩
        rw [wstore]; exact State.setStore_store ..
      obtain ⟨pcomp, ppipe, pstore, pangle⟩ := presentedView
      rw [wgroup] at eview
      have tpipe : t.pipe sd = e.pipe sd := tframe (.pipe sd) (by simp)
      have tstore : t.store sd = e.store sd := tframe (.store sd) (by simp)
      by_cases hm : moves = true ∧ limit = 0
      · rw [if_pos hm] at eview ⊢
        have begun := blankStarts_congr eview pcomp ppipe pstore pangle
        have blanked : state = .blanked := by simp [state, hm]
        cases hr : resync with
        | true => exact blankStarts_cleared begun (by rw [tcomp, if_pos ⟨hr, blanked⟩]) tpipe tstore
        | false => exact blankStarts_later begun (by rw [tcomp, hr]; simp) tpipe tstore
      · rw [if_neg hm] at eview ⊢
        obtain ⟨hc, hp, hx⟩ := eview
        have same : (resync = true ∧ state = .blanked) = (resync = true ∧ d.state = .blanked) := by
          by_cases hmoves' : moves = true
          · have live : d.state = .live := by
              simp only [moves, Bool.and_eq_true, decide_eq_true_eq] at hmoves'
              exact hmoves'.2
            have hlimit : 0 < limit := Nat.pos_of_ne_zero fun h => hm ⟨hmoves', h⟩
            simp [state, hmoves', hlimit, live]
          · simp [state, hmoves']
        refine ⟨?_, ?_, ?_⟩
        · rw [tcomp, hc, State.setComp_comp, pcomp]
          simp only [same]
        · rw [tpipe, hp]; exact ppipe.symm
        · rw [tstore, hx]; exact pstore.symm
    · have both := faultsMove_trans emoves tmoves (by simp)
      unfold FaultsMove at both ⊢
      rw [wcurrent, waccrued] at both
      exact both
    · rw [truns, eruns, wruns]
    · have first : e.queue = queueAfter judged now
          (movedReport (.viewStale sd) judged t ++ (if moves then [.displayChanged sd .live state] else [])) := by
        have report : movedReport (.viewStale sd) w e = movedReport (.viewStale sd) judged t :=
          movedReport_congr wmasks (by rw [wsets.1]) (by rw [estale, tstale])
        rw [equeue, wtime, report, wgroup, queueAfter_congr now _ (wframe .queue (by simp)) (wframe .faultGroup (by simp))]
        cases hm : moves <;> simp [state, hm, limit]
      have report : raisedReport (.displayPath sd) e = raisedReport (.displayPath sd) judged := by
        have masks : e.faults.masks = judged.faults.masks := (eframe .masks (by simp [faultParts])).trans wmasks
        unfold raisedReport Faults.unmasked
        rw [epath, masks, jsets.1]
        rfl
      rw [tqueue, etime, report, List.append_assoc, queueAfter_append judged]
      exact queueAfter_congr _ _ first ((eframe .faultGroup (by simp [faultParts])).trans (wframe .faultGroup (by simp)))
    · have start : Unchanged [.timebase] s (s.setTimebase now) := unchanged_setTimebase s now
      exact ((((start.mono (by simp)).trans (jframe.mono (by simp [faultParts]))).trans (wframe.mono (by simp [faultParts]))).trans
        (eframe.mono (by simp [faultParts]))).trans (tframe.mono (by simp [faultParts]))
  · show execScanStart sd s = _
    have none : (s.display sd).scanDue = none := Option.eq_none_iff_forall_ne_some.mpr fun x hx => by
      obtain ⟨hlink, hsome⟩ := scanDue_eq_some.mp hx
      rcases h with h | h
      · exact h hlink
      · simp [hsome] at h
    simp only [execScanStart, none]

end Sys2Proof.Proofs.ScanStart
end

section
set_option Elab.async false
/-! The expiry of a vehicle field (R121; O38), the completion of a save (R143, R146) and the two ends of a save in flight (R145; O39). -/

namespace Sys2Proof.Proofs.SavesEnd

open Sys2Proof Sys2Proof.Machine Sys2Proof.Proofs.Blocks Sys2Proof.Proofs.MonitorLink Sys2Proof.Proofs.NightEvaluation
  Sys2Proof.Proofs.StatisticsCommit

/-! ### The vehicle condition (R121) -/

/-- VEHICLE_INPUT_STALE judged while STARTING or RUNNING, from a state that has the supervisor as s has it. -/
theorem judgeVehicle_awake {l : List Part} {s u : State} (hu : Unchanged l s u) (hawake : u.awake = true)
    (hl : .faultSets ∉ l ∧ .masks ∉ l ∧ .faultGroup ∉ l ∧ .queue ∉ l := by simp) :
    (if u.vehicleStale then Raised .vehicleInputStale s (judgeVehicle u) else Cleared .vehicleInputStale s (judgeVehicle u))
      ∧ (judgeVehicle u).queue = queueAfter s u.timebase
          (if u.vehicleStale then raisedReport .vehicleInputStale s else clearedReport .vehicleInputStale s) := by
  unfold judgeVehicle
  rw [if_pos hawake]
  by_cases h : u.vehicleStale
  · simp only [if_pos h]
    exact raise_after rfl hu hl
  · simp only [if_neg h]
    exact clearFault_after hu hl

theorem judgeVehicle_asleep {u : State} (h : u.awake = false) : judgeVehicle u = u := by
  unfold judgeVehicle
  simp [h]

theorem unchanged_setExpiry (s : State) (field : VehicleField) (v : Option Time) :
    Unchanged [.expiries] s (s.setFaults (s.faults.setExpiry field v)) := by
  intro p hp
  cases field <;> cases p <;> simp_all [Part.same, Faults.setExpiry]
  all_goals rfl

theorem vehicleStale_of_expired {s : State} {field : VehicleField} (hexpired : s.faults.expiry field = none)
    (hreceived : field = .angle ∧ s.link.angle ≠ none ∨ field = .lux ∧ s.link.lux ≠ none) : s.vehicleStale = true := by
  unfold State.vehicleStale
  rcases hreceived with ⟨rfl, h⟩ | ⟨rfl, h⟩
  · simp_all [Faults.expiry, Option.isSome_iff_ne_none]
  · simp_all [Faults.expiry, Option.isSome_iff_ne_none]

/-- Settles O38: the moment becomes absent, and while awake an expired field that was received makes the condition true. -/
theorem vehicleExpiryMakesTheFieldStale : Obligations.VehicleExpiryMakesTheFieldStale := by
  intro field s
  refine ⟨fun now hdue => ?_, fun hnone => ?_⟩
  · obtain ⟨u, hu⟩ : ∃ u, u = (s.setTimebase now).setFaults (s.faults.setExpiry field none) := ⟨_, rfl⟩
    have frameU : Unchanged [.timebase, .expiries] s u := by
      rw [hu]
      exact ((unchanged_setTimebase s now).mono (by simp)).trans ((unchanged_setExpiry (s.setTimebase now) field none).mono (by simp))
    have timeU : u.timebase = now := by rw [hu]; rfl
    have expired : u.faults.expiry field = none := by rw [hu]; cases field <;> rfl
    have others (other : VehicleField) (h : other ≠ field) : u.faults.expiry other = s.faults.expiry other := by
      rw [hu]; cases field <;> cases other <;> first | rfl | exact absurd rfl h
    have powerU : u.power = s.power := frameU .power (by simp)
    have vehicleU : u.link.angle = s.link.angle ∧ u.link.lux = s.link.lux := frameU .vehicle (by simp)
    have judged := unchanged_judgeVehicle u
    have expiries (other : VehicleField) : (judgeVehicle u).faults.expiry other = u.faults.expiry other := by
      obtain ⟨hangle, hlux⟩ := judged .expiries (by simp)
      cases other
      · exact hangle
      · exact hlux
    refine ⟨judgeVehicle u, ?_, (judged .timebase (by simp)).trans timeU, (expiries field).trans expired,
      fun other h => (expiries other).trans (others other h), fun hawake => ?_, fun hasleep => ?_, ?_⟩
    · show execVehicleExpiry field s = _
      simp only [execVehicleExpiry, hdue, hu]
      rfl
    · have awake : u.awake = true := (awake_iff u).mpr (by rw [powerU]; exact hawake)
      obtain ⟨sets, queue⟩ := judgeVehicle_awake frameU awake
      have stale (h : field = .angle ∧ s.link.angle ≠ none ∨ field = .lux ∧ s.link.lux ≠ none) :
          Raised .vehicleInputStale s (judgeVehicle u)
            ∧ (judgeVehicle u).queue = queueAfter s now (raisedReport .vehicleInputStale s) := by
        have hstale : u.vehicleStale = true := vehicleStale_of_expired expired (by rw [vehicleU.1, vehicleU.2]; exact h)
        rw [if_pos hstale] at sets
        rw [if_pos hstale, timeU] at queue
        exact ⟨sets, queue⟩
      exact ⟨fun hf hr => stale (.inl ⟨hf, hr⟩), fun hf hr => stale (.inr ⟨hf, hr⟩)⟩
    · have asleep : u.awake = false := by
        rw [Bool.eq_false_iff, ne_eq, awake_iff, powerU]
        rcases hasleep with h | h <;> simp [h]
      rw [judgeVehicle_asleep asleep]
      exact frameU
    · exact (frameU.mono (by simp)).trans (judged.mono (by simp))
  · show execVehicleExpiry field s = _
    simp only [execVehicleExpiry, hnone]

/-! ### The completion of a save (R143, R145, R146) -/

theorem beBytes_one (n : Nat) : beBytes 1 n = [BitVec.ofNat 8 n] := (Layout.u1_eq n).symm

/-- The summary of a reply is of the sets and the queue as they stand when it is formed, and of the busy-drop flag as it stood. -/
theorem summaryAfter_formReply {s u : State} (h : u.link.busyDrop = s.link.busyDrop) (k tag : Byte) (r : Result) (payload : List Byte) :
    summaryAfter s (formReply k tag r payload u) = u.summary := by
  simp only [State.summary, beBytes_one, summaryFlags, h]
  rfl

section
variable (sd : Side) (s : State)

theorem takeImage_imageOf (settled resetAfter : Bool) : ImageOf sd settled resetAfter (takeImage sd settled resetAfter s) s :=
  ⟨rfl, rfl, rfl, rfl, fun x hx => by simp [takeImage, hx], rfl, rfl, rfl, rfl, rfl, rfl⟩

/-- What a reset_after leaves (R146). -/
theorem resetSide_defaultInstalled : DefaultInstalled sd s (resetSide sd s)
    ∧ (resetSide sd s).context sd = { s.context sd with framesAdapted := 0 } := by
  obtain ⟨hexposure, hglare, hcontext, hdisplay⟩ := installDefault_eq sd s
  have frame := unchanged_installDefault s sd
  set v := installDefault sd s with hv
  have portV : v.port sd = s.port sd := frame (.port sd) (by simp)
  have pipeV : v.pipe sd = s.pipe sd := frame (.pipe sd) (by simp)
  have sentV : v.sent = s.sent := frame .sent (by simp)
  have delivered := unchanged_deliverE v sd
  obtain ⟨hsent, hport⟩ := deliverE_eq sd v
  rw [portV, pipeV, sentV] at hsent
  rw [portV, pipeV] at hport
  have reset : resetSide sd s = if (v.exposure sd).e = (s.exposure sd).e then v else deliverE sd v := rfl
  by_cases he : (v.exposure sd).e = (s.exposure sd).e
  · rw [reset, if_pos he]
    refine ⟨⟨hexposure, hglare, hdisplay, by rw [hcontext], ?_⟩, hcontext⟩
    rw [if_pos (.inl he)]
    exact ⟨sentV, portV⟩
  · rw [reset, if_neg he]
    have exposureT : (deliverE sd v).exposure sd = v.exposure sd := delivered (.exposure sd) (by simp)
    have contextT : (deliverE sd v).context sd = v.context sd := delivered (.context sd) (by simp)
    refine ⟨⟨exposureT.trans hexposure, (delivered (.glare sd) (by simp)).trans hglare,
      (delivered (.display sd) (by simp)).trans hdisplay, by rw [contextT, hcontext], ?_⟩, contextT.trans hcontext⟩
    rw [exposureT]
    by_cases hl : (s.port sd).link = .streaming
    · rw [if_pos hl] at hsent hport
      rw [if_neg (by simp [he, hl])]
      exact ⟨hsent, hport⟩
    · rw [if_neg hl] at hsent hport
      rw [if_pos (.inr hl)]
      exact ⟨hsent, hport⟩

/-- A reply formed after a change that leaves the link touches only the holder and the read. -/
theorem unchanged_formReply_link (k tag : Byte) (r : Result) (payload : List Byte) :
    Unchanged [.holder, .receiver] s (formReply k tag r payload s) := by
  have formed := unchanged_formReply s k tag r payload
  exact Unchanged.erase (p := .linkCounters) (formed.mono (by simp [answerParts])) rfl

theorem resetSide_link : (resetSide sd s).link = s.link := by
  unfold resetSide; simp only; split
  · rfl
  · unfold deliverE; split <;> rfl

/-- What IMMEDIATE and SETTLED saves share. -/
theorem completeSave_spec (tag : Byte) (settled resetAfter : Bool) :
    let t := completeSave sd tag settled resetAfter s
    t.link =
        { s.link with
          holder := some ⟨9, tag, 0, summaryAfter s t, (takeImage sd settled resetAfter s).bytes sd⟩
          busyDrop := false
          reading := s.link.reading.map Reading.superseded }
      ∧ t.context sd =
        { s.context sd with
          saves := satInc (s.context sd).saves
          framesAdapted := if resetAfter then 0 else (s.context sd).framesAdapted }
      ∧ (resetAfter = false → Unchanged [.context sd, .holder, .receiver] s t)
      ∧ (resetAfter = true → DefaultInstalled sd s t
          ∧ Unchanged [.port sd, .exposure sd, .glare sd, .display sd, .context sd, .holder, .receiver, .sent] s t) := by
  obtain ⟨v, hv⟩ : ∃ v, v = s.setContext sd { s.context sd with saves := satInc (s.context sd).saves } := ⟨_, rfl⟩
  have counted : Unchanged [.context sd] s v := hv ▸ unchanged_setContext s sd _
  have contextV : v.context sd = { s.context sd with saves := satInc (s.context sd).saves } := by rw [hv]; exact State.setContext_context ..
  obtain ⟨w, hw⟩ : ∃ w, w = if resetAfter then resetSide sd v else v := ⟨_, rfl⟩
  intro t
  have formed : t = formReply Kind.ctxSave.code tag .ok ((takeImage sd settled resetAfter s).bytes sd) w := by rw [hw, hv]; rfl
  have frameT := unchanged_formReply_link w Kind.ctxSave.code tag .ok ((takeImage sd settled resetAfter s).bytes sd)
  rw [← formed] at frameT
  have linkW : w.link = s.link := by
    rw [hw, hv]; split
    · exact resetSide_link ..
    · rfl
  have link : t.link =
      { s.link with
        holder := some ⟨9, tag, 0, summaryAfter s t, (takeImage sd settled resetAfter s).bytes sd⟩
        busyDrop := false
        reading := s.link.reading.map Reading.superseded } := by
    rw [formed, summaryAfter_formReply (by rw [linkW]), formReply_link, linkW]
    rfl
  have contextT : t.context sd = w.context sd := frameT (.context sd) (by simp)
  cases resetAfter with
  | false =>
    have same : w = v := hw
    rw [same] at frameT contextT
    exact ⟨link, contextT.trans contextV, fun _ => (counted.mono (by simp)).trans (frameT.mono (by simp)), nofun⟩
  | true =>
    have reset : w = resetSide sd v := hw
    obtain ⟨installed, contextW⟩ := resetSide_defaultInstalled sd v
    have frameW := unchanged_resetSide v sd
    rw [← reset] at installed contextW frameW
    refine ⟨link, ?_, nofun, fun _ => ⟨?_, ?_⟩⟩
    · rw [contextT, contextW, contextV]; rfl
    · obtain ⟨hexposure, hglare, hdisplay, hframes, hsent⟩ := installed
      have exposureT : t.exposure sd = w.exposure sd := frameT (.exposure sd) (by simp)
      have portT : t.port sd = w.port sd := frameT (.port sd) (by simp)
      have sentT : t.sent = w.sent := frameT .sent (by simp)
      unfold DefaultInstalled
      rw [exposureT, portT, sentT, contextT, show t.glare sd = w.glare sd from frameT (.glare sd) (by simp),
        show t.display sd = w.display sd from frameT (.display sd) (by simp)]
      rw [hv] at hexposure hglare hdisplay hsent
      exact ⟨hexposure, hglare, hdisplay, hframes, hsent⟩
    · exact ((counted.mono (by simp)).trans (frameW.mono (by simp))).trans (frameT.mono (by simp))

end

/-! ### The ends of a save in flight (R145) -/

/-- The save in flight of a side, forgotten. -/
def withoutSave (sd : Side) (s : State) : State := s.setContext sd { s.context sd with save := none }

theorem endSave_eq {sd : Side} {s : State} {v : Save} {tag : Byte} (settled : Bool) (hsave : (s.context sd).save = some v)
    (hbusy : s.link.busy = some tag) : endSave sd settled s =
      completeSave sd tag settled v.resetAfter ((withoutSave sd s).setLink { s.link with busy := none }) := by
  simp only [endSave, hsave, hbusy]
  rfl

/-- A save completed with busy cleared and no save left. -/
theorem completeSave_saveEnds (sd : Side) (u : State) (tag : Byte) (settled resetAfter : Bool) :
    SaveEnds sd resetAfter tag ((takeImage sd settled resetAfter u).bytes sd) u
      (completeSave sd tag settled resetAfter ((withoutSave sd u).setLink { u.link with busy := none })) := by
  obtain ⟨y, hy⟩ : ∃ y, y = (withoutSave sd u).setLink { u.link with busy := none } := ⟨_, rfl⟩
  have contextY : y.context sd = { u.context sd with save := none } := by rw [hy]; exact State.setContext_context ..
  have frameY : Unchanged [.context sd, .holder, .receiver] u y := by
    rw [hy]
    have linked : Unchanged [.holder] (withoutSave sd u) ((withoutSave sd u).setLink { u.link with busy := none }) := by
      intro p hp; cases p <;> first | rfl | simp_all [Part.same, withoutSave]
    exact ((unchanged_setContext u sd _).mono (by simp)).trans (linked.mono (by simp))
  have image : takeImage sd settled resetAfter y = takeImage sd settled resetAfter u := by
    have exposureY : y.exposure sd = u.exposure sd := frameY (.exposure sd) (by simp)
    have displayY : y.display sd = u.display sd := frameY (.display sd) (by simp)
    have glareY : y.glare sd = u.glare sd := frameY (.glare sd) (by simp)
    simp only [takeImage, contextY, exposureY, displayY, glareY]
  obtain ⟨link, context, plain, reset⟩ := completeSave_spec sd y tag settled resetAfter
  rw [← hy]
  set t := completeSave sd tag settled resetAfter y
  refine ⟨?_, ?_, fun h => frameY.trans (plain h), fun h => ?_⟩
  · rw [link, image, hy]; rfl
  · rw [context, contextY]
  · obtain ⟨installed, frame⟩ := reset h
    refine ⟨?_, (frameY.mono (by simp)).trans frame⟩
    rw [hy] at installed
    exact installed

/-! ### A commit does not look at the save in flight (R27) -/

/-- The state with other context records. -/
def withContexts (c : Sides Context) (s : State) : State := { s with contexts := c }

section
variable (c : Sides Context) (sd : Side) (s : State)

theorem reportFault_withContexts (f : FaultId) (r : Report) :
    reportFault f r (withContexts c s) = withContexts c (reportFault f r s) := by
  unfold reportFault
  rw [apply_ite (withContexts c)]
  rfl

theorem clearFault_withContexts (f : FaultId) : clearFault f (withContexts c s) = withContexts c (clearFault f s) := by
  unfold clearFault
  rw [apply_ite (withContexts c), ← reportFault_withContexts]
  rfl

theorem tryFrameStart_withContexts : tryFrameStart sd (withContexts c s) = withContexts c (tryFrameStart sd s) := by
  have began (source : Option (BufName × Developed)) (store : FrameStore) :
      beginComposition sd source store (withContexts c s) = withContexts c (beginComposition sd source store s) := by
    cases source <;> rfl
  unfold tryFrameStart
  simp only [show (withContexts c s).comp sd = s.comp sd from rfl, show (withContexts c s).pipe sd = s.pipe sd from rfl,
    show (withContexts c s).store sd = s.store sd from rfl, show (withContexts c s).display sd = s.display sd from rfl, began]
  split
  · rfl
  · rw [apply_ite (withContexts c)]
  · rfl

theorem changeDisplay_withContexts (new : DisplayState) :
    changeDisplay sd new (withContexts c s) = withContexts c (changeDisplay sd new s) := by
  cases new with
  | blanked =>
    unfold changeDisplay
    simp only
    rw [← tryFrameStart_withContexts]
    rfl
  | _ => rfl

theorem viewLossRaised_withContexts : viewLossRaised sd (withContexts c s) = withContexts c (viewLossRaised sd s) := by
  unfold viewLossRaised
  simp only [show (withContexts c s).display sd = s.display sd from rfl, changeDisplay_withContexts]
  split
  · rw [apply_ite (withContexts c)]; rfl
  · rfl

theorem raise_withContexts (f : FaultId) : raise f (withContexts c s) = withContexts c (raise f s) := by
  unfold raise
  simp only
  rw [apply_ite (withContexts c)]
  congr 1
  split
  · rw [← viewLossRaised_withContexts, ← reportFault_withContexts]; rfl
  · rw [← reportFault_withContexts]; rfl

theorem request_withContexts (p : RunPair) (f : FaultId) : p.request f (withContexts c s) = withContexts c (p.request f s) := by
  unfold RunPair.request
  rw [apply_ite (withContexts c), apply_ite (withContexts c), raise_withContexts, clearFault_withContexts]

theorem frozenCount_withContexts (signature : BitVec 32) :
    frozenCount sd signature (withContexts c s) = withContexts c (frozenCount sd signature s) := by
  unfold frozenCount
  simp only
  rw [apply_ite (withContexts c), apply_ite (withContexts c), apply_ite (withContexts c), ← raise_withContexts,
    ← clearFault_withContexts]
  rfl

theorem faultCounts_withContexts (settled : Bool) (signature : BitVec 32) (flat : Nat) :
    faultCounts sd settled signature flat (withContexts c s) = withContexts c (faultCounts sd settled signature flat s) := by
  have obscured (u : State) : obscuredCount sd flat (withContexts c u) = withContexts c (obscuredCount sd flat u) := by
    unfold obscuredCount
    simp only
    rw [← request_withContexts]
    rfl
  have limited (condition : Bool) (u : State) :
      limitCount sd settled condition (withContexts c u) = withContexts c (limitCount sd settled condition u) := by
    cases settled
    · rfl
    · simp only [limitCount, if_true]
      rw [← request_withContexts]
      rfl
  have saturated (n : Nat) (u : State) : saturationCount sd n (withContexts c u) = withContexts c (saturationCount sd n u) := by
    unfold saturationCount
    simp only
    rw [← request_withContexts]
    rfl
  have start : (withContexts c s).setFaults
        { (withContexts c s).faults with flatZones := (withContexts c s).faults.flatZones.set sd flat }
      = withContexts c (s.setFaults { s.faults with flatZones := s.faults.flatZones.set sd flat }) := rfl
  unfold faultCounts
  simp only [start, frozenCount_withContexts, obscured, show ∀ u : State, (withContexts c u).exposure sd = u.exposure sd from fun _ => rfl,
    show ∀ u : State, (withContexts c u).pipe sd = u.pipe sd from fun _ => rfl, limited,
    show ∀ u : State, (withContexts c u).glare sd = u.glare sd from fun _ => rfl, saturated]

theorem deliverE_withContexts : deliverE sd (withContexts c s) = withContexts c (deliverE sd s) := by
  unfold deliverE
  simp only [show (withContexts c s).port sd = s.port sd from rfl]
  split <;> rfl

end

/-- Steps 1 to 4 of a commit, before the end of a save in flight. -/
def committed (sd : Side) (d : InDevelopment) (s : State) : State :=
  let c := faultCounts sd d.source.frame.settled (contentSignature d.source.records) (d.source.records.countP ZoneRecord.flat)
    (adapted sd d s)
  if (c.exposure sd).e = (s.exposure sd).e then c else deliverE sd c

theorem withoutSave_eq (sd : Side) (s : State) :
    withoutSave sd s = withContexts (s.contexts.set sd { s.contexts.get sd with save := none }) s := rfl

theorem exec_commits {sd : Side} {s : State} {d : InDevelopment} (hdev : (s.pipe sd).dev = some d) (hnot : d.statsDone = false) :
    exec (.statisticsCompletion sd) s = .next (endSave sd true (committed sd d s)) := by
  show execStatisticsCompletion sd s = _
  simp only [execStatisticsCompletion, hdev, hnot, Bool.false_eq_true, if_false]
  rfl

/-- An operation that does not read the context records forgets a save before or after. -/
theorem withoutSave_of_blind {F : State → State} (h : ∀ c s, F (withContexts c s) = withContexts c (F s)) (sd : Side) (s : State) :
    F (withoutSave sd s) = withoutSave sd (F s) := by
  have kept : (F s).contexts = s.contexts := by
    have same : F s = withContexts s.contexts (F s) := h s.contexts s
    rw [same]
    rfl
  rw [withoutSave_eq, h, withoutSave_eq, kept]

theorem committed_withoutSave (sd : Side) (d : InDevelopment) (s : State) :
    committed sd d (withoutSave sd s) = withoutSave sd (committed sd d s) := by
  have start : adapted sd d (withoutSave sd s) = withoutSave sd (adapted sd d s) := by cases sd <;> rfl
  unfold committed
  simp only [start]
  rw [withoutSave_of_blind fun c s => faultCounts_withContexts c sd s d.source.frame.settled (contentSignature d.source.records)
    (d.source.records.countP ZoneRecord.flat), withoutSave_of_blind fun c s => deliverE_withContexts c sd s,
    apply_ite (withoutSave sd)]
  rfl

theorem committed_save_busy (sd : Side) (d : InDevelopment) (s : State) :
    ((committed sd d s).context sd).save = (s.context sd).save ∧ (committed sd d s).link.busy = s.link.busy := by
  obtain ⟨-, hcontext, -, -, frameW⟩ := adapted_spec (sd := sd) (s := s) d
  obtain ⟨-, -, -, -, frameC⟩ := faultCounts_counted sd d.source.frame.settled (contentSignature d.source.records)
    (d.source.records.countP ZoneRecord.flat) (adapted sd d s)
  obtain ⟨c, hc⟩ : ∃ c, c = faultCounts sd d.source.frame.settled (contentSignature d.source.records)
    (d.source.records.countP ZoneRecord.flat) (adapted sd d s) := ⟨_, rfl⟩
  rw [← hc] at frameC
  have counted : (c.context sd).save = (s.context sd).save ∧ c.link.busy = s.link.busy := by
    obtain ⟨-, busyC, -⟩ := frameC .holder (by simp [faultParts])
    obtain ⟨-, busyW, -⟩ := frameW .holder (by simp)
    rw [show c.context sd = _ from frameC (.context sd) (by simp [faultParts]), hcontext]
    exact ⟨rfl, busyC.trans busyW⟩
  have delivered := unchanged_deliverE c sd
  have run : committed sd d s = if (c.exposure sd).e = (s.exposure sd).e then c else deliverE sd c := by rw [hc]; rfl
  rw [run]; split
  · exact counted
  · obtain ⟨-, busyT, -⟩ := delivered .holder (by simp)
    rw [show (deliverE sd c).context sd = c.context sd from delivered (.context sd) (by simp)]
    exact ⟨counted.1, busyT.trans counted.2⟩

theorem exec_saveDeadline {sd : Side} {s : State} {v : Save} (hsave : (s.context sd).save = some v) :
    exec (.saveDeadline sd) s = .next (endSave sd false (s.setTimebase v.deadline)) := by
  show execSaveDeadline sd s = _
  simp only [execSaveDeadline, hsave]

/-- Settles O39: at the deadline of the state as it stands, at the commit of the state that the same commit leaves without the save. -/
theorem settledSavesEnd : Obligations.SettledSavesEnd := by
  refine ⟨fun sd s => ⟨fun v tag hsave hbusy => ?_, fun hnone => ?_⟩, fun sd s u d v tag hdev hnot hsave hbusy hu => ?_⟩
  · refine ⟨_, exec_saveDeadline hsave, takeImage_imageOf sd s false v.resetAfter, ?_⟩
    rw [endSave_eq false (s := s.setTimebase v.deadline) hsave hbusy]
    exact completeSave_saveEnds sd (s.setTimebase v.deadline) tag false v.resetAfter
  · show execSaveDeadline sd s = _
    simp only [execSaveDeadline, hnone]
  · have same : u = withoutSave sd (committed sd d s) := by
      have run := exec_commits (sd := sd) (s := withoutSave sd s) hdev hnot
      rw [committed_withoutSave] at run
      have ended : endSave sd true (withoutSave sd (committed sd d s)) = withoutSave sd (committed sd d s) := by
        simp [endSave, withoutSave]
      rw [ended] at run
      exact Host.Outcome.next.inj (hu.symm.trans run)
    obtain ⟨save, busy⟩ := committed_save_busy sd d s
    refine ⟨_, exec_commits hdev hnot, takeImage_imageOf sd u true v.resetAfter, ?_⟩
    rw [endSave_eq true (save.trans hsave) (busy.trans hbusy)]
    have ends := completeSave_saveEnds sd u tag true v.resetAfter
    have idem : withoutSave sd u = withoutSave sd (committed sd d s) := by
      rw [same]; cases sd <;> rfl
    rw [idem, show u.link = (committed sd d s).link by rw [same]; rfl] at ends
    exact ends

end Sys2Proof.Proofs.SavesEnd
end

section
set_option Elab.async false
/-! How a request that reaches its kind is taken, answered and refused (R164, R170). -/

namespace Sys2Proof.Proofs.Answers

open Sys2Proof Sys2Proof.Machine Sys2Proof.Proofs.MonitorLink Sys2Proof.Proofs.SavesEnd

section
variable {head : ReqHead} {s u w : State}

/-- The state in which a request's kind is judged: the partial request gone and the 0xFF run counted. -/
def received (head : ReqHead) (s : State) : State :=
  s.setLink { s.link with partialReq := none, partialDeadline := none, ffRun := runAfter (lowByte head.crc) s }

/-- The state in which a taken request is carried out. -/
def taken (head : ReqHead) (s : State) : State := countTaken (received head s)

theorem unchanged_received (head : ReqHead) (s : State) : Unchanged answerParts s (received head s) := unchanged_setLink s _ rfl rfl

theorem unchanged_taken (head : ReqHead) (s : State) : Unchanged answerParts s (taken head s) :=
  (unchanged_received head s).trans (unchanged_setLink (received head s) _ rfl rfl)

theorem kindOf_code (k : Kind) : kindOf k.code = some k := by cases k <;> rfl

/-- Steps 4 and 5 of R164 for a request of a known kind. -/
theorem completeRequest_of_suited {k : Kind} {payload : List Byte} (h : Reaches k.code head payload s)
    (hu : unsuited k payload = none) : completeRequest k.code head payload s = carryOut k head.tag payload (taken head s) := by
  rw [completeRequest_of_reaches h]
  simp only [judgeKind, kindOf_code, hu]
  rfl

/-- A request command whose payload suits its kind. -/
theorem exec_of_suited {k : Kind} {c : Instr} {payload : List Byte}
    (hc : exec c s = .next (completeRequest k.code head payload s)) (h : Reaches k.code head payload s)
    (hu : unsuited k payload = none) : exec c s = .next (carryOut k head.tag payload (taken head s)) := by
  rw [hc, completeRequest_of_suited h hu]

theorem completeRequest_of_unsuited {k : Kind} {payload : List Byte} {why : Result} (h : Reaches k.code head payload s)
    (hu : unsuited k payload = some why) :
    completeRequest k.code head payload s = refuse k.code head.tag why (received head s) := by
  rw [completeRequest_of_reaches h]
  simp only [judgeKind, kindOf_code, hu]
  rfl

/-- A request command whose payload does not suit its kind. -/
theorem exec_of_unsuited {k : Kind} {c : Instr} {payload : List Byte} {why : Result}
    (hc : exec c s = .next (completeRequest k.code head payload s)) (h : Reaches k.code head payload s)
    (hu : unsuited k payload = some why) : exec c s = .next (refuse k.code head.tag why (received head s)) := by
  rw [hc, completeRequest_of_unsuited h hu]

theorem reading_none {kind : Byte} {payload : List Byte} (h : Reaches kind head payload s) : s.link.reading = none := by
  obtain ⟨⟨_, h, _⟩, _, _⟩ := h
  exact h

/-- All of the link is in four pieces. -/
theorem link_of_unchanged {l : List Part} (h : Unchanged l u w)
    (hl : .receiver ∉ l ∧ .holder ∉ l ∧ .vehicle ∉ l ∧ .linkCounters ∉ l := by simp) : w.link = u.link := by
  obtain ⟨h₁, h₂, h₃, h₄⟩ := hl
  obtain ⟨r₁, r₂, r₃, r₄⟩ := h .receiver h₁
  obtain ⟨o₁, o₂, o₃⟩ := h .holder h₂
  obtain ⟨v₁, v₂⟩ := h .vehicle h₃
  have c : w.link.counters = u.link.counters := h .linkCounters h₄
  cases hw : w.link
  cases hu : u.link
  simp_all

/-- A reply formed in a state with the link of a request that was taken or not, and refused or not. -/
theorem answered_of {kind tag : Byte} {isTaken isRefused : Bool} {out : List Byte} (htag : tag = head.tag)
    (hreading : s.link.reading = none) (r : Result)
    (hw : w.link =
      { s.link with
        partialReq := none
        partialDeadline := none
        ffRun := runAfter (lowByte head.crc) s
        angle := w.link.angle
        lux := w.link.lux
        counters := countersAfter isTaken isRefused s.link.counters }) :
    Answered isTaken isRefused kind head r.code out s (formReply kind tag r out w) := by
  have drop : w.link.busyDrop = s.link.busyDrop := by rw [hw]
  unfold Answered
  rw [summaryAfter_formReply drop, formReply_link, hw, htag]
  simp only [hreading, Option.map_none]

/-- A reply to a request carried out, from the state that its rule leaves. -/
theorem replied_of {k : Kind} {payload out : List Byte} (h : Reaches k.code head payload s) (r : Result)
    (hw : w.link = (taken head s).link) : Replied k head r.code out s (formReply k.code head.tag r out w) :=
  answered_of rfl (reading_none h) r (by rw [hw]; rfl)

/-- A taken request refused by its own rule, after effects that leave the link. -/
theorem answered_refuseWith {k : Kind} {payload out : List Byte} (h : Reaches k.code head payload s) (r : Result)
    (hw : w.link = (taken head s).link) : Answered true true k.code head r.code out s (refuseWith k.code head.tag r out w) := by
  unfold refuseWith
  exact answered_of rfl (reading_none h) r (by simp only [hw, State.setLink_link]; rfl)

theorem refused_refuseWith {k : Kind} {payload out : List Byte} (h : Reaches k.code head payload s) (r : Result) :
    Refused k head r.code out s (refuseWith k.code head.tag r out (taken head s)) :=
  ⟨answered_refuseWith h r rfl, (unchanged_taken head s).trans (unchanged_refuseWith _ _ _ _ _)⟩

theorem refused_refuse {k : Kind} {payload : List Byte} (h : Reaches k.code head payload s) (r : Result) :
    Refused k head r.code [] s (refuse k.code head.tag r (taken head s)) := refused_refuseWith h r

/-- What a request's effects touch, and its answer. -/
theorem answerTouches_of {k tag : Byte} {l : List Part} {r : Result} {out : List Byte} (h : Unchanged l (taken head s) w) :
    AnswerTouches l s (formReply k tag r out w) :=
  (((unchanged_taken head s).mono (by simp)).trans (h.mono (by simp))).trans ((unchanged_formReply w k tag r out).mono (by simp))

end

end Sys2Proof.Proofs.Answers
end

section
set_option Elab.async false
/-! Entry to STARTING (R154; O40), the beginnings of the resets and their end (R153, R158; O41, O42). -/

namespace Sys2Proof.Proofs.PowerAndResets

open Sys2Proof Sys2Proof.Machine Sys2Proof.Proofs.Blocks Sys2Proof.Proofs.MonitorLink Sys2Proof.Proofs.SavesEnd Sys2Proof.Proofs.NightEvaluation
  Sys2Proof.Proofs.Answers

/-! ### The entry to STARTING (R154) -/

/-- A port that begins training. -/
def beginsTraining (p : Port) (now : Time) : Port := { p with link := .training, trainingDeadline := some (now + 50000), inProgress := none }

theorem startTraining_down {sd : Side} {s : State} (h : (s.port sd).link = .down) :
    startTraining sd s = { s with ports := s.ports.set sd (beginsTraining (s.port sd) s.timebase), sent := s.sent ++ [.train sd] } := by
  unfold startTraining
  simp only [h]
  rfl

/-- Orders 2 to 5 of an entry to STARTING, in a state that is already awake. -/
structure Starts (s t : State) : Prop where
  power : t.power = s.power
  night : t.night = { s.night with nextEval := some (s.timebase + 100000) }
  port : ∀ sd, (s.port sd).link = .down → t.port sd = beginsTraining (s.port sd) s.timebase
  display : ∀ sd, (s.display sd).link = .hibernate →
    t.display sd = if (s.display sd).enabled then burst (s.display sd) 1 s.timebase else s.display sd
  sent : (s.port .left).link = .down → (s.port .right).link = .down →
    (s.display .left).link = .hibernate → (s.display .right).link = .hibernate →
    t.sent = s.sent ++ [.train .left, .train .right] ++ (if (s.display .left).enabled then [.wakeBurst .left] else [])
      ++ (if (s.display .right).enabled then [.wakeBurst .right] else [])
  queue : t.queue = queueAfter s s.timebase
    (if s.vehicleStale then raisedReport .vehicleInputStale s else clearedReport .vehicleInputStale s)
  sets : if s.vehicleStale then Raised .vehicleInputStale s t else Cleared .vehicleInputStale s t

/-- The wake of a display that is enabled. -/
def wakeEnabled (sd : Side) (s : State) : State := if (s.display sd).enabled then startWake sd s else s

theorem wakeEnabled_hibernate {sd : Side} {s : State} (h : (s.display sd).link = .hibernate) : wakeEnabled sd s =
    if (s.display sd).enabled then
      { s with displays := s.displays.set sd (burst (s.display sd) 1 s.timebase), sent := s.sent ++ [.wakeBurst sd] }
    else s := by
  unfold wakeEnabled
  rw [startWake_hibernate sd s h]

theorem startingEffects_starts {s : State} (hawake : s.awake = true) : Starts s (startingEffects s) := by
  obtain ⟨a, ha⟩ : ∃ a, a = startTraining .left s := ⟨_, rfl⟩
  obtain ⟨b, hb⟩ : ∃ b, b = startTraining .right a := ⟨_, rfl⟩
  obtain ⟨c, hc⟩ : ∃ c, c = wakeEnabled .left b := ⟨_, rfl⟩
  obtain ⟨d, hd⟩ : ∃ d, d = wakeEnabled .right c := ⟨_, rfl⟩
  obtain ⟨u, hu⟩ : ∃ u, u = d.setNight { d.night with nextEval := some (d.later evaluationPeriod) } := ⟨_, rfl⟩
  have run : startingEffects s = judgeVehicle u := by rw [hu, hd, hc, hb, ha]; rfl
  have frameA : Unchanged [.port .left, .sent] s a := ha ▸ unchanged_startTraining s .left
  have frameB : Unchanged [.port .right, .sent] a b := hb ▸ unchanged_startTraining a .right
  have frameC : Unchanged [.display .left, .sent] b c := hc ▸ unchanged_wakeEnabled b .left
  have frameD : Unchanged [.display .right, .sent] c d := hd ▸ unchanged_wakeEnabled c .right
  have frameU : Unchanged [.night] d u := hu ▸ unchanged_setNight d _
  have toB := (frameA.mono (l' := [.port .left, .port .right, .sent]) (by simp)).trans (frameB.mono (by simp))
  have toD : Unchanged [.port .left, .port .right, .display .left, .display .right, .sent] s d :=
    ((toB.mono (by simp)).trans (frameC.mono (by simp))).trans (frameD.mono (by simp))
  have toU : Unchanged [.port .left, .port .right, .display .left, .display .right, .sent, .night] s u :=
    (toD.mono (by simp)).trans (frameU.mono (by simp))
  have judged := unchanged_judgeVehicle u
  have powerU : u.power = s.power := toU .power (by simp)
  have awakeU : u.awake = true := by unfold State.awake at hawake ⊢; rw [powerU]; exact hawake
  have staleU : u.vehicleStale = s.vehicleStale := by
    obtain ⟨v₁, v₂⟩ := toU .vehicle (by simp)
    obtain ⟨e₁, e₂⟩ := toU .expiries (by simp)
    simp only [State.vehicleStale, v₁, v₂, e₁, e₂]
  obtain ⟨sets, queue⟩ := judgeVehicle_awake toU awakeU
  rw [staleU] at sets queue
  rw [run]
  have timeA : a.timebase = s.timebase := frameA .timebase (by simp)
  have timeB : b.timebase = s.timebase := toB .timebase (by simp)
  have timeC : c.timebase = s.timebase := (frameC .timebase (by simp)).trans timeB
  have portA : a.port .right = s.port .right := frameA (.port .right) (by simp)
  have displayB (sd : Side) : b.display sd = s.display sd := toB (.display sd) (by simp)
  have displayC : c.display .right = s.display .right := (frameC (.display .right) (by simp)).trans (displayB .right)
  refine ⟨(judged .power (by simp)).trans powerU, ?_, fun sd h => ?_, fun sd h => ?_, fun hl hr hl' hr' => ?_, ?_, sets⟩
  · rw [show (judgeVehicle u).night = u.night from judged .night (by simp), hu]
    rw [State.setNight_night, show d.night = s.night from toD .night (by simp), State.later, show d.timebase = s.timebase from toD .timebase (by simp)]
    rfl
  · have outer : (judgeVehicle u).port sd = b.port sd :=
      (judged (.port sd) (by simp)).trans ((frameU (.port sd) (by simp)).trans ((frameD (.port sd) (by simp)).trans
        (frameC (.port sd) (by simp))))
    rw [outer]
    cases sd with
    | left =>
      rw [show b.port .left = a.port .left from frameB (.port .left) (by simp), ha, startTraining_down h]
      rfl
    | right =>
      rw [hb, startTraining_down (by rw [portA]; exact h), portA, timeA]
      rfl
  · have outer : (judgeVehicle u).display sd = d.display sd := (judged (.display sd) (by simp)).trans (frameU (.display sd) (by simp))
    rw [outer]
    cases sd with
    | left =>
      rw [show d.display .left = c.display .left from frameD (.display .left) (by simp), hc,
        wakeEnabled_hibernate (by rw [displayB]; exact h), displayB, timeB]
      split
      · rfl
      · exact displayB .left
    | right =>
      rw [hd, wakeEnabled_hibernate (by rw [displayC]; exact h), displayC, timeC]
      split
      · rfl
      · exact displayC
  · have sentA : a.sent = s.sent ++ [.train .left] := by rw [ha, startTraining_down hl]
    have sentB : b.sent = s.sent ++ [.train .left, .train .right] := by
      rw [hb, startTraining_down (by rw [portA]; exact hr)]
      show a.sent ++ _ = _
      rw [sentA]; simp
    have sentC : c.sent = b.sent ++ if (s.display .left).enabled then [.wakeBurst .left] else [] := by
      rw [hc, wakeEnabled_hibernate (by rw [displayB]; exact hl'), displayB]
      split <;> simp
    have sentD : d.sent = c.sent ++ if (s.display .right).enabled then [.wakeBurst .right] else [] := by
      rw [hd, wakeEnabled_hibernate (by rw [displayC]; exact hr'), displayC]
      split <;> simp
    rw [show (judgeVehicle u).sent = d.sent from (judged .sent (by simp)).trans (frameU .sent (by simp)), sentD, sentC, sentB]
  · rw [queue, show u.timebase = s.timebase from toU .timebase (by simp)]

/-- The whole of an entry to STARTING. -/
theorem enterStarting_started (source : WakeSource) (s : State) :
    startedFrom s (enterStarting source s)
      ∧ (enterStarting source s).power = { s.power with state := .starting, lastWake := some source } := by
  let u : State := (changePower .starting s).setPower { (changePower .starting s).power with lastWake := some source }
  have started : Starts u (startingEffects u) := startingEffects_starts rfl
  have stale : u.vehicleStale = s.vehicleStale := rfl
  refine ⟨⟨congrArg Power.state started.power, started.night, started.port, started.display, started.sent, ?_, ?_⟩, started.power⟩
  · rw [show (enterStarting source s).queue = _ from started.queue, stale]
    exact (queueAfter_append s s.timebase [.powerChanged s.power.state .starting] _).symm
  · have sets := started.sets
    rw [stale] at sets
    exact sets

/-- An answer is no part of an entry to STARTING. -/
theorem startedFrom_congr {s u w t : State} (hu : Unchanged answerParts s u) (ht : Unchanged answerParts w t) (h : startedFrom u w) :
    startedFrom s t := by
  have powerU : u.power = s.power := hu .power (by simp [answerParts])
  have nightU : u.night = s.night := hu .night (by simp [answerParts])
  have timeU : u.timebase = s.timebase := hu .timebase (by simp [answerParts])
  have sentU : u.sent = s.sent := hu .sent (by simp [answerParts])
  have queueU : u.queue = s.queue := hu .queue (by simp [answerParts])
  have masksU : u.faults.masks = s.faults.masks := hu .masks (by simp [answerParts])
  have groupU : u.faults.group = s.faults.group := hu .faultGroup (by simp [answerParts])
  have portU (sd : Side) : u.port sd = s.port sd := hu (.port sd) (by simp [answerParts])
  have displayU (sd : Side) : u.display sd = s.display sd := hu (.display sd) (by simp [answerParts])
  obtain ⟨currentU, accruedU⟩ := hu .faultSets (by simp [answerParts])
  obtain ⟨angleU, luxU⟩ := hu .expiries (by simp [answerParts])
  obtain ⟨inputU, inputU'⟩ := hu .vehicle (by simp [answerParts])
  have powerT : t.power = w.power := ht .power (by simp [answerParts])
  have nightT : t.night = w.night := ht .night (by simp [answerParts])
  have sentT : t.sent = w.sent := ht .sent (by simp [answerParts])
  have queueT : t.queue = w.queue := ht .queue (by simp [answerParts])
  have portT (sd : Side) : t.port sd = w.port sd := ht (.port sd) (by simp [answerParts])
  have displayT (sd : Side) : t.display sd = w.display sd := ht (.display sd) (by simp [answerParts])
  obtain ⟨currentT, accruedT⟩ := ht .faultSets (by simp [answerParts])
  unfold startedFrom Raised Cleared State.vehicleStale raisedReport clearedReport Faults.unmasked queueAfter at h ⊢
  simp only [powerU, nightU, timeU, sentU, queueU, masksU, groupU, portU, displayU, currentU, accruedU, angleU, luxU, inputU, inputU'] at h
  simp only [powerT, nightT, sentT, queueT, portT, displayT, currentT, accruedT]
  exact h

/-- Settles O40: both wake sources enter STARTING from PARKED and are without effect elsewhere. -/
theorem wakeSourcesWakeAParkedPart : Obligations.WakeSourcesWakeAParkedPart := by
  refine ⟨fun high s => ⟨fun hparked hhigh hlow => ?_, fun hparked hnot => ?_, fun hawake => ?_, fun hoff => ?_⟩,
    fun head s h => ?_⟩
  · obtain ⟨started, power⟩ := enterStarting_started .line (s.setPower { s.power with wakeLevel := high })
    have frame := unchanged_enterStarting (s.setPower { s.power with wakeLevel := high }) .line
    refine ⟨_, ?_, started, ?_, ((unchanged_setPower s _).mono (by simp [startParts])).trans frame⟩
    · show execWakeLineEdge high s = _
      simp only [execWakeLineEdge, hparked, hhigh, hlow]
      rfl
    · rw [power, hhigh]; rfl
  · show execWakeLineEdge high s = _
    have still : (high && !s.power.wakeLevel) = false := by rcases hnot with h | h <;> simp [h]
    simp only [execWakeLineEdge, hparked, still]
    rfl
  · show execWakeLineEdge high s = _
    rcases hawake with h | h <;> simp only [execWakeLineEdge, h] <;> rfl
  · show execWakeLineEdge high s = _
    simp only [execWakeLineEdge, hoff]
  · have run : exec (.powerWake head) s = .next (carryOut .power head.tag [1] (taken head s)) :=
      exec_of_suited (k := .power) rfl h rfl
    have stands : (taken head s).power = s.power := rfl
    refine ⟨_, run, fun hparked => ?_, fun hawake => ?_⟩
    · have asleep : ¬(taken head s).awake = true := by rw [awake_iff, stands, hparked]; simp
      obtain ⟨started, power⟩ := enterStarting_started .request (taken head s)
      have frame := unchanged_enterStarting (taken head s) .request
      have carried : carryOut .power head.tag [1] (taken head s)
          = formReply Kind.power.code head.tag .ok [0] (enterStarting .request (taken head s)) := if_neg asleep
      rw [carried]
      exact ⟨replied_of (k := .power) h .ok (link_of_unchanged frame (by simp [startParts])),
        startedFrom_congr (unchanged_taken head s) (unchanged_formReply _ _ _ _ _) started, power, answerTouches_of frame⟩
    · have awake : (taken head s).awake = true := (awake_iff _).mpr hawake
      have carried : carryOut .power head.tag [1] (taken head s) = formReply Kind.power.code head.tag .ok [1] (taken head s) :=
        if_pos awake
      rw [carried]
      exact ⟨replied_of (k := .power) h .ok rfl, (unchanged_taken head s).trans (unchanged_formReply _ _ _ _ _)⟩

/-! ### The beginnings of the resets (R158) -/

section
variable (s : State)

theorem heldState_held {hold : Hold} (h : hold ≠ .released) :
    HeldInReset s (heldState hold s) ∧ Forgotten (heldState hold s) ∧ (heldState hold s).power.hold = hold := by
  refine ⟨⟨rfl, h, rfl, rfl, rfl, rfl, fun sd => ?_, rfl, rfl, rfl, rfl, rfl, rfl, rfl, rfl, rfl, rfl⟩, ⟨fun sd => ?_, rfl, rfl⟩, rfl⟩
  · cases sd <;> exact ⟨rfl, rfl, rfl, rfl, rfl, rfl, rfl, rfl, rfl, rfl, rfl, rfl⟩
  · cases sd <;> exact ⟨rfl, rfl, rfl, rfl⟩

theorem beginPartReset_held (pin : Bool) :
    HeldInReset s (beginPartReset pin s) ∧ Retained s (beginPartReset pin s)
      ∧ (beginPartReset pin s).power.hold = .partReset pin := by
  refine ⟨⟨rfl, by simp [beginPartReset, heldState], rfl, rfl, rfl, rfl, fun sd => ?_, rfl, rfl, rfl, rfl, rfl, rfl, rfl, rfl, rfl, rfl⟩,
    ⟨fun sd => ?_, rfl, rfl⟩, rfl⟩
  · cases sd <;> exact ⟨rfl, rfl, rfl, rfl, rfl, rfl, rfl, rfl, rfl, rfl, rfl, rfl⟩
  · cases sd <;> exact ⟨rfl, rfl, rfl, rfl, rfl, rfl, rfl⟩

end

/-- Settles O41: each beginning is the held state itself, or the part reset over the retention domain. -/
theorem resetsHoldThePartInOff : Obligations.ResetsHoldThePartInOff := by
  intro s
  refine ⟨⟨_, rfl, heldState_held s (by simp)⟩, fun h => ?_, fun h => ?_, fun h => ?_, fun pin h => ?_, fun h => ?_, fun head h => ?_⟩
  · refine ⟨heldState .powerOn s, ?_, heldState_held s (by simp)⟩
    show execSupplyOn s = _
    simp only [execSupplyOn, h]
  · show execSupplyOn s = _
    unfold execSupplyOn; split
    · next hn => exact absurd hn h
    · rfl
  · refine ⟨beginPartReset true s, ?_, beginPartReset_held s true⟩
    show execNrstAsserted s = _
    simp only [execNrstAsserted, h]
  · show execNrstAsserted s = _
    simp only [execNrstAsserted, h]
    rfl
  · show execNrstAsserted s = _
    rcases h with h | h <;> simp only [execNrstAsserted, h]
  · obtain ⟨held, retained, hold⟩ := beginPartReset_held (taken head s) false
    exact ⟨_, exec_of_suited (k := .power) rfl h rfl, held, retained, hold, rfl⟩

/-! ### The end of a reset (R153) -/

/-- The queue of an end of a reset: the restart, then the power state it enters, with ATTN asserted. -/
theorem queueAfter_restart {s : State} (hq : s.queue = ⟨[], false, 0⟩) (hg : s.faults.group = .default) (cause : RestartCause)
    (entered : PowerState) : queueAfter s 0 [.restarted cause, .powerChanged .off entered]
      = ⟨[⟨.restarted cause, 0⟩, ⟨.powerChanged .off entered, 0⟩], true, 0⟩ := by
  simp only [queueAfter, hq, hg]
  rfl

/-- The first five steps of an end of a reset. -/
def reopened (cause : RestartCause) (autostart wakeHigh : Bool) (s : State) : State :=
  ((openMonitorLinks { s with timebase := 0, restartCause := cause }).report (.restarted cause)).setPower
    ⟨.off, none, wakeHigh, autostart, .released⟩

theorem reopened_display (cause : RestartCause) (autostart wakeHigh : Bool) (s : State) (sd : Side) :
    (reopened cause autostart wakeHigh s).display sd = { s.display sd with link := .hibernate } := by
  cases sd <;> rfl

theorem unchanged_reopened (cause : RestartCause) (autostart wakeHigh : Bool) (s : State) :
    Unchanged [.timebase, .power, .restartCause, .queue, .display .left, .display .right] s (reopened cause autostart wakeHigh s) := by
  have first : Unchanged [.timebase, .restartCause] s { s with timebase := 0, restartCause := cause } := by
    intro p hp; cases p <;> first | rfl | simp_all [Part.same]
  have opened : Unchanged [.display .left, .display .right] { s with timebase := 0, restartCause := cause }
      (openMonitorLinks { s with timebase := 0, restartCause := cause }) :=
    (Unchanged.refl.snoc (unchanged_setDisplay _ .left _)).snoc (unchanged_setDisplay _ .right _)
  exact (((first.mono (by simp)).trans (opened.mono (by simp))).trans ((unchanged_report _ _).mono (by simp))).trans
    ((unchanged_setPower _ _).mono (by simp))

/-- Settles O42: the six steps, from a state that the hold leaves. -/
theorem resetEndLeavesOff : Obligations.ResetEndLeavesOff := by
  intro autostart wakeHigh s
  refine ⟨fun cause hcause hoff held => ?_, fun h => ?_⟩
  · have run : exec (.resetEnd autostart wakeHigh) s = .next (endReset cause autostart wakeHigh s) := by
      show execResetEnd autostart wakeHigh s = _
      rcases hcause with ⟨h, rfl⟩ | ⟨h, rfl⟩ | ⟨h, rfl⟩ <;> simp only [execResetEnd, h]
    obtain ⟨-, -, -, hqueue, hlink, -, hside, hnight, hcurrent, -, -, hgroup, -⟩ := held
    obtain ⟨u, hu⟩ : ∃ u, u = reopened cause autostart wakeHigh s := ⟨_, rfl⟩
    have displayU (sd : Side) : u.display sd = { s.display sd with link := .hibernate } := hu ▸ reopened_display ..
    have frameU := unchanged_reopened cause autostart wakeHigh s
    rw [← hu] at frameU
    have restarted (entered : PowerState) := queueAfter_restart hqueue hgroup cause entered
    have linkU : u.link = .reset := (link_of_unchanged frameU).trans hlink
    cases autostart with
    | false =>
      obtain ⟨t, ht⟩ : ∃ t, t = changePower .parked u := ⟨_, rfl⟩
      have queueT : t.queue = queueAfter s 0 [.restarted cause, .powerChanged .off .parked] := by rw [ht, hu]; rfl
      rw [restarted] at queueT
      have frameT : Unchanged [.power, .queue] u t := ht ▸ unchanged_changePower u _
      refine ⟨t, by rw [run, ht, hu]; rfl, by rw [ht, hu]; rfl, by rw [ht, hu]; rfl, by rw [queueT], by rw [queueT],
        by rw [ht, hu]; rfl, by rw [ht, hu]; rfl, by rw [ht, hu]; rfl, fun _ => ⟨by rw [ht]; rfl, by rw [ht, hu]; rfl,
        by rw [queueT], fun sd => ?_, frameU.trans (frameT.mono (by simp))⟩, nofun⟩
      rw [show t.display sd = u.display sd from frameT (.display sd) (by simp)]
      exact displayU sd
    | true =>
      obtain ⟨v, hv⟩ : ∃ v, v = changePower .starting (u.setPower { u.power with lastWake := some .autostart }) := ⟨_, rfl⟩
      have frameV : Unchanged [.power, .queue] u v := by
        rw [hv]
        exact ((unchanged_setPower u _).mono (by simp)).trans (unchanged_changePower _ _)
      have queueV : v.queue = queueAfter s 0 [.restarted cause, .powerChanged .off .starting] := by rw [hv, hu]; rfl
      rw [restarted] at queueV
      have powerV : v.power = ⟨.starting, some .autostart, wakeHigh, true, .released⟩ := by rw [hv, hu]; rfl
      have started := startingEffects_starts (s := v) ((awake_iff v).mpr (.inl (by rw [powerV])))
      have frameT := unchanged_startingEffects v
      obtain ⟨t, ht⟩ : ∃ t, t = startingEffects v := ⟨_, rfl⟩
      rw [← ht] at started frameT
      have outer := frameU.trans (frameV.mono (by simp))
      have timeV : v.timebase = 0 := by rw [hv, hu]; rfl
      have nightV : v.night = s.night := outer .night (by simp)
      have sentV : v.sent = s.sent := outer .sent (by simp)
      have portV (sd : Side) : v.port sd = s.port sd := outer (.port sd) (by simp)
      have displayV (sd : Side) : v.display sd = { s.display sd with link := .hibernate } := by
        rw [show v.display sd = u.display sd from frameV (.display sd) (by simp), displayU]
      obtain ⟨currentV, accruedV⟩ := outer .faultSets (by simp)
      rw [hcurrent] at currentV
      have fresh : v.vehicleStale = false := by
        rw [State.vehicleStale, show v.link = .reset from (link_of_unchanged frameV).trans linkU]; rfl
      have down (sd : Side) : (v.port sd).link = .down := by
        obtain ⟨hport, -⟩ := hside sd
        rw [portV, hport]; rfl
      have dormant (sd : Side) : (v.display sd).link = .hibernate := by rw [displayV]
      have enabled (sd : Side) : (v.display sd).enabled = true := by
        obtain ⟨-, -, -, -, -, -, hdisplay, -⟩ := hside sd
        rw [displayV]
        show (s.display sd).enabled = true
        rw [hdisplay]; rfl
      have absent : FaultSet.has v.faults.current .vehicleInputStale = false := by rw [currentV]; exact has_zero _
      obtain ⟨power, night, port, display, sent, queue, sets⟩ := started
      have queueT : t.queue = ⟨[⟨.restarted cause, 0⟩, ⟨.powerChanged .off .starting, 0⟩], true, 0⟩ := by
        rw [queue, if_neg (by rw [fresh]; simp), ← queueV]
        simp [clearedReport, absent, queueAfter]
      rw [if_neg (by rw [fresh]; simp)] at sets
      obtain ⟨current, accrued⟩ := sets
      refine ⟨t, by rw [run, ht, hv, hu]; rfl, (frameT .timebase (by simp)).trans timeV,
        (frameT .restartCause (by simp)).trans (by rw [hv, hu]; rfl), by rw [queueT], by rw [queueT], by rw [power, powerV],
        by rw [power, powerV], by rw [power, powerV], nofun, fun _ => ⟨by rw [power, powerV], by rw [power, powerV],
        by rw [queueT], ?_, ?_, accrued.trans accruedV, fun sd => ⟨?_, ?_⟩, ?_, ?_⟩⟩
      · rw [night, nightV, timeV]; rfl
      · exact (current.trans (erase_absent absent)).trans currentV
      · obtain ⟨hport, -⟩ := hside sd
        rw [port sd (down sd), portV, timeV, hport]
        rfl
      · rw [display sd (dormant sd), if_pos (enabled sd), displayV, timeV]
      · rw [sent (down _) (down _) (dormant _) (dormant _), if_pos (enabled _), if_pos (enabled _), sentV]
        simp
      · exact (outer.mono (by simp [startParts])).trans (frameT.mono (by simp [startParts]))
  · show execResetEnd autostart wakeHigh s = _
    rcases h with h | h <;> simp only [execResetEnd, h]

end Sys2Proof.Proofs.PowerAndResets
end

section
set_option Elab.async false
/-! The host link interface byte by byte: what ends a partial request, reads, and each byte of a request (R161 to R165; O43 to O45). -/

namespace Sys2Proof.Proofs.LinkBytes

open Sys2Proof Sys2Proof.Machine Sys2Proof.Proofs.SavesEnd

/-! ### The raise of HOST_LINK_ERROR (R116) -/

section
variable {s u : State}

theorem raiseEvent_link (f : FaultId) (u : State) : (raiseEvent f u).link = u.link := by
  unfold raiseEvent reportFault
  split <;> rfl

/-- HOST_LINK_ERROR raised in a state with the supervisor and the queue of s. -/
theorem linkErrorRaised_of (hf : u.faults = s.faults) (hq : u.queue = s.queue) :
    LinkErrorRaised s (raiseEvent .hostLinkError u) u.timebase := by
  unfold LinkErrorRaised
  rw [raiseEvent_faults, raiseEvent_queue, hf]
  exact ⟨rfl, rfl, queueAfter_congr _ _ hq (by rw [hf])⟩

theorem discardPartial_spec (u : State) :
    (discardPartial u).link = partialDropped u.link ∧ (discardPartial u).timebase = u.timebase
      ∧ LinkErrorRaised u (discardPartial u) u.timebase
      ∧ Unchanged [.receiver, .linkCounters, .faultSets, .queue] u (discardPartial u) := by
  have linked : Unchanged [.receiver, .linkCounters] u (countFraming (dropPartial u)) := by
    intro p hp; cases p <;> first | rfl | simp_all [Part.same, countFraming, dropPartial, State.setLinkCounters]
  have raised := unchanged_raiseEvent (countFraming (dropPartial u)) .hostLinkError
  exact ⟨raiseEvent_link _ _, raised .timebase (by simp), linkErrorRaised_of rfl rfl,
    (linked.mono (by simp)).trans (raised.mono (by simp))⟩

end

/-- Settles O43: a discard is one framing error and a raise; a release ends the run and the read; the link reset empties the interface. -/
theorem partialRequestsEnd : Obligations.PartialRequestsEnd := by
  intro s
  have release (midByte : Bool) (hon : s.power.state ≠ .off) : exec (.chipSelectRelease midByte) s =
      if midByte && s.link.partialReq.isSome then .next (discardPartial (releaseSelect s)) else .next (releaseSelect s) := by
    show execChipSelectRelease midByte s = _
    unfold execChipSelectRelease; split
    · next h => exact absurd h hon
    · rfl
  have held (midByte : Bool) (hoff : s.power.state = .off) : exec (.chipSelectRelease midByte) s = .next s := by
    show execChipSelectRelease midByte s = _
    simp only [execChipSelectRelease, hoff]
  refine ⟨fun now hdue => ?_, fun hnone => ?_, fun hon => release false hon, fun hon hnone => ?_, fun hon hsome => ?_, fun hon => ?_,
    fun hoff => ⟨?_, held true hoff, held false hoff⟩⟩
  · obtain ⟨link, time, raised, frame⟩ := discardPartial_spec (s.setTimebase now)
    refine ⟨discardPartial (s.setTimebase now), ?_, time, link, raised,
      ((unchanged_setTimebase s now).mono (by simp)).trans (frame.mono (by simp))⟩
    show execPartialDeadline s = _
    simp only [execPartialDeadline, hdue]
  · show execPartialDeadline s = _
    simp only [execPartialDeadline, hnone]
  · rw [release true hon, hnone]; rfl
  · obtain ⟨link, time, raised, frame⟩ := discardPartial_spec (releaseSelect s)
    have released : Unchanged [.receiver] s (releaseSelect s) := by
      intro p hp; cases p <;> first | rfl | simp_all [Part.same, releaseSelect]
    refine ⟨discardPartial (releaseSelect s), ?_, link, raised, (released.mono (by simp)).trans (frame.mono (by simp))⟩
    rw [release true hon, Option.isSome_iff_ne_none.mpr hsome]
    rfl
  · show execLinkReset s = _
    unfold execLinkReset; split
    · next h => exact absurd h hon
    · rfl
  · show execLinkReset s = _
    simp only [execLinkReset, hoff]

/-! ### One byte (R161, R163) -/

section
variable {b : Byte} {s : State} (k : State → State)

theorem clocked_off (h : s.power.state = .off) : clocked b k s = s := by
  simp only [clocked, h]

theorem clocked_reading (h : s.power.state ≠ .off) {r : Reading} (hr : s.link.reading = some r) : clocked b k s = shiftByte r s := by
  unfold clocked; split
  · contradiction
  · next hr' _ => rw [hr] at hr'; rw [Option.some.inj hr']
  · simp_all

theorem clocked_reset (h : s.power.state ≠ .off) (hr : s.link.reading = none) (hb : b = 0xFF) (hrun : 63 ≤ s.link.ffRun) :
    clocked b k s = resetLink s := by
  unfold clocked; split
  · contradiction
  · simp_all
  · simp only [hb, if_true]
    exact if_pos (by omega)

theorem exec_linkReset (h : s.power.state ≠ .off) : exec .linkReset s = .next (resetLink s) := by
  show execLinkReset s = _
  unfold execLinkReset; split
  · contradiction
  · rfl

theorem exec_replyRead {r : Reading} (h : s.link.reading = some r) : exec .replyRead s = .next (shiftRest r s) := by
  show execReplyRead s = _
  simp only [execReplyRead, h]

/-- A byte of a shift-out that is not the last. -/
theorem shiftByte_before_last {r : Reading} (h : r.pos + 1 < r.bytes.length) : shiftByte r s =
    { s with
      link := { s.link with reading := some { r with pos := r.pos + 1 } }
      sent := s.sent ++ [.hostBytes ((r.bytes.drop r.pos).take 1)] } := by
  simp only [shiftByte]
  exact if_neg (by omega)

theorem shiftByte_last {r : Reading} (h : r.bytes.length = r.pos + 1) : shiftByte r s = shiftRest r s := by
  have rest : (r.bytes.drop r.pos).take 1 = r.bytes.drop r.pos := List.take_of_length_le (by simp [h])
  simp only [shiftByte, shiftRest, rest]
  exact if_pos (by omega)

theorem heldLength_eq {bytes : List Byte} {high low : Byte} (h₃ : bytes[3]? = some high) (h₄ : bytes[4]? = some low) :
    heldLength bytes = 256 * high.toNat + low.toNat := by
  rcases bytes with _ | ⟨_, _ | ⟨_, _ | ⟨_, _ | ⟨x, _ | ⟨y, _⟩⟩⟩⟩⟩ <;> simp_all [heldLength, beNat]

/-- A byte within a request, its length not yet known. -/
theorem appendByte_of_short {p : List Byte} (h : p.length < 4) :
    appendByte (p ++ [b]) s = s.setLink { s.link with partialReq := some (p ++ [b]) } := by
  have hlen : (p ++ [b]).length = p.length + 1 := by simp
  unfold appendByte
  rw [if_neg (by omega), if_neg (by omega)]

/-- The low byte of a length of at most 1,024. -/
theorem appendByte_of_length {p : List Byte} {high : Byte} (h : p.length = 4) (h₃ : p[3]? = some high)
    (hfits : 256 * high.toNat + b.toNat ≤ 1024) : appendByte (p ++ [b]) s = s.setLink { s.link with partialReq := some (p ++ [b]) } := by
  have hlen : (p ++ [b]).length = 5 := by simp [h]
  have hheld : heldLength (p ++ [b]) = 256 * high.toNat + b.toNat :=
    heldLength_eq (by rw [List.getElem?_append_left (by omega), h₃]) (by rw [List.getElem?_append_right (by omega), h]; rfl)
  unfold appendByte
  rw [if_neg (by omega), if_neg (by omega)]

/-- A payload or CRC byte before the last. -/
theorem appendByte_of_more {p : List Byte} {high low : Byte} (h₃ : p[3]? = some high) (h₄ : p[4]? = some low)
    (hmore : p.length + 1 < 256 * high.toNat + low.toNat + 7) :
    appendByte (p ++ [b]) s = s.setLink { s.link with partialReq := some (p ++ [b]) } := by
  have hfive : 4 < p.length := (List.getElem?_eq_some_iff.mp h₄).1
  have hlen : (p ++ [b]).length = p.length + 1 := by simp
  have hheld : heldLength (p ++ [b]) = 256 * high.toNat + low.toNat :=
    heldLength_eq (by rw [List.getElem?_append_left (by omega), h₃]) (by rw [List.getElem?_append_left hfive, h₄])
  unfold appendByte
  rw [if_neg (by omega), if_neg (by omega)]

/-- A byte within a request that ends nothing. -/
theorem exec_requestByte_appends (h : Receives b s) {p : List Byte} (hp : s.link.partialReq = some p)
    (happend : ∀ u : State, appendByte (p ++ [b]) u = u.setLink { u.link with partialReq := some (p ++ [b]) }) :
    exec (.requestByte b) s = .next { s with link := { s.link with ffRun := runAfter b s, partialReq := some (p ++ [b]) } } := by
  show Host.Outcome.next (clocked b (takeByte b) s) = _
  rw [clocked_of_receives h]
  simp only [takeByte, State.setLink_link, hp, happend]
  rfl

theorem exec_requestByte_outside (h : Receives b s) (hp : s.link.partialReq = none) :
    exec (.requestByte b) s = .next (outsideByte b (s.setLink { s.link with ffRun := runAfter b s })) := by
  show Host.Outcome.next (clocked b (takeByte b) s) = _
  rw [clocked_of_receives h]
  simp only [takeByte, State.setLink_link, hp]

end

theorem summaryAfter_self (s : State) : summaryAfter s s = s.summary := by
  simp only [State.summary, beBytes_one, summaryFlags]
  rfl

/-- Settles O44: the byte 0xC3 by what the interface holds, and the end of the shift-out. -/
theorem readsShiftOutTheHeldReply : Obligations.ReadsShiftOutTheHeldReply := by
  intro s
  have opens (h : Receives 0xC3 s) (hp : s.link.partialReq = none) :
      exec .readTransaction s = .next (beginRead (s.setLink { s.link with ffRun := 0 })) := exec_requestByte_outside h hp
  refine ⟨fun h hp r hr => ?_, fun h hp hr => ?_, fun h p hp hlen => ?_, fun h p high hp hlen h₃ hfits => ?_,
    fun h p high low hp h₃ h₄ hmore => ?_, fun h r hr hlen => ?_, fun h r hr hlen => ?_, fun h => ?_, rfl, fun r hr => exec_replyRead hr,
    fun hr => ?_⟩
  · rw [opens h hp]
    simp only [beginRead, State.setLink_link, hr]
    rfl
  · rw [opens h hp]
    simp only [beginRead, State.setLink_link, hr]
    rw [summaryAfter_self]
    rfl
  · exact exec_requestByte_appends h hp fun u => appendByte_of_short hlen
  · exact exec_requestByte_appends h hp fun u => appendByte_of_length hlen h₃ hfits
  · exact exec_requestByte_appends h hp fun u => appendByte_of_more h₃ h₄ hmore
  · exact congrArg _ ((clocked_reading _ h hr).trans (shiftByte_before_last hlen))
  · rw [exec_replyRead hr]
    exact congrArg _ ((clocked_reading _ h hr).trans (shiftByte_last hlen))
  · exact congrArg _ (clocked_off _ h)
  · show execReplyRead s = _
    simp only [execReplyRead, hr]

/-- Settles O45: one byte by what the interface holds. -/
theorem eachByteIsTakenByTheLink : Obligations.EachByteIsTakenByTheLink := by
  intro b s
  refine ⟨fun h => ?_, fun h hr hb hrun => ?_, fun h r hr hlen => ?_, fun h r hr hlen => ?_, fun h hp hb => ?_, fun h hp hb => ?_,
    fun h hp hb hb' => ?_, fun h p hp hlen => ?_, fun h p high hp hlen h₃ hfits => ?_, fun h p high low hp h₃ h₄ hmore => ?_⟩
  · exact congrArg _ (clocked_off _ h)
  · rw [exec_linkReset h]
    exact congrArg _ (clocked_reset _ h hr hb hrun)
  · exact congrArg _ ((clocked_reading _ h hr).trans (shiftByte_before_last hlen))
  · rw [exec_replyRead hr]
    exact congrArg _ ((clocked_reading _ h hr).trans (shiftByte_last hlen))
  · rw [exec_requestByte_outside h hp]
    subst hb
    rfl
  · subst hb; rfl
  · rw [exec_requestByte_outside h hp, outsideByte, if_neg hb, if_neg hb']
    rfl
  · exact exec_requestByte_appends h hp fun u => appendByte_of_short hlen
  · exact exec_requestByte_appends h hp fun u => appendByte_of_length hlen h₃ hfits
  · exact exec_requestByte_appends h hp fun u => appendByte_of_more h₃ h₄ hmore

end Sys2Proof.Proofs.LinkBytes
end

section
set_option Elab.async false
/-! A request as its completing byte, and what the link does with it before its kind (R161, R164, R170; O46, O47). -/

namespace Sys2Proof.Proofs.WholeRequests

open Sys2Proof Sys2Proof.Machine Sys2Proof.Proofs.SavesEnd Sys2Proof.Proofs.Answers Sys2Proof.Proofs.LinkBytes

/-! ### Request commands (12.1, 12.2) -/

/-- A request command that a link can carry is the last byte of its frame. -/
theorem exec_request {c : Instr} {kind : Byte} {head : ReqHead} {payload : List Byte} (hc : requestOf c = some (kind, head, payload))
    (hwf : c.wellFormed = true) (s : State) : exec c s = .next (completeRequest kind head payload s) := by
  cases c with
  | unknownKindRequest =>
    simp only [requestOf, Option.some.injEq, Prod.mk.injEq] at hc
    obtain ⟨rfl, rfl, rfl⟩ := hc
    exact if_pos hwf
  | set =>
    simp only [requestOf, Option.some.injEq, Prod.mk.injEq] at hc
    obtain ⟨rfl, rfl, rfl⟩ := hc
    exact if_pos hwf
  | ctxLoad =>
    simp only [requestOf, Option.some.injEq, Prod.mk.injEq] at hc
    obtain ⟨rfl, rfl, rfl⟩ := hc
    exact if_pos hwf
  | monitor =>
    simp only [requestOf, Option.some.injEq, Prod.mk.injEq] at hc
    obtain ⟨rfl, rfl, rfl⟩ := hc
    exact if_pos hwf
  | _ =>
    simp only [requestOf, Option.some.injEq, Prod.mk.injEq, reduceCtorEq] at hc
    try (obtain ⟨rfl, rfl, rfl⟩ := hc; rfl)

theorem be16_eq (w : BitVec 16) : be16 w = [BitVec.ofNat 8 (w.toNat / 256), BitVec.ofNat 8 w.toNat] := by
  simp [be16, beBytes, List.range_succ]

/-- The payload of a request command that a link can carry fits its frame. -/
theorem requestOf_length {c : Instr} {kind : Byte} {head : ReqHead} {payload : List Byte}
    (hc : requestOf c = some (kind, head, payload)) (hwf : c.wellFormed = true) : payload.length ≤ 1024 := by
  cases c with
  | unknownKindRequest =>
    simp only [requestOf, Option.some.injEq, Prod.mk.injEq] at hc
    obtain ⟨rfl, rfl, rfl⟩ := hc
    simp [Instr.wellFormed, payloadFits] at hwf
    omega
  | _ =>
    simp only [requestOf, Option.some.injEq, Prod.mk.injEq, reduceCtorEq] at hc
    try
      obtain ⟨rfl, rfl, rfl⟩ := hc
      simp_all [Instr.wellFormed, payloadFits, setPayload, overlayPayload, be16, be32, be64, beBytes_length]
      try omega

/-! ### The kinds (12.2) -/

theorem kindOf_unknown {kind : Byte} (h : knownKind kind = false) : kindOf kind = none := by
  rw [kindOf, List.find?_eq_none]
  intro k _ hk
  rw [← of_decide_eq_true hk] at h
  cases k <;> contradiction

theorem kind_of_known {kind : Byte} (h : knownKind kind = true) : ∃ k : Kind, k.code = kind := by
  have found : ∀ b : Byte, knownKind b = true → (kindOf b).isSome = true := by decide
  obtain ⟨k, hk⟩ := Option.isSome_iff_exists.mp (found kind h)
  unfold kindOf at hk
  exact ⟨k, by simpa using List.find?_some hk⟩

theorem known_of_fixedLength {kind : Byte} {l : Nat} (h : fixedLength kind = some l) : knownKind kind = true := by
  have known : ∀ b : Byte, (fixedLength b).isSome = true → knownKind b = true := by decide
  exact known kind (by rw [h]; rfl)

theorem unsuited_of_fixedLength {k : Kind} {l : Nat} (h : fixedLength k.code = some l) (payload : List Byte) :
    unsuited k payload = lengthResult (payload.length == l) := by
  cases k <;> simp_all [fixedLength, Kind.code, unsuited]

/-- Step 4 of R164 for a length that no payload of the kind has. -/
theorem unsuited_of_lengthUnsuited {kind : Byte} {payload : List Byte} (h : LengthUnsuited kind payload.length) :
    ∃ k : Kind, k.code = kind ∧ unsuited k payload = some .badLength := by
  rcases h with ⟨l, hl, hne⟩ | ⟨rfl, hshort⟩ | ⟨rfl, hlen⟩
  · obtain ⟨k, rfl⟩ := kind_of_known (known_of_fixedLength hl)
    exact ⟨k, rfl, by rw [unsuited_of_fixedLength hl]; simp [lengthResult, hne]⟩
  · exact ⟨.set, rfl, if_pos hshort⟩
  · exact ⟨.monitor, rfl, if_neg (by simpa using by omega)⟩

theorem unsuited_none_of_fixedLength {k : Kind} {payload : List Byte} (h : fixedLength k.code = some payload.length) :
    unsuited k payload = none := by
  rw [unsuited_of_fixedLength h]; simp [lengthResult]

/-- An argument code without a meaning is refused by the rule of its kind. -/
theorem carryOut_of_argumentUnknown {k : Kind} {payload : List Byte} (h : ArgumentUnknown k.code payload) (tag : Byte) (s : State) :
    carryOut k tag payload s = refuse k.code tag .badArgument s := by
  obtain ⟨-, harg⟩ := h
  have code (j : Kind) (hj : k.code = j.code) : k = j := Option.some.inj ((kindOf_code k).symm.trans (by rw [hj, kindOf_code]))
  rcases harg with ⟨hk, hbig⟩ | ⟨hk, hbig⟩ | ⟨hk, hbig⟩ | ⟨hk, hbig⟩
  · obtain rfl := code .power hk
    have apart (a : Byte) (ha : a.toNat ≤ 2) : payload.getD 0 0 ≠ a := fun he => by rw [he] at hbig; omega
    simp only [carryOut, takePower]
    rw [if_neg (apart 0 (by decide)), if_neg (apart 1 (by decide)), if_neg (apart 2 (by decide))]
  · obtain rfl := code .overlay hk
    have apart (a : Byte) (ha : a.toNat ≤ 1) : payload.getD 2 0 ≠ a := fun he => by rw [he] at hbig; omega
    simp only [carryOut, takeOverlay]
    split
    · rfl
    · rw [if_neg (apart 0 (by decide)), if_neg (apart 1 (by decide)), ite_self]
  · obtain rfl := code .ctxSave hk
    simp only [carryOut, takeCtxSave]
    split
    · rfl
    · exact if_pos (.inl hbig)
  · obtain rfl := code .display hk
    simp only [carryOut, takeDisplay]
    split
    · rfl
    · exact if_pos hbig

/-! ### The last byte (R161) -/

/-- The bytes of a request's frame but the last. -/
def frameBefore (kind : Byte) (head : ReqHead) (payload : List Byte) : List Byte :=
  [0xA5, kind, head.tag] ++ be16 (BitVec.ofNat 16 payload.length) ++ payload ++ [(head.crc >>> 8).setWidth 8]

theorem clocked_congr {b : Byte} {s : State} {k k' : State → State}
    (h : ∀ run, k (s.setLink { s.link with ffRun := run }) = k' (s.setLink { s.link with ffRun := run })) :
    clocked b k s = clocked b k' s := by
  unfold clocked; split
  · rfl
  · rfl
  · simp only [h]

theorem takeByte_completes {kind : Byte} {head : ReqHead} {payload : List Byte} (hfits : payload.length ≤ 1024) {u : State}
    (hp : u.link.partialReq = some (frameBefore kind head payload)) :
    takeByte (lowByte head.crc) u = judgeRequest kind head.tag payload head.crc (dropPartial u) := by
  obtain ⟨bytes, hbytes⟩ : ∃ bytes, bytes = frameBefore kind head payload ++ [lowByte head.crc] := ⟨_, rfl⟩
  have hshape : bytes = 0xA5#8 :: kind :: head.tag :: BitVec.ofNat 8 ((BitVec.ofNat 16 payload.length).toNat / 256)
      :: BitVec.ofNat 8 (BitVec.ofNat 16 payload.length).toNat :: (payload ++ [(head.crc >>> 8).setWidth 8, lowByte head.crc]) := by
    rw [hbytes, frameBefore, be16_eq]; simp
  have hlen : bytes.length = payload.length + 7 := by rw [hshape]; simp
  have hheld : heldLength bytes = payload.length := by
    rw [heldLength_eq (high := BitVec.ofNat 8 ((BitVec.ofNat 16 payload.length).toNat / 256))
      (low := BitVec.ofNat 8 (BitVec.ofNat 16 payload.length).toNat) (by rw [hshape]; rfl) (by rw [hshape]; rfl)]
    simp only [BitVec.toNat_ofNat]
    omega
  have hpayload : (bytes.drop 5).take payload.length = payload := by rw [hshape]; simp
  have hcrc : BitVec.ofNat 16 (beNat ((bytes.drop (5 + payload.length)).take 2)) = head.crc := by
    have rest : (bytes.drop (5 + payload.length)).take 2 = [(head.crc >>> 8).setWidth 8, lowByte head.crc] := by
      rw [hshape, Nat.add_comm]; simp
    rw [rest]
    apply BitVec.eq_of_toNat_eq
    have := head.crc.isLt
    simp [beNat, lowByte, Nat.shiftRight_eq_div_pow]
    omega
  simp only [takeByte, hp, ← hbytes]
  unfold appendByte
  rw [if_neg (by omega), if_pos (by omega), judgeFrameBytes]
  simp only [hheld, hpayload, hcrc]
  rw [hshape]
  rfl

theorem exec_requestByte_completes {kind : Byte} {head : ReqHead} {payload : List Byte} (hfits : payload.length ≤ 1024) {s : State}
    (hp : s.link.partialReq = some (frameBefore kind head payload)) :
    exec (.requestByte (lowByte head.crc)) s = .next (completeRequest kind head payload s) :=
  congrArg _ (clocked_congr fun run => takeByte_completes (u := s.setLink { s.link with ffRun := run }) hfits hp)

/-! ### What a complete request meets first (R164 steps 1 and 2) -/

section
variable {kind : Byte} {head : ReqHead} {payload : List Byte} {s : State}

theorem judgeRequest_idle {tag : Byte} {crc : BitVec 16} (h : s.link.busy = none) : judgeRequest kind tag payload crc s =
    if requestCrc kind tag payload = crc then judgeKind kind tag payload s else refuseCrc s := by
  unfold judgeRequest
  rw [h]

theorem completeRequest_busy (h : Receives (lowByte head.crc) s) (hbusy : s.link.busy ≠ none) :
    completeRequest kind head payload s =
      { s with
        link :=
          { s.link with
            partialReq := none
            partialDeadline := none
            ffRun := runAfter (lowByte head.crc) s
            busyDrop := true
            counters := { s.link.counters with busyDrops := satInc s.link.counters.busyDrops } } } := by
  obtain ⟨tag, htag⟩ := Option.ne_none_iff_exists'.mp hbusy
  rw [completeRequest, clocked_of_receives h]
  simp only [judgeRequest, dropPartial, State.setLink_link, htag]
  rfl

theorem completeRequest_crc (h : Receives (lowByte head.crc) s) (hidle : s.link.busy = none)
    (hcrc : head.crc ≠ requestCrc kind head.tag payload) :
    let t := completeRequest kind head payload s
    t.link =
        { s.link with
          partialReq := none
          partialDeadline := none
          ffRun := runAfter (lowByte head.crc) s
          holder := some ⟨0, 0, 8, summaryAfter s t, []⟩
          busyDrop := false
          counters := { s.link.counters with crcFailures := satInc s.link.counters.crcFailures } }
      ∧ LinkErrorRaised s t s.timebase
      ∧ AnswerTouches [.faultSets, .queue] s t := by
  obtain ⟨u, hu⟩ : ∃ u, u = (received head s).setLinkCounters
    { s.link.counters with crcFailures := satInc s.link.counters.crcFailures } := ⟨_, rfl⟩
  intro t
  have run : t = formReply 0 0 .badCrc [] (raiseEvent .hostLinkError u) := by
    show completeRequest kind head payload s = _
    rw [completeRequest, clocked_of_receives h, hu]
    refine (judgeRequest_idle ?_).trans (if_neg fun he => hcrc he.symm)
    exact hidle
  have linkU : u.link = { s.link with
      partialReq := none
      partialDeadline := none
      ffRun := runAfter (lowByte head.crc) s
      counters := { s.link.counters with crcFailures := satInc s.link.counters.crcFailures } } := by rw [hu]; rfl
  have linkW : (raiseEvent .hostLinkError u).link = u.link := raiseEvent_link _ _
  have frameU : Unchanged answerParts s u := by
    rw [hu]
    exact (unchanged_received head s).trans (unchanged_setLink (received head s) _ rfl rfl)
  obtain ⟨-, hreading, -⟩ := h
  rw [run]
  refine ⟨?_, ?_, ((frameU.mono (by simp)).trans ((unchanged_raiseEvent u .hostLinkError).mono (by simp))).trans
    ((unchanged_formReply _ _ _ _ _).mono (by simp))⟩
  · rw [summaryAfter_formReply (by rw [linkW, linkU]), formReply_link, linkW, linkU]
    simp only [hreading, Option.map_none]
    rfl
  · have raised : LinkErrorRaised s (raiseEvent .hostLinkError u) u.timebase := linkErrorRaised_of (by rw [hu]; rfl) (by rw [hu]; rfl)
    rw [show u.timebase = s.timebase by rw [hu]; rfl] at raised
    exact raised

/-- A request that its kind, its length or its group refuses before it is taken. -/
theorem answered_refuse_untaken {payload : List Byte} (h : Reaches kind head payload s) (r : Result) :
    Answered false true kind head r.code [] s (refuse kind head.tag r (received head s))
      ∧ Unchanged answerParts s (refuse kind head.tag r (received head s)) := by
  refine ⟨?_, (unchanged_received head s).trans (unchanged_refuseWith _ _ _ _ _)⟩
  unfold refuse refuseWith
  exact answered_of rfl (reading_none h) r rfl

end

/-- Settles O47: every request command is its completing byte. -/
theorem requestsMeetTheLinkFirst : Obligations.RequestsMeetTheLinkFirst := by
  intro c kind head payload s hc hwf
  have run := exec_request hc hwf s
  refine ⟨fun h => ?_, fun h hr => ?_, fun h hr hb hrun => ?_, fun h hbusy => ?_, fun h hidle hcrc => ?_⟩
  · rw [run, completeRequest, clocked_off _ h]
  · obtain ⟨r, hr⟩ := Option.ne_none_iff_exists'.mp hr
    rw [run, completeRequest, clocked_reading _ h hr]
    exact congrArg _ (clocked_reading _ h hr).symm
  · rw [run, completeRequest, clocked_reset _ h hr hb hrun, exec_linkReset h]
  · rw [run, completeRequest_busy h hbusy]
  · exact ⟨_, run, completeRequest_crc h hidle hcrc⟩

/-! ### Overlong requests (R161) -/

section
variable {kind tag : Byte} {length : BitVec 16} {s : State}

theorem exec_overlong (h : 1024 < length.toNat) :
    exec (.overlongRequest kind tag length) s = .next (clocked (lowByte length) (endOverlong kind tag) s) :=
  if_pos (by simpa [wellFormedOverlong] using h)

theorem endOverlong_busy (h : Receives (lowByte length) s) (hbusy : s.link.busy ≠ none) :
    clocked (lowByte length) (endOverlong kind tag) s =
      { s with
        link :=
          { s.link with
            partialReq := none
            partialDeadline := none
            ffRun := runAfter (lowByte length) s
            busyDrop := true
            counters := { s.link.counters with busyDrops := satInc s.link.counters.busyDrops } } } := by
  obtain ⟨held, hheld⟩ := Option.ne_none_iff_exists'.mp hbusy
  rw [clocked_of_receives h]
  simp only [endOverlong, dropPartial, State.setLink_link, hheld]
  rfl

theorem endOverlong_idle (h : s.link.busy = none) : endOverlong kind tag s =
    formReply kind tag .badLength [] (raiseEvent .hostLinkError (countFraming (dropPartial s))) := by
  unfold endOverlong
  simp only [dropPartial, State.setLink_link]
  rw [h]

theorem endOverlong_answered (h : Receives (lowByte length) s) (hidle : s.link.busy = none) :
    let t := clocked (lowByte length) (endOverlong kind tag) s
    t.link =
        { s.link with
          partialReq := none
          partialDeadline := none
          ffRun := runAfter (lowByte length) s
          holder := some ⟨kind, tag, 6, summaryAfter s t, []⟩
          busyDrop := false
          counters := { s.link.counters with framingErrors := satInc s.link.counters.framingErrors } }
      ∧ LinkErrorRaised s t s.timebase
      ∧ AnswerTouches [.faultSets, .queue] s t := by
  obtain ⟨u, hu⟩ : ∃ u, u = s.setLink
      { s.link with
        partialReq := none
        partialDeadline := none
        ffRun := runAfter (lowByte length) s
        counters := { s.link.counters with framingErrors := satInc s.link.counters.framingErrors } } := ⟨_, rfl⟩
  intro t
  have run : t = formReply kind tag .badLength [] (raiseEvent .hostLinkError u) := by
    show clocked (lowByte length) (endOverlong kind tag) s = _
    rw [clocked_of_receives h, hu]
    refine endOverlong_idle ?_
    exact hidle
  have linkW : (raiseEvent .hostLinkError u).link = u.link := raiseEvent_link _ _
  have frameU : Unchanged answerParts s u := by rw [hu]; exact unchanged_setLink s _ rfl rfl
  obtain ⟨-, hreading, -⟩ := h
  rw [run]
  refine ⟨?_, ?_, ((frameU.mono (by simp)).trans ((unchanged_raiseEvent u .hostLinkError).mono (by simp))).trans
    ((unchanged_formReply _ _ _ _ _).mono (by simp))⟩
  · rw [summaryAfter_formReply (by rw [linkW, hu, State.setLink_link]), formReply_link, linkW, hu]
    simp only [State.setLink_link, hreading, Option.map_none]
    rfl
  · have raised : LinkErrorRaised s (raiseEvent .hostLinkError u) u.timebase := linkErrorRaised_of (by rw [hu]; rfl) (by rw [hu]; rfl)
    rw [show u.timebase = s.timebase by rw [hu]; rfl] at raised
    exact raised

/-- The low length byte of an overlong request. -/
theorem takeByte_overlong (h : 1024 < length.toNat) {u : State}
    (hp : u.link.partialReq = some [0xA5, kind, tag, (length >>> 8).setWidth 8]) :
    takeByte (lowByte length) u = endOverlong kind tag u := by
  have hheld : heldLength ([0xA5, kind, tag, (length >>> 8).setWidth 8] ++ [lowByte length]) = length.toNat := by
    rw [heldLength_eq (high := (length >>> 8).setWidth 8) (low := lowByte length) rfl rfl]
    have := length.isLt
    simp [lowByte, Nat.shiftRight_eq_div_pow]
    omega
  simp only [takeByte, hp]
  unfold appendByte
  rw [if_pos ⟨rfl, by omega⟩]
  rfl

end

/-- Commands whose operands no link carries (log entry 27). -/
theorem exec_of_malformed {c : Instr} (h : c.wellFormed = false) (s : State) : exec c s = .fault .malformed := by
  have malformed {b : Bool} (hb : b = false) (o : Host.Outcome State Fault Refusal) :
      (if b then o else .fault .malformed) = Host.Outcome.fault Fault.malformed := if_neg (by simp [hb])
  cases c with
  | sensorLine => exact malformed h _
  | monitorReply => exact malformed h _
  | overlongRequest => exact malformed h _
  | unknownKindRequest => exact malformed h _
  | set => exact malformed h _
  | ctxLoad => exact malformed h _
  | monitor => exact malformed h _
  | _ => exact absurd h (by simp [Instr.wellFormed])

/-- Settles O46: the byte that completes a frame, and the frames that no row spells. -/
theorem lastByteCompletesTheRequest : Obligations.LastByteCompletesTheRequest := by
  refine ⟨fun c kind head payload s hc hwf hp => ?_, fun kind tag length s hlong hp => ?_, fun kind head payload s hfits h hp => ⟨fun hl => ?_,
    fun ha => ?_⟩, fun head kind payload s hk hfits h => ?_, fun kind tag length s => ⟨fun hlong h hidle => ?_, fun hlong h hbusy => ?_,
    fun hshort => ?_, fun c h => exec_of_malformed h s⟩⟩
  · rw [exec_request hc hwf s, exec_requestByte_completes (requestOf_length hc hwf) hp]
  · rw [exec_overlong hlong]
    exact congrArg _ (clocked_congr fun run => takeByte_overlong (u := s.setLink { s.link with ffRun := run }) hlong hp)
  · obtain ⟨k, rfl, hu⟩ := unsuited_of_lengthUnsuited hl
    exact ⟨_, exec_of_unsuited (exec_requestByte_completes hfits hp) h hu, answered_refuse_untaken h .badLength⟩
  · obtain ⟨k, rfl⟩ := kind_of_known (known_of_fixedLength ha.1)
    refine ⟨_, exec_of_suited (exec_requestByte_completes hfits hp) h (unsuited_none_of_fixedLength ha.1), ?_⟩
    rw [carryOut_of_argumentUnknown ha]
    exact refused_refuse h .badArgument
  · have run : exec (.unknownKindRequest head kind payload) s = .next (completeRequest kind head payload s) :=
      exec_request rfl (by simpa [Instr.wellFormed, payloadFits, hk] using hfits) s
    have judged : completeRequest kind head payload s = refuse kind head.tag .badKind (received head s) := by
      rw [completeRequest_of_reaches h]
      simp only [judgeKind, kindOf_unknown hk]
      rfl
    exact ⟨_, by rw [run, judged], answered_refuse_untaken h .badKind⟩
  · exact ⟨_, exec_overlong hlong, endOverlong_answered h hidle⟩
  · rw [exec_overlong hlong, endOverlong_busy h hbusy]
  · exact exec_of_malformed (by simpa [Instr.wellFormed, wellFormedOverlong] using hshort) s

end Sys2Proof.Proofs.WholeRequests
end

section
set_option Elab.async false
/-! The requests of the overlay list, the supervisor, the report queue and the monitor queue (R84, R110, R123 to R127, R135; O52, O53, O54,
O58). -/

namespace Sys2Proof.Proofs.PlainRequests

open Sys2Proof Sys2Proof.Machine Sys2Proof.Proofs.ImageDevelopment Sys2Proof.Proofs.SavesEnd Sys2Proof.Proofs.Answers
  Sys2Proof.Proofs.WholeRequests

/-! ### Sides and words -/

theorem sideOf_code {b : Byte} {sd : Side} (h : b.toNat = sideCode sd) : sideOf b = some sd := by
  cases sd
  · rw [show b = 0 from BitVec.eq_of_toNat_eq h]; rfl
  · rw [show b = 1 from BitVec.eq_of_toNat_eq h]; rfl

theorem sideOf_beyond {b : Byte} (h : 1 < b.toNat) : sideOf b = none := by
  have apart (a : Byte) (ha : a.toNat ≤ 1) : b ≠ a := fun he => by rw [he] at h; omega
  rw [sideOf, if_neg (apart 0 (by decide)), if_neg (apart 1 (by decide))]

theorem side_of_le {b : Byte} (h : b.toNat ≤ 1) : ∃ sd, b.toNat = sideCode sd := by
  rcases Nat.le_one_iff_eq_zero_or_eq_one.mp h with h | h
  · exact ⟨.left, h⟩
  · exact ⟨.right, h⟩

theorem beNat_be16 (w : BitVec 16) : beNat (be16 w) = w.toNat := beNat_beBytes w.isLt

/-! ### MONITOR (R110) -/

/-- Settles O58: the length before the display, the display before the queue. -/
theorem monitorRequestsQueueTheirBytes : Obligations.MonitorRequestsQueueTheirBytes := by
  intro head display bytes s hfits h
  have run : exec (.monitor head display bytes) s = .next (completeRequest Kind.monitor.code head (display :: bytes) s) :=
    exec_request rfl (by simpa [Instr.wellFormed, payloadFits] using by omega) s
  have suits (h₁ : 1 ≤ bytes.length) (h₂ : bytes.length ≤ 32) : unsuited .monitor (display :: bytes) = none :=
    if_pos (by simpa using by omega)
  refine ⟨_, run, fun hlen => ?_, fun h₁ h₂ hside => ?_, fun h₁ h₂ sd hside => ⟨fun hfull => ?_, fun hroom => ?_⟩⟩
  · rw [completeRequest_of_unsuited (k := .monitor) (why := .badLength) h (if_neg (by simpa using by omega))]
    exact answered_refuse_untaken h .badLength
  · rw [completeRequest_of_suited (k := .monitor) h (suits h₁ h₂)]
    simp only [carryOut, takeMonitor, List.getD_cons_zero, sideOf_beyond hside]
    exact refused_refuse (k := .monitor) h .badArgument
  · rw [completeRequest_of_suited (k := .monitor) h (suits h₁ h₂)]
    simp only [carryOut, takeMonitor, List.getD_cons_zero, sideOf_code hside]
    rw [if_neg (show ¬((taken head s).display sd).outQueue.length < 4 from Nat.not_lt.mpr hfull)]
    exact refused_refuse (k := .monitor) h .refusedFull
  · rw [completeRequest_of_suited (k := .monitor) h (suits h₁ h₂)]
    simp only [carryOut, takeMonitor, List.getD_cons_zero, sideOf_code hside]
    rw [if_pos (show ((taken head s).display sd).outQueue.length < 4 from hroom)]
    exact ⟨Sides.get_set_same .., replied_of (k := .monitor) h .ok rfl, answerTouches_of (unchanged_setDisplay _ sd _)⟩

/-! ### OVERLAY (R84) -/

section
variable (display id : Byte) (row x0 x1 : BitVec 16) (thickness palette : Byte)

theorem overlayOf_payload (operation : Byte) : overlayOf (overlayPayload operation display id row x0 x1 thickness palette)
    = ⟨id.toNat, row.toNat, x0.toNat, x1.toNat, thickness.toNat, palette.toNat⟩ := by
  have hrow := row.isLt
  have hx0 := x0.isLt
  have hx1 := x1.isLt
  simp [overlayOf, overlayPayload, be16_eq, beNat]
  omega

theorem overlay_ok_iff : (⟨id.toNat, row.toNat, x0.toNat, x1.toNat, thickness.toNat, palette.toNat⟩ : Overlay).ok = true
    ↔ row.toNat ≤ 2047 ∧ x0.toNat ≤ 2047 ∧ x1.toNat ≤ 2047 ∧ x0.toNat ≤ x1.toNat ∧ 1 ≤ thickness.toNat ∧ thickness.toNat ≤ 8
      ∧ palette.toNat ≤ 3 := by
  simp [Overlay.ok, and_assoc]

theorem putOverlay_replaces {before after : List Overlay} {old item : Overlay} (hold : old.id = item.id)
    (hothers : ∀ o ∈ before ++ after, o.id ≠ item.id) : putOverlay (before ++ old :: after) item = before ++ item :: after := by
  have kept (l : List Overlay) (hl : ∀ o ∈ l, o ∈ before ++ after) : (l.map fun x => if x.id = item.id then item else x) = l := by
    rw [List.map_congr_left fun o ho => if_neg (hothers o (hl o ho)), List.map_id']
  rw [putOverlay, if_pos (by simp [hold]), List.map_append, List.map_cons, if_pos hold, kept before (by simp +contextual),
    kept after (by simp +contextual)]

theorem putOverlay_appends {l : List Overlay} {item : Overlay} (h : ∀ o ∈ l, o.id ≠ item.id) : putOverlay l item = l ++ [item] :=
  if_neg (by simpa using h)

end

/-- What an OVERLAY does at a display that it names. -/
theorem carryOut_overlay {sd : Side} {display id : Byte} {row x0 x1 : BitVec 16} {thickness palette : Byte} (operation : Byte) (tag : Byte)
    (u : State) (hside : display.toNat = sideCode sd) :
    carryOut .overlay tag (overlayPayload operation display id row x0 x1 thickness palette) u =
      if 7 < id.toNat then refuse Kind.overlay.code tag .badArgument u
      else if operation = 0 then
        if (⟨id.toNat, row.toNat, x0.toNat, x1.toNat, thickness.toNat, palette.toNat⟩ : Overlay).ok then
          editOverlays tag sd (putOverlay (u.comp sd).overlays
            ⟨id.toNat, row.toNat, x0.toNat, x1.toNat, thickness.toNat, palette.toNat⟩) u
        else refuse Kind.overlay.code tag .badArgument u
      else if operation = 1 then editOverlays tag sd (dropOverlay (u.comp sd).overlays id.toNat) u
      else refuse Kind.overlay.code tag .badArgument u := by
  have named : sideOf ((overlayPayload operation display id row x0 x1 thickness palette).getD 0 0) = some sd := sideOf_code hside
  simp only [carryOut, takeOverlay, named, overlayOf_payload]
  rfl

theorem carryOut_overlay_beyond {display id : Byte} {row x0 x1 : BitVec 16} {thickness palette : Byte} (operation : Byte) (tag : Byte)
    (u : State) (hside : 1 < display.toNat) :
    carryOut .overlay tag (overlayPayload operation display id row x0 x1 thickness palette) u
      = refuse Kind.overlay.code tag .badArgument u := by
  have unnamed : sideOf ((overlayPayload operation display id row x0 x1 thickness palette).getD 0 0) = none := sideOf_beyond hside
  simp only [carryOut, takeOverlay, unnamed]

/-- Settles O52: what an item does to the list, and what is refused. -/
theorem overlayRequestsEditTheList : Obligations.OverlayRequestsEditTheList := by
  intro head display id row x0 x1 thickness palette s item
  refine ⟨fun h => ⟨_, exec_of_suited (k := .overlay) rfl h rfl, fun haccepted sd hside => ?_, fun hrefused => ?_⟩,
    fun h => ⟨_, exec_of_suited (k := .overlay) rfl h rfl, fun hid sd hside => ?_, fun hrefused => ?_⟩⟩
  · obtain ⟨hdisplay, hid, hvalues⟩ := haccepted
    have accepted : item.ok = true := (overlay_ok_iff id row x0 x1 thickness palette).mpr hvalues
    rw [carryOut_overlay 0 head.tag (taken head s) hside, if_neg (by omega), if_pos rfl, if_pos accepted]
    refine ⟨replied_of (k := .overlay) h .ok rfl, answerTouches_of (unchanged_setComp _ sd _),
      fun before old after hl hold hothers => ?_, fun hnone => ?_⟩
    · refine (Sides.get_set_same ..).trans ?_
      have put : putOverlay ((taken head s).comp sd).overlays item = before ++ item :: after :=
        (congrArg (putOverlay · item) hl).trans (putOverlay_replaces hold hothers)
      rw [put]
      rfl
    · refine (Sides.get_set_same ..).trans ?_
      have put : putOverlay ((taken head s).comp sd).overlays item = (s.comp sd).overlays ++ [item] := putOverlay_appends hnone
      rw [put]
      rfl
  · by_cases hside : 1 < display.toNat
    · rw [carryOut_overlay_beyond 0 head.tag (taken head s) hside]
      exact refused_refuse (k := .overlay) h .badArgument
    · obtain ⟨sd, hsd⟩ := side_of_le (Nat.not_lt.mp hside)
      rw [carryOut_overlay 0 head.tag (taken head s) hsd]
      by_cases hid : 7 < id.toNat
      · rw [if_pos hid]
        exact refused_refuse (k := .overlay) h .badArgument
      · have bad : ¬item.ok = true := fun hok =>
          hrefused ⟨Nat.not_lt.mp hside, Nat.not_lt.mp hid, (overlay_ok_iff id row x0 x1 thickness palette).mp hok⟩
        rw [if_neg hid, if_pos rfl, if_neg bad]
        exact refused_refuse (k := .overlay) h .badArgument
  · rw [carryOut_overlay 1 head.tag (taken head s) hside, if_neg (by omega), if_neg (by decide), if_pos rfl]
    exact ⟨replied_of (k := .overlay) h .ok rfl, Sides.get_set_same .., answerTouches_of (unchanged_setComp _ sd _)⟩
  · by_cases hside : 1 < display.toNat
    · rw [carryOut_overlay_beyond 1 head.tag (taken head s) hside]
      exact refused_refuse (k := .overlay) h .badArgument
    · obtain ⟨sd, hsd⟩ := side_of_le (Nat.not_lt.mp hside)
      rw [carryOut_overlay 1 head.tag (taken head s) hsd, if_pos (hrefused.resolve_left hside)]
      exact refused_refuse (k := .overlay) h .badArgument

/-! ### COLLECT (R135) -/

/-- Settles O54: the oldest entries go into the reply, and ATTN is judged on the rest. -/
theorem collectReturnsTheOldestEntries : Obligations.CollectReturnsTheOldestEntries := by
  intro head n s h
  refine ⟨_, exec_of_suited (k := .collect) rfl h rfl, fun h₁ h₂ => ?_, fun hbad => ?_⟩
  · have carried : carryOut .collect head.tag [n] (taken head s) = formReply Kind.collect.code head.tag .ok
        (BitVec.ofNat 8 (min n.toNat s.queue.entries.length) :: (s.queue.entries.take n.toNat).flatMap Entry.bytes)
        (collectEntries n.toNat (taken head s)) := by
      refine (if_neg (by simp; omega)).trans ?_
      rw [byte1, beBytes_one]
      simp
      rfl
    rw [carried]
    refine ⟨rfl, rfl, ?_, replied_of (k := .collect) h .ok rfl, answerTouches_of (unchanged_setQueue _ _)⟩
    show attnLevel s.faults.group.attentionThreshold (s.queue.entries.drop n.toNat) = true
      ↔ ∃ e ∈ s.queue.entries.drop n.toNat, e.report.isOverrun = true ∨ s.faults.group.attentionThreshold ≤ e.report.urgency
    simp [attnLevel, -List.mem_drop_iff_getElem]
  · have refused : carryOut .collect head.tag [n] (taken head s) = refuse Kind.collect.code head.tag .badArgument (taken head s) :=
      if_pos hbad
    rw [refused]
    exact refused_refuse (k := .collect) h .badArgument

/-! ### FAULTCTL and LOCK (R123 to R127) -/

/-- Posts that depend on the supervisor alone. -/
theorem foldl_report_eq (p : Faults → FaultId → Bool) (l : List FaultId) (s : State) :
    l.foldl (fun s f => if p s.faults f then s.report (.faultRaised f true) else s) s
      = s.setQueue (queueAfter s s.timebase ((l.filter (p s.faults)).map fun f => .faultRaised f true)) := by
  induction l generalizing s with
  | nil => rfl
  | cons f l ih =>
    rw [List.foldl_cons, ih]
    by_cases h : p s.faults f
    · rw [if_pos h, List.filter_cons_of_pos h]; rfl
    · rw [if_neg h, List.filter_cons_of_neg h]

theorem postUnmasked_eq (old : ClassSet) (s : State) : postUnmasked old s = s.setQueue (queueAfter s s.timebase
    ((FaultId.all.filter fun f => ClassSet.has old f.cls && s.faults.unmasked f && FaultSet.has s.faults.current f).map
      fun f => .faultRaised f true)) :=
  foldl_report_eq (fun x f => ClassSet.has old f.cls && x.unmasked f && FaultSet.has x.current f) FaultId.all s

section
variable (presence values : BitVec 16) (clear : BitVec 64)

/-- The three words of a FAULTCTL payload read back. -/
theorem faultctl_words :
    let payload := be16 presence ++ be16 values ++ be64 clear
    BitVec.ofNat 16 (beNat (payload.take 2)) = presence ∧ BitVec.ofNat 16 (beNat ((payload.drop 2).take 2)) = values
      ∧ BitVec.ofNat 64 (beNat ((payload.drop 4).take 8)) = clear := by
  intro payload
  have first : payload.take 2 = be16 presence := by simp [payload, be16_eq]
  have second : (payload.drop 2).take 2 = be16 values := by simp [payload, be16_eq]
  have third : (payload.drop 4).take 8 = be64 clear := by
    have rest : payload.drop 4 = be64 clear := by simp [payload, be16_eq]
    rw [rest, List.take_of_length_le (by simp [be64, beBytes_length])]
  rw [first, second, third, beNat_be16, beNat_be16, be64, beNat_beBytes clear.isLt]
  simp

theorem carryOut_faultctl (tag : Byte) (u : State) : carryOut .faultctl tag (be16 presence ++ be16 values ++ be64 clear) u =
    if faultctlBad presence values clear then refuse Kind.faultctl.code tag .badArgument u
    else if u.faults.locked ∧ writtenMasks u.faults.masks presence values ≠ u.faults.masks then
      refuse Kind.faultctl.code tag .refusedLocked u
    else
      let w := controlFaults presence values clear u
      formReply Kind.faultctl.code tag (adjusted (presence &&& ClassSet.unmaskable ≠ 0 || keptSet clear u ≠ 0))
        (be16 w.faults.masks ++ be16 (presence &&& ClassSet.unmaskable) ++ be64 (keptSet clear u)) w := by
  obtain ⟨first, second, third⟩ := faultctl_words presence values clear
  simp only [carryOut, takeFaultctl, first, second, third]

theorem faultctlBad_iff : faultctlBad presence values clear = true
    ↔ 0x1FFF < presence.toNat ∨ 0x1FFF < values.toNat ∨ clear &&& ~~~FaultSet.every ≠ 0 := by
  simp [faultctlBad, or_assoc]

/-- A FAULTCTL that is carried out, in one step. -/
theorem controlFaults_eq (u : State) :
    let masks := writtenMasks u.faults.masks presence values
    controlFaults presence values clear u =
      { u with
        faults := { u.faults with masks := masks, accrued := u.faults.accrued &&& ~~~(clear &&& ~~~u.faults.current) }
        queue := queueAfter u u.timebase
          ((FaultId.all.filter fun f =>
              u.faults.masks.getLsbD (f.cls - 1) && !masks.getLsbD (f.cls - 1) && FaultSet.has u.faults.current f).map
            fun f => .faultRaised f true) } := by
  simp only [controlFaults, postUnmasked_eq]
  rfl

end

theorem unchanged_lock (u : State) : Unchanged [.lock] u (u.setFaults { u.faults with locked := true }) := by
  intro p hp; cases p <;> first | rfl | simp_all [Part.same]

theorem adjusted_code (b : Bool) : (adjusted b).code = if b then 1 else 0 := by cases b <;> rfl

/-- Settles O53: a FAULTCTL refused, under the lock, or carried out in the order masks, posts, clear set; and LOCK. -/
theorem faultctlAndLockActOnTheSupervisor : Obligations.FaultctlAndLockActOnTheSupervisor := by
  intro head presence values clear s named masks ignored kept bad
  refine ⟨fun h => ⟨_, exec_of_suited (k := .faultctl) rfl h rfl, fun hbad => ?_, fun hgood hlocked hchange => ?_,
    fun hgood hfree => ?_⟩, fun h => ?_⟩
  · rw [carryOut_faultctl, if_pos ((faultctlBad_iff ..).mpr hbad)]
    exact refused_refuse (k := .faultctl) h .badArgument
  · rw [carryOut_faultctl, if_neg fun hb => hgood ((faultctlBad_iff ..).mp hb),
      if_pos (show (taken head s).faults.locked = true
        ∧ writtenMasks (taken head s).faults.masks presence values ≠ (taken head s).faults.masks from ⟨hlocked, hchange⟩)]
    exact refused_refuse (k := .faultctl) h .refusedLocked
  · have free : ¬((taken head s).faults.locked = true
        ∧ writtenMasks (taken head s).faults.masks presence values ≠ (taken head s).faults.masks) := by
      rintro ⟨hl, hm⟩
      rcases hfree with hu | hsame
      · exact absurd (hu.symm.trans hl) (by simp)
      · exact hm hsame
    rw [carryOut_faultctl, if_neg fun hb => hgood ((faultctlBad_iff ..).mp hb), if_neg free]
    obtain ⟨w, hw⟩ : ∃ w, w = controlFaults presence values clear (taken head s) := ⟨_, rfl⟩
    have effect := controlFaults_eq presence values clear (taken head s)
    have masksW : w.faults.masks = masks := by rw [hw, effect]; rfl
    have frame : Unchanged [.faultSets, .masks, .queue] (taken head s) w := by
      rw [hw, effect]
      intro p hp; cases p <;> first | rfl | simp_all [Part.same]
    simp only
    rw [← hw, masksW]
    refine ⟨masksW, by show w.faults.current = _; rw [hw, effect]; rfl, by show w.faults.accrued = _; rw [hw, effect]; rfl,
      by show w.queue = _; rw [hw, effect]; rfl, ?_, answerTouches_of frame⟩
    have result : (adjusted (decide (presence &&& ClassSet.unmaskable ≠ 0) || decide (keptSet clear (taken head s) ≠ 0))).code
        = if ignored = 0 ∧ kept = 0 then 0 else 1 := by
      rw [adjusted_code]
      show (if decide (ignored ≠ 0) || decide (kept ≠ 0) then (1 : Byte) else 0) = _
      simp only [Bool.or_eq_true, decide_eq_true_eq]
      by_cases hz : ignored = 0 ∧ kept = 0
      · rw [if_pos hz, if_neg fun ho => not_and_or.mpr ho hz]
      · rw [if_neg hz, if_pos (not_and_or.mp hz)]
    rw [← result]
    exact replied_of (k := .faultctl) h _ (by rw [hw, effect])
  · exact ⟨_, exec_of_suited (k := .lock) rfl h rfl, rfl, replied_of (k := .lock) h .ok rfl, answerTouches_of (unchanged_lock _)⟩

end Sys2Proof.Proofs.PlainRequests
end

section
set_option Elab.async false
/-! DISPLAY on and off, and POWER PARK (R97, R101, R157; O59, O60). -/

namespace Sys2Proof.Proofs.DisplayAndPark

open Sys2Proof Sys2Proof.Machine Sys2Proof.Proofs.Blocks Sys2Proof.Proofs.MonitorLink Sys2Proof.Proofs.PathFailure
  Sys2Proof.Proofs.NightEvaluation Sys2Proof.Proofs.Answers Sys2Proof.Proofs.PlainRequests

/-! ### A display that becomes unwanted (R101) -/

theorem sleepLink_spec (sd : Side) (s : State) :
    let d := s.display sd
    (sleepLink sd s).display sd = { d with link := if d.link = .waking ∨ d.link = .synced then .hibernate else d.link }
      ∧ (sleepLink sd s).sent = s.sent ++ (if d.link = .waking ∨ d.link = .synced then [.sleepNotice sd] else []) := by
  intro d
  unfold sleepLink
  split
  · next h => simp [d, h, State.emit]
  · next h => simp [d, h, State.emit]
  · next h₁ h₂ =>
    have neither : ¬(d.link = .waking ∨ d.link = .synced) := by rintro (h | h) <;> contradiction
    simp only [if_neg neither, List.append_nil]
    exact ⟨rfl, trivial⟩

theorem becomeUnwanted_spec (sd : Side) (s : State) :
    let d := s.display sd
    let t := becomeUnwanted sd s
    t.display sd =
        { d with
          link := if d.link = .waking ∨ d.link = .synced then .hibernate else d.link
          state := .dark
          holdCount := if d.state = .dark then d.holdCount else 0
          wakeAttempt := 0
          wakeDeadline := none
          wakeRetry := none
          nextScan := none }
      ∧ t.sent = s.sent ++ (if d.link = .waking ∨ d.link = .synced then [.sleepNotice sd] else [])
      ∧ t.comp sd = { s.comp sd with blankRequest := if d.state = .blanked then false else (s.comp sd).blankRequest }
      ∧ t.runs sd = { s.runs sd with staleClear := if d.state = .dark then (s.runs sd).staleClear else 0 }
      ∧ t.queue = queueAfter s s.timebase (if d.state = .dark then [] else [.displayChanged sd d.state .dark])
      ∧ Unchanged [.display sd, .sent, .queue, .comp sd, .runs sd] s t := by
  intro d t
  obtain ⟨display, sent⟩ := sleepLink_spec sd s
  have slept := unchanged_sleepLink s sd
  obtain ⟨v, hv⟩ : ∃ v, v = (sleepLink sd s).setDisplay sd
    { (sleepLink sd s).display sd with wakeDeadline := none, wakeRetry := none, nextScan := none, wakeAttempt := 0 } := ⟨_, rfl⟩
  have frameV : Unchanged [.display sd, .sent] s v := by rw [hv]; exact slept.snoc (unchanged_setDisplay _ sd _)
  have displayV : v.display sd =
      { d with
        link := if d.link = .waking ∨ d.link = .synced then .hibernate else d.link
        wakeAttempt := 0
        wakeDeadline := none
        wakeRetry := none
        nextScan := none } := by
    rw [hv, State.setDisplay_display, display]
  have sentV : v.sent = s.sent ++ (if d.link = .waking ∨ d.link = .synced then [.sleepNotice sd] else []) := by rw [hv]; exact sent
  have run : t = moveDark sd v := by rw [hv]; rfl
  obtain ⟨displayT, compT, runsT, queueT, frameT⟩ := moveDark_spec sd v
  rw [← run] at displayT compT runsT queueT frameT
  rw [displayV] at displayT compT runsT queueT
  refine ⟨displayT, (frameT .sent (by simp)).trans sentV, ?_, ?_, ?_, (frameV.mono (by simp)).trans (frameT.mono (by simp))⟩
  · rw [compT, frameV (.comp sd) (by simp)]
  · rw [runsT, frameV (.runs sd) (by simp)]
  · rw [queueT, show v.timebase = s.timebase from frameV .timebase (by simp)]
    exact queueAfter_congr _ _ (frameV .queue (by simp)) (frameV .faultGroup (by simp))

/-! ### DISPLAY (R97) -/

section
variable (sd : Side) (u : State)

/-- A clear of one identity leaves the report of a clear of another. -/
theorem clearedReport_clearFault {f g : FaultId} (h : g ≠ f) : clearedReport g (clearFault f u) = clearedReport g u := by
  obtain ⟨current, -⟩ := clearFault_cleared f u
  have masks : (clearFault f u).faults.masks = u.faults.masks := unchanged_clearFault u f .masks (by simp)
  unfold clearedReport Faults.unmasked
  rw [current, has_erase, masks]
  simp [h]

/-- Three identities cleared one after another, and the match run (R97, R106). -/
theorem clearViewPath_spec :
    let t := clearViewPath sd u
    t.faults.current = FaultSet.erase (FaultSet.erase (FaultSet.erase u.faults.current (.viewStale sd)) (.displayLink sd)) (.displayPath sd)
      ∧ t.faults.accrued = u.faults.accrued
      ∧ t.runs sd = { u.runs sd with pathMatch := 0 }
      ∧ t.queue = queueAfter u u.timebase
          (clearedReport (.viewStale sd) u ++ clearedReport (.displayLink sd) u ++ clearedReport (.displayPath sd) u)
      ∧ Unchanged [.runs sd, .faultSets, .queue] u t := by
  obtain ⟨a, ha⟩ : ∃ a, a = clearFault (.viewStale sd) u := ⟨_, rfl⟩
  obtain ⟨b, hb⟩ : ∃ b, b = clearFault (.displayLink sd) a := ⟨_, rfl⟩
  obtain ⟨c, hc⟩ : ∃ c, c = clearFault (.displayPath sd) b := ⟨_, rfl⟩
  obtain ⟨currentA, accruedA⟩ := ha ▸ clearFault_cleared (.viewStale sd) u
  obtain ⟨currentB, accruedB⟩ := hb ▸ clearFault_cleared (.displayLink sd) a
  obtain ⟨currentC, accruedC⟩ := hc ▸ clearFault_cleared (.displayPath sd) b
  have frameA : Unchanged [.faultSets, .queue] u a := ha ▸ unchanged_clearFault u _
  have frameB : Unchanged [.faultSets, .queue] u b := frameA.trans (hb ▸ unchanged_clearFault a _)
  have frameC : Unchanged [.faultSets, .queue] u c := frameB.trans (hc ▸ unchanged_clearFault b _)
  intro t
  have run : t = c.setRuns sd { c.runs sd with pathMatch := 0 } := by rw [hc, hb, ha]; rfl
  rw [run]
  refine ⟨?_, ?_, ?_, ?_, (frameC.mono (by simp)).trans ((unchanged_setRuns c sd _).mono (by simp))⟩
  · show c.faults.current = _
    rw [currentC, currentB, currentA]
  · show c.faults.accrued = _
    rw [accruedC, accruedB, accruedA]
  · rw [State.setRuns_runs, show c.runs sd = u.runs sd from frameC (.runs sd) (by simp)]
  · have queueA : a.queue = queueAfter u u.timebase (clearedReport (.viewStale sd) u) := ha ▸ clearFault_queue _ u
    have queueB : b.queue = queueAfter u u.timebase (clearedReport (.viewStale sd) u ++ clearedReport (.displayLink sd) u) := by
      rw [hb, clearFault_queue, queueAfter_append, show a.timebase = u.timebase from frameA .timebase (by simp),
        show clearedReport (.displayLink sd) a = clearedReport (.displayLink sd) u from ha ▸ clearedReport_clearFault u (by simp)]
      exact queueAfter_congr _ _ queueA (frameA .faultGroup (by simp))
    have reported : clearedReport (.displayPath sd) b = clearedReport (.displayPath sd) u := by
      rw [hb, clearedReport_clearFault a (by simp), ha, clearedReport_clearFault u (by simp)]
    show c.queue = _
    rw [hc, clearFault_queue, queueAfter_append, show b.timebase = u.timebase from frameB .timebase (by simp), reported]
    exact queueAfter_congr _ _ queueB (frameB .faultGroup (by simp))

theorem enableDisplay_same {on : Bool} (h : (u.display sd).enabled = on) : enableDisplay sd on u = u := if_pos h

/-- A change of the enable alone. -/
theorem enableDisplay_asleep {on : Bool} (h : (u.display sd).enabled ≠ on) (hasleep : u.awake = false) :
    enableDisplay sd on u = u.setDisplay sd { u.display sd with enabled := on } := by
  unfold enableDisplay
  rw [if_neg h]
  exact if_neg (by rw [show (u.setDisplay sd { u.display sd with enabled := on }).awake = u.awake from rfl, hasleep]; simp)

theorem enableDisplay_on (h : (u.display sd).enabled = false) (hawake : u.awake = true) :
    enableDisplay sd true u = startWake sd (u.setDisplay sd { u.display sd with enabled := true }) := by
  unfold enableDisplay
  rw [if_neg (by rw [h]; simp)]
  exact (if_pos hawake).trans (if_pos rfl)

theorem enableDisplay_off (h : (u.display sd).enabled = true) (hawake : u.awake = true) :
    enableDisplay sd false u = clearViewPath sd (becomeUnwanted sd (u.setDisplay sd { u.display sd with enabled := false })) := by
  unfold enableDisplay
  rw [if_neg (by rw [h]; simp)]
  exact (if_pos hawake).trans (if_neg (by simp))

theorem startWake_other {v : State} (h : (v.display sd).link ≠ .hibernate) : startWake sd v = v := by
  unfold startWake; split
  · contradiction
  · rfl

theorem enableDisplay_link (on : Bool) : (enableDisplay sd on u).link = u.link := by
  have woken : Unchanged [.display sd, .sent, .queue, .comp sd, .runs sd, .faultSets] u (enableDisplay sd on u) := by
    unfold enableDisplay; split
    · exact .refl
    · have set := unchanged_setDisplay u sd { u.display sd with enabled := on }
      simp only; split
      · split
        · exact (set.mono (by simp)).trans ((unchanged_startWake _ sd).mono (by simp))
        · exact ((set.mono (by simp)).trans ((unchanged_becomeUnwanted _ sd).mono (by simp))).trans
            ((unchanged_clearViewPath _ sd).mono (by simp))
      · exact set.mono (by simp)
  exact link_of_unchanged woken

end

section
variable {display : Byte} {sd : Side}

theorem carryOut_display (argument : Byte) (hargument : argument.toNat ≤ 1) (tag : Byte) (u : State) (hside : display.toNat = sideCode sd) :
    carryOut .display tag [display, argument] u
      = formReply Kind.display.code tag .ok [] (enableDisplay sd (decide (argument = 1)) u) := by
  have named : sideOf (([display, argument] : List Byte).getD 0 0) = some sd := sideOf_code hside
  simp only [carryOut, takeDisplay, named]
  exact if_neg (by simpa using hargument)

theorem carryOut_display_beyond (argument tag : Byte) (u : State) (hside : 1 < display.toNat) :
    carryOut .display tag [display, argument] u = refuse Kind.display.code tag .badArgument u := by
  have unnamed : sideOf (([display, argument] : List Byte).getD 0 0) = none := sideOf_beyond hside
  simp only [carryOut, takeDisplay, unnamed]

end

/-- Settles O59: the enable, and what a change of it brings while awake. -/
theorem displayRequestsSetTheEnable : Obligations.DisplayRequestsSetTheEnable := by
  intro head display s
  refine ⟨fun h => ⟨_, exec_of_suited (k := .display) rfl h rfl, fun hside => ?_, fun sd hside => ?_⟩,
    fun h => ⟨_, exec_of_suited (k := .display) rfl h rfl, fun hside => ?_, fun sd hside => ?_⟩⟩
  · rw [carryOut_display_beyond 1 _ _ hside]
    exact refused_refuse (k := .display) h .badArgument
  · rw [carryOut_display 1 (by decide) _ _ hside]
    refine ⟨replied_of (k := .display) h .ok (enableDisplay_link ..), fun hon => ?_, fun hoff hstill => ?_, fun hoff hawake hlink => ?_⟩
    · rw [show enableDisplay sd (decide ((1 : Byte) = 1)) (taken head s) = taken head s from enableDisplay_same sd _ hon]
      exact (unchanged_taken head s).trans (unchanged_formReply _ _ _ _ _)
    · have effect : enableDisplay sd (decide ((1 : Byte) = 1)) (taken head s)
          = (taken head s).setDisplay sd { (taken head s).display sd with enabled := true } := by
        by_cases hawake : s.awake = true
        · refine (enableDisplay_on sd (taken head s) hoff hawake).trans (startWake_other sd ?_)
          rw [State.setDisplay_display]
          exact hstill.resolve_left (by simp [hawake])
        · exact enableDisplay_asleep sd (taken head s) (by rw [show ((taken head s).display sd).enabled = false from hoff]; simp)
            (show s.awake = false by simpa using hawake)
      rw [effect]
      exact ⟨Sides.get_set_same .., answerTouches_of (unchanged_setDisplay _ sd _)⟩
    · obtain ⟨v, hv⟩ : ∃ v, v = (taken head s).setDisplay sd { (taken head s).display sd with enabled := true } := ⟨_, rfl⟩
      have displayV : v.display sd = { s.display sd with enabled := true } := by rw [hv]; exact State.setDisplay_display ..
      have frameV : Unchanged [.display sd] (taken head s) v := hv ▸ unchanged_setDisplay _ sd _
      have effect : enableDisplay sd (decide ((1 : Byte) = 1)) (taken head s) = startWake sd v :=
        hv ▸ enableDisplay_on sd (taken head s) hoff hawake
      have woken := startWake_hibernate sd v (by rw [displayV]; exact hlink)
      rw [effect]
      refine ⟨?_, ?_, answerTouches_of ((frameV.mono (by simp)).trans (unchanged_startWake v sd))⟩
      · show (startWake sd v).display sd = _
        rw [woken]
        refine (Sides.get_set_same ..).trans ?_
        rw [displayV, show v.timebase = s.timebase from frameV .timebase (by simp)]
      · show (startWake sd v).sent = _
        rw [woken]
        exact congrArg (· ++ [Sent.wakeBurst sd]) (frameV .sent (by simp))
  · rw [carryOut_display_beyond 0 _ _ hside]
    exact refused_refuse (k := .display) h .badArgument
  · rw [carryOut_display 0 (by decide) _ _ hside]
    refine ⟨replied_of (k := .display) h .ok (enableDisplay_link ..), fun hoff => ?_, fun hon hasleep => ?_, fun hon hawake => ?_⟩
    · rw [show enableDisplay sd (decide ((0 : Byte) = 1)) (taken head s) = taken head s from enableDisplay_same sd _ hoff]
      exact (unchanged_taken head s).trans (unchanged_formReply _ _ _ _ _)
    · have effect : enableDisplay sd (decide ((0 : Byte) = 1)) (taken head s)
          = (taken head s).setDisplay sd { (taken head s).display sd with enabled := false } :=
        enableDisplay_asleep sd (taken head s) (by rw [show ((taken head s).display sd).enabled = true from hon]; simp) hasleep
      rw [effect]
      exact ⟨Sides.get_set_same .., answerTouches_of (unchanged_setDisplay _ sd _)⟩
    · obtain ⟨v, hv⟩ : ∃ v, v = (taken head s).setDisplay sd { (taken head s).display sd with enabled := false } := ⟨_, rfl⟩
      obtain ⟨w, hw⟩ : ∃ w, w = becomeUnwanted sd v := ⟨_, rfl⟩
      have effect : enableDisplay sd (decide ((0 : Byte) = 1)) (taken head s) = clearViewPath sd w := by
        rw [hw, hv]; exact enableDisplay_off sd (taken head s) hon hawake
      have displayV : v.display sd = { s.display sd with enabled := false } := by rw [hv]; exact State.setDisplay_display ..
      have frameV : Unchanged [.display sd] (taken head s) v := hv ▸ unchanged_setDisplay _ sd _
      obtain ⟨displayW, sentW, compW, runsW, queueW, frameW⟩ := becomeUnwanted_spec sd v
      rw [← hw] at displayW sentW compW runsW queueW frameW
      rw [displayV] at displayW sentW compW runsW queueW
      obtain ⟨current, accrued, runs, queue, frame⟩ := clearViewPath_spec sd w
      have toW : Unchanged [.display sd, .sent, .queue, .comp sd, .runs sd] (taken head s) w := (frameV.mono (by simp)).trans frameW
      obtain ⟨currentW, accruedW⟩ := toW .faultSets (by simp)
      have reports (f : FaultId) : clearedReport f w = clearedReport f s := by
        have masks : w.faults.masks = s.faults.masks := toW .masks (by simp)
        unfold clearedReport Faults.unmasked
        rw [currentW, masks]
        rfl
      rw [effect]
      refine ⟨?_, ?_, ?_, ?_, accrued.trans accruedW, ?_, ?_, answerTouches_of ((toW.mono (by simp)).trans (frame.mono (by simp)))⟩
      · exact (frame (.display sd) (by simp)).trans displayW
      · refine (frame .sent (by simp)).trans (sentW.trans ?_)
        rw [show v.sent = s.sent from frameV .sent (by simp)]
      · refine (frame (.comp sd) (by simp)).trans (compW.trans ?_)
        rw [show v.comp sd = s.comp sd from frameV (.comp sd) (by simp)]
      · exact current.trans (by rw [currentW]; rfl)
      · refine runs.trans ?_
        rw [runsW, show v.runs sd = s.runs sd from frameV (.runs sd) (by simp)]
      · refine queue.trans ?_
        rw [reports, reports, reports, show w.timebase = s.timebase from toW .timebase (by simp)]
        simp only [List.append_assoc]
        rw [queueAfter_append s]
        have groupW : w.faults.group = s.faults.group := toW .faultGroup (by simp)
        refine queueAfter_congr _ _ ?_ groupW
        rw [queueW, show v.timebase = s.timebase from frameV .timebase (by simp)]
        exact queueAfter_congr _ _ (frameV .queue (by simp)) (frameV .faultGroup (by simp))

/-! ### PARK (R157) -/

/-- The pipeline as the end of an abandoned composition leaves it, by the buffer that it read (R94). -/
def releasedBy (source : Option (BufName × Developed)) (p : Pipeline) : Pipeline :=
  match source with
  | some (n, _) => p.release n
  | none => p

/-- The pipeline with its work in flight abandoned (R36). -/
def abandonedPipe (p : Pipeline) : Pipeline := { p with dev := none, intake := none, bufA := p.bufA.abandon, bufB := p.bufB.abandon }

theorem releasedBy_besides (source : Option (BufName × Developed)) (p : Pipeline) :
    releasedBy source p = { p with bufA := (releasedBy source p).bufA, bufB := (releasedBy source p).bufB } := by
  match source with
  | none => rfl
  | some (n, _) =>
    simp only [releasedBy, Pipeline.release]
    split
    · cases n <;> rfl
    · rfl

theorem abandon_free {b : Buffer} (h : ∀ d, b ≠ .reading d) : b.abandon = .free := by
  cases b with
  | reading d => exact absurd rfl (h d)
  | _ => rfl

/-- With the buffer law both buffers are FREE after orders 3 and 4. -/
theorem released_free {source : Option (BufName × Developed)} {p : Pipeline} (h : ∀ n d, p.buf n = .reading d ↔ source = some (n, d)) :
    (releasedBy source (abandonedPipe p)).bufA = .free ∧ (releasedBy source (abandonedPipe p)).bufB = .free := by
  match source with
  | none => exact ⟨abandon_free fun d hd => by simpa using (h .a d).mp hd, abandon_free fun d hd => by simpa using (h .b d).mp hd⟩
  | some (.a, d) =>
    have read : p.bufA = .reading d := (h .a d).mpr rfl
    have kept : (Buffer.reading d).abandon = .reading d := rfl
    have other : p.bufB.abandon = .free := abandon_free fun d' hd => by simpa using (h .b d').mp hd
    simp [releasedBy, Pipeline.release, abandonedPipe, Pipeline.buf, Pipeline.setBuf, read, other, kept]
  | some (.b, d) =>
    have read : p.bufB = .reading d := (h .b d).mpr rfl
    have kept : (Buffer.reading d).abandon = .reading d := rfl
    have other : p.bufA.abandon = .free := abandon_free fun d' hd => by simpa using (h .a d').mp hd
    simp [releasedBy, Pipeline.release, abandonedPipe, Pipeline.buf, Pipeline.setBuf, read, other, kept]

section
variable (sd : Side) (s : State)

/-- Order 2 at one side (R7). -/
theorem haltPort_spec :
    let p := s.port sd
    let t := haltPort sd s
    (t.port sd).link = .down ∧ (p.link = .down → t.port sd = p)
      ∧ (p.link ≠ .down → t.port sd =
          { p with
            link := .down, inProgress := none, trainingDeadline := none, retrainTime := none, lossDeadline := none,
            lastExpose := none, outstanding := false, resendDone := false, unsettledRun := 0, lastCounter := none })
      ∧ t.sent = s.sent ++ (if p.link = .down then [] else [.halt sd])
      ∧ Unchanged [.port sd, .sent] s t := by
  intro p t
  by_cases h : p.link = .down
  · have stays : t = s := by
      simp only [t, haltPort]
      rw [show (s.port sd).link = .down from h]
    rw [stays, if_pos h]
    exact ⟨h, fun _ => rfl, fun hn => absurd h hn, by simp, .refl⟩
  · have halts : t = (s.emit (.halt sd)).setPort sd
        { p with
          link := .down, inProgress := none, trainingDeadline := none, retrainTime := none, lossDeadline := none,
          lastExpose := none, outstanding := false, resendDone := false, unsettledRun := 0, lastCounter := none } := by
      simp only [t, haltPort]
      split
      · contradiction
      · rfl
    rw [halts, if_neg h]
    refine ⟨by simp, fun hd => absurd hd h, fun _ => by simp, rfl, ?_⟩
    exact (Unchanged.refl.snoc (unchanged_emit s _)).snoc (unchanged_setPort _ sd _)

/-- Order 4 at one side (R94). -/
theorem abandonComposition_spec :
    let t := abandonComposition sd s
    t.comp sd = { s.comp sd with inFlight := none, blankRequest := false, panOffset := 0, panTarget := 0 }
      ∧ t.store sd = { s.store sd with slot0 := .free, slot1 := .free, slot2 := .free }
      ∧ t.pipe sd = releasedBy ((s.comp sd).inFlight.bind Composition.source) (s.pipe sd) := by
  have frame := unchanged_releaseTaken s sd
  refine ⟨?_, ?_, ?_⟩
  · simp [abandonComposition, show (releaseTaken sd s).comp sd = s.comp sd from frame (.comp sd) (by simp)]
  · simp [abandonComposition, FrameStore.mapSlots, show (releaseTaken sd s).store sd = s.store sd from frame (.store sd) (by simp)]
  · have taken : (abandonComposition sd s).pipe sd = (releaseTaken sd s).pipe sd := by simp [abandonComposition]
    rw [taken]
    unfold releaseTaken releasedBy
    rcases (s.comp sd).inFlight.bind Composition.source with _ | ⟨n, d⟩
    · rfl
    · exact State.setPipe_pipe ..

/-- Order 6 at one side (R101, R96). -/
theorem parkDisplay_spec :
    let d := s.display sd
    let t := parkDisplay sd s
    t.display sd =
        { d with
          link := if d.link = .off then .off else .hibernate
          state := .dark
          holdCount := if d.state = .dark then d.holdCount else 0
          nextScan := none, wakeRetry := none, wakeDeadline := none, wakeAttempt := 0, silence := 0 }
      ∧ t.sent = s.sent ++ (if d.link = .waking ∨ d.link = .synced then [.sleepNotice sd] else [])
      ∧ t.comp sd = { s.comp sd with blankRequest := if d.state = .blanked then false else (s.comp sd).blankRequest }
      ∧ t.queue = queueAfter s s.timebase (if d.state = .dark then [] else [.displayChanged sd d.state .dark])
      ∧ Unchanged [.display sd, .sent, .queue, .comp sd, .runs sd] s t := by
  intro d t
  obtain ⟨w, hw⟩ : ∃ w, w = becomeUnwanted sd s := ⟨_, rfl⟩
  obtain ⟨display, sent, comp, -, queue, frame⟩ := becomeUnwanted_spec sd s
  rw [← hw] at display sent comp queue frame
  have run : t = w.setDisplay sd { w.display sd with silence := 0 } := by rw [hw]; rfl
  have link : (if d.link = .waking ∨ d.link = .synced then MonitorLink.hibernate else d.link) = if d.link = .off then .off else .hibernate := by
    cases d.link <;> simp
  rw [run]
  refine ⟨?_, sent, comp, queue, (frame.mono (by simp)).trans ((unchanged_setDisplay w sd _).mono (by simp))⟩
  rw [State.setDisplay_display, display]
  simp only [link, d]

end

/-! ### The orders of PARK at both sides -/

section
variable (s : State)

/-- Order 2. -/
def portsHalted (s : State) : State := haltPort .right (haltPort .left s)

/-- Orders 3 and 4. -/
def workAbandoned (s : State) : State :=
  abandonComposition .right (abandonComposition .left (abandonDevelopment .right (abandonDevelopment .left s)))

/-- Order 6. -/
def displaysParked (s : State) : State := parkDisplay .right (parkDisplay .left s)

theorem park_eq : park s = emptyCurrent (displaysParked (stopNight (workAbandoned (portsHalted (changePower .parked s))))) := rfl

theorem portsHalted_spec :
    let t := portsHalted s
    (∀ sd, (t.port sd).link = .down
        ∧ ((s.port sd).link = .down → t.port sd = s.port sd)
        ∧ ((s.port sd).link ≠ .down →
            t.port sd =
              { s.port sd with
                link := .down, inProgress := none, trainingDeadline := none, retrainTime := none, lossDeadline := none,
                lastExpose := none, outstanding := false, resendDone := false, unsettledRun := 0, lastCounter := none }))
      ∧ t.sent = s.sent ++ (if (s.port .left).link = .down then [] else [.halt .left])
          ++ (if (s.port .right).link = .down then [] else [.halt .right])
      ∧ Unchanged [.port .left, .port .right, .sent] s t := by
  obtain ⟨downL, keptL, haltL, sentL, frameL⟩ := haltPort_spec .left s
  obtain ⟨u, hu⟩ : ∃ u, u = haltPort .left s := ⟨_, rfl⟩
  rw [← hu] at downL keptL haltL sentL frameL
  obtain ⟨downR, keptR, haltR, sentR, frameR⟩ := haltPort_spec .right u
  have portU : u.port .right = s.port .right := frameL (.port .right) (by simp)
  rw [portU] at keptR haltR sentR
  intro t
  have run : t = haltPort .right u := by rw [hu]; rfl
  rw [← run] at downR keptR haltR sentR frameR
  have portT : t.port .left = u.port .left := frameR (.port .left) (by simp)
  refine ⟨fun sd => ?_, by rw [sentR, sentL], (frameL.mono (by simp)).trans (frameR.mono (by simp))⟩
  cases sd with
  | left => rw [portT]; exact ⟨downL, keptL, haltL⟩
  | right => exact ⟨downR, keptR, haltR⟩

theorem workAbandoned_spec :
    let t := workAbandoned s
    (∀ sd, t.pipe sd = releasedBy ((s.comp sd).inFlight.bind Composition.source) (abandonedPipe (s.pipe sd))
        ∧ t.comp sd = { s.comp sd with inFlight := none, blankRequest := false, panOffset := 0, panTarget := 0 }
        ∧ t.store sd = { s.store sd with slot0 := .free, slot1 := .free, slot2 := .free })
      ∧ Unchanged [.pipe .left, .pipe .right, .comp .left, .comp .right, .store .left, .store .right] s t := by
  obtain ⟨u, hu⟩ : ∃ u, u = abandonDevelopment .right (abandonDevelopment .left s) := ⟨_, rfl⟩
  have frameU : Unchanged [.pipe .left, .pipe .right] s u := by
    rw [hu]
    exact ((unchanged_abandonDevelopment s .left).mono (by simp)).trans ((unchanged_abandonDevelopment _ .right).mono (by simp))
  have pipeU (sd : Side) : u.pipe sd = abandonedPipe (s.pipe sd) := by rw [hu]; cases sd <;> rfl
  obtain ⟨compL, storeL, pipeL⟩ := abandonComposition_spec .left u
  obtain ⟨v, hv⟩ : ∃ v, v = abandonComposition .left u := ⟨_, rfl⟩
  have frameV : Unchanged [.pipe .left, .comp .left, .store .left] u v := hv ▸ unchanged_abandonComposition u .left
  rw [← hv] at compL storeL pipeL
  obtain ⟨compR, storeR, pipeR⟩ := abandonComposition_spec .right v
  intro t
  have run : t = abandonComposition .right v := by rw [hv, hu]; rfl
  have frameT : Unchanged [.pipe .right, .comp .right, .store .right] v t := run ▸ unchanged_abandonComposition v .right
  rw [← run] at compR storeR pipeR
  refine ⟨fun sd => ?_, ((frameU.mono (by simp)).trans (frameV.mono (by simp))).trans (frameT.mono (by simp))⟩
  cases sd with
  | left =>
    rw [show t.pipe .left = v.pipe .left from frameT (.pipe .left) (by simp), show t.comp .left = v.comp .left from
      frameT (.comp .left) (by simp), show t.store .left = v.store .left from frameT (.store .left) (by simp), pipeL, compL, storeL,
      pipeU, show u.comp .left = s.comp .left from frameU (.comp .left) (by simp),
      show u.store .left = s.store .left from frameU (.store .left) (by simp)]
    exact ⟨rfl, rfl, rfl⟩
  | right =>
    rw [pipeR, compR, storeR, show v.pipe .right = u.pipe .right from frameV (.pipe .right) (by simp), show v.comp .right = s.comp .right from
      (frameV (.comp .right) (by simp)).trans (frameU (.comp .right) (by simp)), show v.store .right = s.store .right from
      (frameV (.store .right) (by simp)).trans (frameU (.store .right) (by simp)), pipeU]
    exact ⟨rfl, rfl, rfl⟩

theorem displaysParked_spec :
    let t := displaysParked s
    (∀ sd, t.display sd =
          { s.display sd with
            link := if (s.display sd).link = .off then .off else .hibernate
            state := .dark
            holdCount := if (s.display sd).state = .dark then (s.display sd).holdCount else 0
            nextScan := none, wakeRetry := none, wakeDeadline := none, wakeAttempt := 0, silence := 0 }
        ∧ t.comp sd =
          { s.comp sd with blankRequest := if (s.display sd).state = .blanked then false else (s.comp sd).blankRequest })
      ∧ t.sent = s.sent
          ++ (if (s.display .left).link = .waking ∨ (s.display .left).link = .synced then [.sleepNotice .left] else [])
          ++ (if (s.display .right).link = .waking ∨ (s.display .right).link = .synced then [.sleepNotice .right] else [])
      ∧ t.queue = queueAfter s s.timebase
          ((if (s.display .left).state = .dark then [] else [.displayChanged .left (s.display .left).state .dark])
            ++ (if (s.display .right).state = .dark then [] else [.displayChanged .right (s.display .right).state .dark]))
      ∧ Unchanged [.display .left, .display .right, .sent, .queue, .comp .left, .comp .right, .runs .left, .runs .right] s t := by
  obtain ⟨displayL, sentL, compL, queueL, frameL⟩ := parkDisplay_spec .left s
  obtain ⟨u, hu⟩ : ∃ u, u = parkDisplay .left s := ⟨_, rfl⟩
  rw [← hu] at displayL sentL compL queueL frameL
  obtain ⟨displayR, sentR, compR, queueR, frameR⟩ := parkDisplay_spec .right u
  have displayU : u.display .right = s.display .right := frameL (.display .right) (by simp)
  have compU : u.comp .right = s.comp .right := frameL (.comp .right) (by simp)
  have timeU : u.timebase = s.timebase := frameL .timebase (by simp)
  rw [displayU] at displayR sentR compR queueR
  rw [compU] at compR
  intro t
  have run : t = parkDisplay .right u := by rw [hu]; rfl
  rw [← run] at displayR sentR compR queueR frameR
  refine ⟨fun sd => ?_, by rw [sentR, sentL], ?_, (frameL.mono (by simp)).trans (frameR.mono (by simp))⟩
  · cases sd with
    | left =>
      rw [show t.display .left = u.display .left from frameR (.display .left) (by simp),
        show t.comp .left = u.comp .left from frameR (.comp .left) (by simp)]
      exact ⟨displayL, compL⟩
    | right => exact ⟨displayR, compR⟩
  · rw [queueR, queueAfter_append s, timeU]
    exact queueAfter_congr _ _ queueL (frameL .faultGroup (by simp))

end

/-- Order 7 touches the current set and the runs. -/
theorem unchanged_emptyCurrent (u : State) : Unchanged [.faultSets, .runs .left, .runs .right] u (emptyCurrent u) := by
  intro p hp
  cases p with
  | runs sd => cases sd <;> simp at hp
  | faultSets => simp at hp
  | _ => simp [Part.same, emptyCurrent]

/-- All that PARK leaves. -/
theorem park_spec (s : State) :
    let t := park s
    t.power = { s.power with state := .parked }
      ∧ (∀ sd, (t.port sd).link = .down
          ∧ ((s.port sd).link = .down → t.port sd = s.port sd)
          ∧ ((s.port sd).link ≠ .down →
              t.port sd =
                { s.port sd with
                  link := .down, inProgress := none, trainingDeadline := none, retrainTime := none, lossDeadline := none,
                  lastExpose := none, outstanding := false, resendDone := false, unsettledRun := 0, lastCounter := none })
          ∧ t.pipe sd = releasedBy ((s.comp sd).inFlight.bind Composition.source) (abandonedPipe (s.pipe sd))
          ∧ t.comp sd = { s.comp sd with inFlight := none, blankRequest := false, panOffset := 0, panTarget := 0 }
          ∧ t.store sd = { s.store sd with slot0 := .free, slot1 := .free, slot2 := .free }
          ∧ t.display sd =
            { s.display sd with
              link := if (s.display sd).link = .off then .off else .hibernate
              state := .dark
              holdCount := if (s.display sd).state = .dark then (s.display sd).holdCount else 0
              nextScan := none, wakeRetry := none, wakeDeadline := none, wakeAttempt := 0, silence := 0 }
          ∧ t.runs sd = .zero)
      ∧ t.night = { s.night with nextEval := none, dwellCount := 0, dwellTarget := none, lastSource := .none }
      ∧ t.sent = s.sent
          ++ (if (s.port .left).link = .down then [] else [.halt .left])
          ++ (if (s.port .right).link = .down then [] else [.halt .right])
          ++ (if (s.display .left).link = .waking ∨ (s.display .left).link = .synced then [.sleepNotice .left] else [])
          ++ (if (s.display .right).link = .waking ∨ (s.display .right).link = .synced then [.sleepNotice .right] else [])
      ∧ t.faults.current = 0 ∧ t.faults.accrued = s.faults.accrued
      ∧ t.queue = queueAfter s s.timebase
          (.powerChanged s.power.state .parked
            :: ((if (s.display .left).state = .dark then [] else [.displayChanged .left (s.display .left).state .dark])
              ++ (if (s.display .right).state = .dark then [] else [.displayChanged .right (s.display .right).state .dark])))
      ∧ Unchanged [.power, .queue, .port .left, .port .right, .sent, .pipe .left, .pipe .right, .comp .left, .comp .right, .store .left,
          .store .right, .night, .display .left, .display .right, .runs .left, .runs .right, .faultSets] s t := by
  obtain ⟨a, ha⟩ : ∃ a, a = changePower .parked s := ⟨_, rfl⟩
  obtain ⟨b, hb⟩ : ∃ b, b = portsHalted a := ⟨_, rfl⟩
  obtain ⟨c, hc⟩ : ∃ c, c = workAbandoned b := ⟨_, rfl⟩
  obtain ⟨d, hd⟩ : ∃ d, d = stopNight c := ⟨_, rfl⟩
  obtain ⟨e, he⟩ : ∃ e, e = displaysParked d := ⟨_, rfl⟩
  have run : park s = emptyCurrent e := by rw [he, hd, hc, hb, ha]; exact park_eq s
  have frameA : Unchanged [.power, .queue] s a := ha ▸ unchanged_changePower s _
  obtain ⟨ports, sentB, frameB⟩ := portsHalted_spec a
  obtain ⟨works, frameC⟩ := workAbandoned_spec b
  have frameD : Unchanged [.night] c d := hd ▸ unchanged_setNight c _
  obtain ⟨parked, sentE, queueE, frameE⟩ := displaysParked_spec d
  rw [← hb] at ports sentB frameB
  rw [← hc] at works frameC
  rw [← he] at parked sentE queueE frameE
  have frameT := unchanged_emptyCurrent e
  have toB : Unchanged [.power, .queue, .port .left, .port .right, .sent] s b := (frameA.mono (by simp)).trans (frameB.mono (by simp))
  have toD : Unchanged [.power, .queue, .port .left, .port .right, .sent, .pipe .left, .pipe .right, .comp .left, .comp .right,
      .store .left, .store .right, .night] s d :=
    ((toB.mono (by simp)).trans (frameC.mono (by simp))).trans (frameD.mono (by simp))
  have fromB : Unchanged [.pipe .left, .pipe .right, .comp .left, .comp .right, .store .left, .store .right, .night, .display .left,
      .display .right, .sent, .queue, .runs .left, .runs .right, .faultSets] b (emptyCurrent e) :=
    (((frameC.mono (by simp)).trans (frameD.mono (by simp))).trans (frameE.mono (by simp))).trans (frameT.mono (by simp))
  have fromC : Unchanged [.night, .display .left, .display .right, .sent, .queue, .comp .left, .comp .right, .runs .left, .runs .right,
      .faultSets] c (emptyCurrent e) := ((frameD.mono (by simp)).trans (frameE.mono (by simp))).trans (frameT.mono (by simp))
  have fromD : Unchanged [.display .left, .display .right, .sent, .queue, .comp .left, .comp .right, .runs .left, .runs .right,
      .faultSets] d (emptyCurrent e) := (frameE.mono (by simp)).trans (frameT.mono (by simp))
  have portA (sd : Side) : a.port sd = s.port sd := frameA (.port sd) (by simp)
  have displayD (sd : Side) : d.display sd = s.display sd := toD (.display sd) (by simp)
  intro t
  rw [show t = emptyCurrent e from run]
  refine ⟨?_, fun sd => ?_, ?_, ?_, rfl, ?_, ?_, (toD.mono (by simp)).trans (fromD.mono (by simp))⟩
  · rw [show (emptyCurrent e).power = b.power from fromB .power (by simp), show b.power = a.power from frameB .power (by simp), ha]
    rfl
  · obtain ⟨down, kept, halts⟩ := ports sd
    obtain ⟨pipe, comp, store⟩ := works sd
    obtain ⟨display, compE⟩ := parked sd
    have portT : (emptyCurrent e).port sd = b.port sd := fromB (.port sd) (by cases sd <;> simp)
    have pipeB : b.pipe sd = s.pipe sd := toB (.pipe sd) (by cases sd <;> simp)
    have compB : b.comp sd = s.comp sd := toB (.comp sd) (by cases sd <;> simp)
    have storeB : b.store sd = s.store sd := toB (.store sd) (by cases sd <;> simp)
    rw [portA] at kept halts
    rw [portT]
    refine ⟨down, kept, halts, ?_, ?_, ?_, ?_, by cases sd <;> rfl⟩
    · rw [show (emptyCurrent e).pipe sd = c.pipe sd from fromC (.pipe sd) (by cases sd <;> simp), pipe, compB, pipeB]
    · rw [show (emptyCurrent e).comp sd = e.comp sd from rfl, compE, show d.comp sd = c.comp sd from frameD (.comp sd) (by simp), comp,
        compB]
      simp
    · rw [show (emptyCurrent e).store sd = c.store sd from fromC (.store sd) (by cases sd <;> simp), store, storeB]
    · rw [show (emptyCurrent e).display sd = e.display sd from rfl, display, displayD]
  · rw [show (emptyCurrent e).night = d.night from fromD .night (by simp), hd]
    show { c.night with nextEval := none, dwellCount := 0, dwellTarget := none, lastSource := .none } = _
    rw [show c.night = b.night from frameC .night (by simp), show b.night = s.night from toB .night (by simp)]
  · rw [show (emptyCurrent e).sent = e.sent from rfl, sentE, displayD, displayD, show d.sent = b.sent from
      (frameD .sent (by simp)).trans (frameC .sent (by simp)), sentB, portA, portA, show a.sent = s.sent from frameA .sent (by simp)]
  · obtain ⟨-, accruedE⟩ := frameE .faultSets (by simp)
    obtain ⟨-, accruedD⟩ := toD .faultSets (by simp)
    exact accruedE.trans accruedD
  · rw [show (emptyCurrent e).queue = e.queue from rfl, queueE, displayD, displayD, show d.timebase = s.timebase from
      toD .timebase (by simp)]
    have queueD : d.queue = queueAfter s s.timebase [.powerChanged s.power.state .parked] := by
      rw [show d.queue = a.queue from (frameD .queue (by simp)).trans ((frameC .queue (by simp)).trans (frameB .queue (by simp))), ha]
      rfl
    have groupD : d.faults.group = s.faults.group := toD .faultGroup (by simp)
    refine Eq.trans ?_ (queueAfter_append s s.timebase [.powerChanged s.power.state .parked] _).symm
    exact queueAfter_congr _ _ queueD groupD

/-- Settles O60: PARK at both sides in its seven orders, and the answer while PARKED. -/
theorem powerParkStopsEverything : Obligations.PowerParkStopsEverything := by
  intro head s h
  have run : exec (.powerPark head) s = .next (carryOut .power head.tag [0] (taken head s)) := exec_of_suited (k := .power) rfl h rfl
  refine ⟨_, run, fun hparked => ?_, fun hawake => ?_⟩
  · have asleep : ¬(taken head s).awake = true := by
      rw [awake_iff, show (taken head s).power = s.power from rfl, hparked]; simp
    have carried : carryOut .power head.tag [0] (taken head s) = formReply Kind.power.code head.tag .ok [1] (taken head s) :=
      if_neg asleep
    rw [carried]
    exact ⟨replied_of (k := .power) h .ok rfl, (unchanged_taken head s).trans (unchanged_formReply _ _ _ _ _)⟩
  · have awake : (taken head s).awake = true := (awake_iff _).mpr hawake
    obtain ⟨w, hw⟩ : ∃ w, w = park (taken head s) := ⟨_, rfl⟩
    have carried : carryOut .power head.tag [0] (taken head s) = formReply Kind.power.code head.tag .ok [0] w := by
      rw [hw]; exact if_pos awake
    obtain ⟨power, sides, night, sent, current, accrued, queue, frame⟩ := park_spec (taken head s)
    rw [← hw] at power sides night sent current accrued queue frame
    rw [carried]
    refine ⟨replied_of (k := .power) h .ok (link_of_unchanged frame), power, fun sd => ?_, night, sent, current, accrued, queue,
      fun sd => ?_, fun p hp => ?_⟩
    · obtain ⟨down, kept, halts, pipe, comp, store, display, runs⟩ := sides sd
      have besides : w.pipe sd = { s.pipe sd with dev := none, intake := none, bufA := (w.pipe sd).bufA, bufB := (w.pipe sd).bufB } := by
        rw [pipe]; exact releasedBy_besides ..
      refine ⟨down, kept, halts, besides, fun law => ?_, comp, store, display, runs⟩
      obtain ⟨-, reading, -, -⟩ := law sd
      show (w.pipe sd).bufA = .free ∧ (w.pipe sd).bufB = .free
      rw [pipe]
      refine released_free fun n d => (reading n d).trans ?_
      show _ ↔ (s.comp sd).inFlight.bind Composition.source = _
      cases (s.comp sd).inFlight <;> simp
    · exact ⟨frame (.context sd) (by simp), frame (.exposure sd) (by simp), frame (.glare sd) (by simp)⟩
    · have whole : AnswerTouches _ s (formReply Kind.power.code head.tag .ok [0] w) := answerTouches_of frame
      refine whole p ?_
      simp only [List.mem_cons, List.not_mem_nil, or_false] at hp
      rcases hp with rfl | rfl | rfl | rfl | rfl | rfl | rfl | rfl | rfl | rfl | rfl <;> simp [answerParts]

end Sys2Proof.Proofs.DisplayAndPark
end

section
set_option Elab.async false
/-! VEHICLE (R168, R121; O51). -/

namespace Sys2Proof.Proofs.VehicleInput

open Sys2Proof Sys2Proof.Machine Sys2Proof.Proofs.SavesEnd Sys2Proof.Proofs.NightEvaluation Sys2Proof.Proofs.Answers
  Sys2Proof.Proofs.WholeRequests Sys2Proof.Proofs.PlainRequests

/-! ### The fields (R168) -/

section
variable (presence : Byte) (angle : BitVec 16) (lux : BitVec 32)

/-- The two fields of a VEHICLE payload read back. -/
theorem vehicle_fields :
    let payload := presence :: be16 angle ++ be32 lux
    payload.getD 0 0 = presence ∧ i16Of ((payload.drop 1).take 2) = angle.toInt ∧ beNat ((payload.drop 3).take 4) = lux.toNat := by
  intro payload
  have first : (payload.drop 1).take 2 = be16 angle := by simp [payload, be16_eq]
  have second : (payload.drop 3).take 4 = be32 lux := by
    have rest : payload.drop 3 = be32 lux := by simp [payload, be16_eq]
    rw [rest, List.take_of_length_le (by simp [be32, beBytes_length])]
  refine ⟨rfl, ?_, by rw [second, beNat_be32]⟩
  rw [first, i16Of, beNat_be16]
  simp

/-- The state with the fields of a request stored and dated. -/
def storedFields (hasAngle hasLux : Bool) (u : State) : State :=
  let expiry : Time := u.timebase + BitVec.ofNat 32 (u.faults.group.vehicleTimeout * 1000 + 1)
  { u with
    link :=
      { u.link with
        angle := if hasAngle then some (max (-900) (min angle.toInt 900), u.timebase) else u.link.angle
        lux := if hasLux then some (min lux.toNat 65535, u.timebase) else u.link.lux }
    faults :=
      { u.faults with
        expiryAngle := if hasAngle then some expiry else u.faults.expiryAngle
        expiryLux := if hasLux then some expiry else u.faults.expiryLux } }

theorem storeVehicle_eq (hasAngle hasLux : Bool) (u : State) : storeVehicle hasAngle hasLux angle.toInt lux.toNat u =
    if hasAngle || hasLux then judgeVehicle (storedFields angle lux hasAngle hasLux u) else storedFields angle lux hasAngle hasLux u := by
  cases hasAngle <;> cases hasLux <;> rfl

theorem unchanged_storedFields (hasAngle hasLux : Bool) (u : State) :
    Unchanged [.vehicle, .expiries] u (storedFields angle lux hasAngle hasLux u) := by
  intro p hp; cases p <;> first | rfl | simp_all [Part.same, storedFields]

theorem storedFields_none (u : State) : storedFields angle lux false false u = u := rfl

/-- The reply of a VEHICLE, and the state it leaves. -/
theorem carryOut_vehicle (tag : Byte) (u : State) (hknown : presence.toNat ≤ 3) :
    let a := presence.getLsbD 0
    let l := presence.getLsbD 1
    let clampedAngle : Bool := a && (decide (angle.toInt < -900) || decide (900 < angle.toInt))
    let clampedLux : Bool := l && decide (65535 < lux.toNat)
    carryOut .vehicle tag (presence :: be16 angle ++ be32 lux) u =
      formReply Kind.vehicle.code tag (adjusted (clampedAngle || clampedLux))
        [(if clampedAngle then 1 else 0) + (if clampedLux then 2 else 0)] (storeVehicle a l angle.toInt lux.toNat u) := by
  obtain ⟨h₁, h₂, h₃⟩ := vehicle_fields presence angle lux
  intro a l clampedAngle clampedLux
  have mask : byte1 ((if clampedAngle then 1 else 0) + (if clampedLux then 2 else 0))
      = [(if clampedAngle then 1 else 0) + (if clampedLux then 2 else 0)] := by
    rw [byte1, beBytes_one]
    cases clampedAngle <;> cases clampedLux <;> rfl
  rw [← mask]
  simp only [carryOut, takeVehicle, h₁, h₂, h₃]
  exact if_neg (Nat.not_lt.mpr hknown)

end

/-- Settles O51: the fields as stored, and the condition judged on what they leave. -/
theorem vehicleStoresItsFields : Obligations.VehicleStoresItsFields := by
  intro head presence angle lux s h
  refine ⟨_, exec_of_suited (k := .vehicle) rfl h rfl, fun hbad => ?_, fun hknown => ?_⟩
  · have refused : carryOut .vehicle head.tag (presence :: be16 angle ++ be32 lux) (taken head s)
        = refuse Kind.vehicle.code head.tag .badArgument (taken head s) := if_pos hbad
    rw [refused]
    exact refused_refuse (k := .vehicle) h .badArgument
  · intro a l clampedAngle clampedLux expiry
    rw [carryOut_vehicle presence angle lux head.tag (taken head s) hknown]
    obtain ⟨v, hv⟩ : ∃ v, v = storedFields angle lux a l (taken head s) := ⟨_, rfl⟩
    obtain ⟨w, hw⟩ : ∃ w, w = if a || l then judgeVehicle v else v := ⟨_, rfl⟩
    have stored : storeVehicle a l angle.toInt lux.toNat (taken head s) = w := by rw [hw, hv]; exact storeVehicle_eq ..
    have frameV : Unchanged [.vehicle, .expiries] (taken head s) v := hv ▸ unchanged_storedFields angle lux a l _
    have frameW : Unchanged [.faultSets, .queue] v w := by
      rw [hw]; split
      · exact unchanged_judgeVehicle v
      · exact .refl
    have linkW : w.link = v.link := link_of_unchanged frameW
    obtain ⟨expiryA, expiryL⟩ := frameW .expiries (by simp)
    have frame : Unchanged [.vehicle, .expiries, .faultSets, .queue] (taken head s) w :=
      (frameV.mono (by simp)).trans (frameW.mono (by simp))
    have powerV : v.power = s.power := frameV .power (by simp)
    have timeV : v.timebase = s.timebase := frameV .timebase (by simp)
    have angleV : v.link.angle = if a then some (max (-900) (min angle.toInt 900), s.timebase) else s.link.angle := by rw [hv]; rfl
    have luxV : v.link.lux = if l then some (min lux.toNat 65535, s.timebase) else s.link.lux := by rw [hv]; rfl
    have expiryAV : v.faults.expiryAngle = if a then some expiry else s.faults.expiryAngle := by rw [hv]; rfl
    have expiryLV : v.faults.expiryLux = if l then some expiry else s.faults.expiryLux := by rw [hv]; rfl
    have answered : Answered true false Kind.vehicle.code head (adjusted (clampedAngle || clampedLux)).code
        [(if clampedAngle then 1 else 0) + (if clampedLux then 2 else 0)] s
        (formReply Kind.vehicle.code head.tag (adjusted (clampedAngle || clampedLux))
          [(if clampedAngle then 1 else 0) + (if clampedLux then 2 else 0)] w) :=
      answered_of rfl (reading_none h) _ (by rw [linkW, hv]; rfl)
    rw [adjusted_code] at answered
    have judged (hawake : s.power.state = .starting ∨ s.power.state = .running) (hcarried : (a || l) = true) :
        (if v.vehicleStale then Raised .vehicleInputStale s w else Cleared .vehicleInputStale s w)
          ∧ w.queue = queueAfter s s.timebase
            (if v.vehicleStale then raisedReport .vehicleInputStale s else clearedReport .vehicleInputStale s) := by
      have awake : v.awake = true := (awake_iff v).mpr (by rw [powerV]; exact hawake)
      have spec := judgeVehicle_awake frameV awake
      rw [timeV] at spec
      rw [hw, if_pos hcarried]
      exact spec
    rw [stored]
    refine ⟨(congrArg HostLink.angle linkW).trans angleV, (congrArg HostLink.lux linkW).trans luxV, expiryA.trans expiryAV,
      expiryL.trans expiryLV, answered, fun hzero => ?_, fun hparked => ?_, fun hawake hsome => ?_, fun hawake ha hl => ?_,
      answerTouches_of frame⟩
    · have none : a = false ∧ l = false := by simp [a, l, hzero]
      have same : w = taken head s := by
        rw [hw, hv, none.1, none.2]
        exact storedFields_none angle lux _
      rw [same]
      exact (unchanged_taken head s).trans (unchanged_formReply _ _ _ _ _)
    · have asleep : v.awake = false := by
        rw [Bool.eq_false_iff, ne_eq, awake_iff, powerV, hparked]
        simp
      have same : w = v := by rw [hw, judgeVehicle_asleep asleep, ite_self]
      obtain ⟨current, accrued⟩ := frameV .faultSets (by simp)
      rw [same]
      exact ⟨current, accrued, frameV .queue (by simp)⟩
    · have named : ∀ p : Byte, p.toNat ≤ 3 → p ≠ 0 → (p.getLsbD 0 || p.getLsbD 1) = true := by decide
      obtain ⟨sets, queue⟩ := judged hawake (named presence hknown hsome)
      intro stale
      have same : stale = v.vehicleStale := by
        show ((w.link.angle.isSome && w.faults.expiryAngle.isNone) || (w.link.lux.isSome && w.faults.expiryLux.isNone)) = _
        rw [linkW, expiryA, expiryL]
        rfl
      rw [← same] at sets queue
      refine ⟨fun hstale => ?_, fun hfresh => ?_⟩
      · rw [if_pos hstale] at sets queue
        exact ⟨sets, queue⟩
      · rw [if_neg (by simp [hfresh])] at sets queue
        exact ⟨sets, queue⟩
    · obtain ⟨sets, -⟩ := judged hawake (by simp [ha])
      have fresh : v.vehicleStale = false := by simp [State.vehicleStale, expiryAV, expiryLV, ha, hl]
      rw [if_neg (by simp [fresh])] at sets
      exact sets

end Sys2Proof.Proofs.VehicleInput
end

section
set_option Elab.async false
/-! CTX_SAVE and CTX_LOAD (R143 to R148; O55 to O57). -/

namespace Sys2Proof.Proofs.ContextRequests

open Sys2Proof Sys2Proof.Machine Sys2Proof.Proofs.SavesEnd Sys2Proof.Proofs.Answers Sys2Proof.Proofs.WholeRequests
  Sys2Proof.Proofs.PlainRequests

/-! ### CTX_SAVE (R144, R145) -/

section
variable {side mode resetAfter : Byte} {sd : Side}

theorem carryOut_ctxSave_refused (tag : Byte) (u : State) (hbad : 1 < side.toNat ∨ 1 < resetAfter.toNat) :
    carryOut .ctxSave tag [side, mode, resetAfter] u = refuse Kind.ctxSave.code tag .badArgument u := by
  by_cases hside : 1 < side.toNat
  · have unnamed : sideOf (([side, mode, resetAfter] : List Byte).getD 0 0) = none := sideOf_beyond hside
    simp only [carryOut, takeCtxSave, unnamed]
  · obtain ⟨sd, hsd⟩ := side_of_le (Nat.not_lt.mp hside)
    have named : sideOf (([side, mode, resetAfter] : List Byte).getD 0 0) = some sd := sideOf_code hsd
    simp only [carryOut, takeCtxSave, named]
    exact if_pos (.inr (hbad.resolve_left hside))

theorem carryOut_ctxSave (tag : Byte) (u : State) (hside : side.toNat = sideCode sd) (hmode : mode.toNat ≤ 1)
    (hreset : resetAfter.toNat ≤ 1) : carryOut .ctxSave tag [side, mode, resetAfter] u =
      if (u.context sd).identityCopy = none then refuse Kind.ctxSave.code tag .refusedState u
      else if mode = 0 then completeSave sd tag false (decide (resetAfter = 1)) u
      else beginSave tag sd (decide (resetAfter = 1)) u := by
  have named : sideOf (([side, mode, resetAfter] : List Byte).getD 0 0) = some sd := sideOf_code hside
  simp only [carryOut, takeCtxSave, named]
  refine if_neg ?_
  show ¬(1 < mode.toNat ∨ 1 < resetAfter.toNat)
  omega

end

/-- Settles O55: what refuses a save, the image taken at once, and the save that waits for its commit. -/
theorem contextSavesTakeTheImage : Obligations.ContextSavesTakeTheImage := by
  intro head side resetAfter s
  refine ⟨fun h => ⟨_, exec_of_suited (k := .ctxSave) rfl h rfl, fun hbad => ?_, fun sd hside hreset => ⟨fun hnone => ?_, fun hsome => ?_⟩⟩,
    fun h => ⟨_, exec_of_suited (k := .ctxSave) rfl h rfl, fun hbad => ?_, fun sd hside hreset => ⟨fun hnone => ?_, fun hsome => ?_⟩⟩⟩
  · rw [carryOut_ctxSave_refused _ _ hbad]
    exact refused_refuse (k := .ctxSave) h .badArgument
  · rw [carryOut_ctxSave _ _ hside (by decide) hreset, if_pos (show ((taken head s).context sd).identityCopy = none from hnone)]
    exact refused_refuse (k := .ctxSave) h .refusedState
  · rw [carryOut_ctxSave _ _ hside (by decide) hreset, if_neg (show ¬((taken head s).context sd).identityCopy = none from hsome), if_pos rfl]
    obtain ⟨link, context, plain, reset⟩ := completeSave_spec sd (taken head s) head.tag false (decide (resetAfter = 1))
    obtain ⟨t, ht⟩ : ∃ t, t = completeSave sd head.tag false (decide (resetAfter = 1)) (taken head s) := ⟨_, rfl⟩
    rw [← ht] at link context plain reset ⊢
    refine ⟨takeImage_imageOf sd s _ _, ?_, ?_, fun hzero => ?_, fun hone => ?_⟩
    · have quiet : (taken head s).link.reading.map Reading.superseded = s.link.reading := by
        rw [show (taken head s).link.reading = s.link.reading from rfl, reading_none h]; rfl
      unfold Replied Answered
      rw [link, quiet]
      rfl
    · rw [context]
      simp only [decide_eq_true_eq]
      rfl
    · have frame := plain (by simp [hzero])
      exact ((unchanged_taken head s).mono (by simp)).trans (frame.mono (by simp [answerParts]))
    · obtain ⟨installed, frame⟩ := reset (by simp [hone])
      exact ⟨installed, ((unchanged_taken head s).mono (by simp)).trans (frame.mono (by simp [answerParts]))⟩
  · rw [carryOut_ctxSave_refused _ _ hbad]
    exact refused_refuse (k := .ctxSave) h .badArgument
  · rw [carryOut_ctxSave _ _ hside (by decide) hreset, if_pos (show ((taken head s).context sd).identityCopy = none from hnone)]
    exact refused_refuse (k := .ctxSave) h .refusedState
  · rw [carryOut_ctxSave _ _ hside (by decide) hreset, if_neg (show ¬((taken head s).context sd).identityCopy = none from hsome),
      if_neg (by decide)]
    have quiet : (taken head s).link.reading.map Reading.superseded = s.link.reading := by
      rw [show (taken head s).link.reading = s.link.reading from rfl, reading_none h]; rfl
    obtain ⟨v, hv⟩ : ∃ v, v = (taken head s).setContext sd
      { (taken head s).context sd with save := some ⟨decide (resetAfter = 1), s.timebase + 100000⟩ } := ⟨_, rfl⟩
    have began : beginSave head.tag sd (decide (resetAfter = 1)) (taken head s)
        = v.setLink { v.link with busy := some head.tag, holder := none, reading := v.link.reading.map Reading.superseded } := by
      rw [hv]; rfl
    have frameV : Unchanged [.context sd] (taken head s) v := hv ▸ unchanged_setContext _ sd _
    rw [began]
    have saved : Unchanged answerParts v
        (v.setLink { v.link with busy := some head.tag, holder := none, reading := v.link.reading.map Reading.superseded }) :=
      unchanged_setLink v _ rfl rfl
    refine ⟨?_, ?_, (((unchanged_taken head s).mono (by simp)).trans (frameV.mono (by simp))).trans (saved.mono (by simp))⟩
    · show v.context sd = _
      rw [hv]
      exact State.setContext_context ..
    · rw [hv]
      show ({ (taken head s).link with
          busy := some head.tag, holder := none, reading := (taken head s).link.reading.map Reading.superseded } : HostLink) = _
      rw [quiet]
      rfl

/-! ### Reading an image (R147, R148) -/

theorem beNat_lt (l : List Byte) : beNat l < 256 ^ l.length := by
  suffices h : ∀ n, l.foldl (fun n b => 256 * n + b.toNat) n < (n + 1) * 256 ^ l.length by simpa [beNat] using h 0
  induction l with
  | nil => simp
  | cons b l ih =>
    intro n
    have byte := b.isLt
    calc (b :: l).foldl (fun n b => 256 * n + b.toNat) n < (256 * n + b.toNat + 1) * 256 ^ l.length := ih _
      _ ≤ ((n + 1) * 256) * 256 ^ l.length := Nat.mul_le_mul_right _ (by omega)
      _ = (n + 1) * 256 ^ (b :: l).length := by rw [List.length_cons, Nat.pow_succ]; ring

theorem nightOf_some {n : Nat} (h : n ≤ 2) : ∃ ns, nightOf n = some ns ∧ ns.code.toNat = n := by
  rcases n with _ | _ | _ | n
  · exact ⟨.day, rfl, rfl⟩
  · exact ⟨.dusk, rfl, rfl⟩
  · exact ⟨.night, rfl, rfl⟩
  · omega

theorem nightOf_none {n : Nat} (h : 2 < n) : nightOf n = none := by
  rw [nightOf, if_neg (by omega), if_neg (by omega), if_neg (by omega)]

theorem nightOf_code (ns : NightState) : nightOf ns.code.toNat = some ns := by cases ns <;> rfl

section
variable (sd : Side) (image : List Byte)

/-- R147 step 6: a night code or a grid value that no image has. -/
def FormatBad : Prop := 2 < imageNat image 3 1 ∨ ∃ b ∈ (image.drop 23).take 128, 96 < b.toNat

/-- The image that accepted bytes stand for (R148). -/
def imageOf (ns : NightState) : Image where
  settled := (image.getD 2 0).getLsbD 0
  resetAfter := (image.getD 2 0).getLsbD 1
  night := ns
  e := imageNat image 4 1
  identity := BitVec.ofNat 64 (imageNat image 5 8)
  gainR := imageNat image 13 2
  gainB := imageNat image 15 2
  backlight := imageNat image 17 2
  framesAdapted := imageNat image 19 4
  grid := ((image.drop 23).take 128).map BitVec.toNat
  tags := tagsOf ((image.drop 151).take 16)

theorem grid_any_iff (l : List Byte) : (l.map BitVec.toNat).any (96 < ·) = true ↔ ∃ b ∈ l, 96 < b.toNat := by simp

variable {sd image}

theorem parseImage_crc (h : (crc32 (image.take 167)).toNat ≠ imageNat image 167 4) : parseImage sd image = .error .crc := if_pos h

section
variable (hcrc : (crc32 (image.take 167)).toNat = imageNat image 167 4)
include hcrc

theorem parseImage_version (h : imageNat image 0 1 ≠ 1) : parseImage sd image = .error .version :=
  (if_neg (not_not.mpr hcrc)).trans (if_pos h)

variable (hversion : imageNat image 0 1 = 1)
include hversion

theorem parseImage_side (h : imageNat image 1 1 ≠ sideCode sd) : parseImage sd image = .error .side :=
  (if_neg (not_not.mpr hcrc)).trans ((if_neg (not_not.mpr hversion)).trans (if_pos h))

variable (hside : imageNat image 1 1 = sideCode sd)
include hside

theorem parseImage_format (h : FormatBad image) : parseImage sd image = .error .format := by
  refine (if_neg (not_not.mpr hcrc)).trans ((if_neg (not_not.mpr hversion)).trans ((if_neg (not_not.mpr hside)).trans ?_))
  rcases Nat.lt_or_ge 2 (imageNat image 3 1) with hnight | hnight
  · rw [nightOf_none hnight]
  · obtain ⟨ns, hns, -⟩ := nightOf_some hnight
    rw [hns]
    exact if_pos ((grid_any_iff _).mpr (h.resolve_left (Nat.not_lt.mpr hnight)))

theorem parseImage_accepted {ns : NightState} (hns : nightOf (imageNat image 3 1) = some ns)
    (hgrid : ¬∃ b ∈ (image.drop 23).take 128, 96 < b.toNat) : parseImage sd image = .ok (imageOf image ns) := by
  refine (if_neg (not_not.mpr hcrc)).trans ((if_neg (not_not.mpr hversion)).trans ((if_neg (not_not.mpr hside)).trans ?_))
  rw [hns]
  exact if_neg fun h => hgrid ((grid_any_iff _).mp h)

end

end

theorem imageNat_lt (image : List Byte) (offset k : Nat) : imageNat image offset k < 256 ^ k :=
  (beNat_lt _).trans_le (Nat.pow_le_pow_right (by decide) (List.length_take_le ..))

theorem imageOf_tag {image : List Byte} (ns : NightState) {n : Nat} (h : n < 128) :
    (imageOf image ns).tags.getD n false = (image.getD (151 + n / 8) 0).getLsbD (7 - n % 8) := by
  have byte : ((image.drop 151).take 16).getD (n / 8) 0 = image.getD (151 + n / 8) 0 := by
    simp only [List.getD_eq_getElem?_getD, List.getElem?_take, List.getElem?_drop]
    rw [if_pos (by omega)]
  rw [← byte]
  exact CommitSteps.zones_map_getD (fun n => (((image.drop 151).take 16).getD (n / 8) 0).getLsbD (7 - n % 8)) false h

/-! ### CTX_LOAD (R147) -/

section
variable {side : Byte} {image : List Byte} {sd : Side}

theorem carryOut_ctxLoad_beyond (tag : Byte) (u : State) (hside : 1 < side.toNat) :
    carryOut .ctxLoad tag (side :: image) u = refuseWith Kind.ctxLoad.code tag .badArgument [Reason.side.code] u := by
  simp only [carryOut, takeCtxLoad, List.getD_cons_zero, sideOf_beyond hside]

theorem carryOut_ctxLoad_running (tag : Byte) (u : State) (hside : side.toNat = sideCode sd) (hrunning : u.power.state = .running) :
    carryOut .ctxLoad tag (side :: image) u = refuse Kind.ctxLoad.code tag .refusedState (countRefusedLoad sd u) := by
  simp only [carryOut, takeCtxLoad, List.getD_cons_zero, sideOf_code hside]
  exact if_pos hrunning

theorem carryOut_ctxLoad_error (tag : Byte) (u : State) (hside : side.toNat = sideCode sd) (hnot : u.power.state ≠ .running) {why : Reason}
    (h : parseImage sd image = .error why) : carryOut .ctxLoad tag (side :: image) u = rejectImage tag sd why u := by
  simp only [carryOut, takeCtxLoad, List.getD_cons_zero, sideOf_code hside, List.drop_one, List.tail_cons, h]
  exact if_neg hnot

theorem carryOut_ctxLoad_ok (tag : Byte) (u : State) (hside : side.toNat = sideCode sd) (hnot : u.power.state ≠ .running) {i : Image}
    (h : parseImage sd image = .ok i) : carryOut .ctxLoad tag (side :: image) u = acceptImage tag sd i u := by
  simp only [carryOut, takeCtxLoad, List.getD_cons_zero, sideOf_code hside, List.drop_one, List.tail_cons, h]
  exact if_neg hnot

end

section
variable {head : ReqHead} {side : Byte} {image : List Byte} {sd : Side} {s : State}

/-- A rejected image: counted, CONTEXT_REJECTED, the reason in the reply (R147 steps 3 to 6). -/
theorem rejectImage_rejects (h : Reaches Kind.ctxLoad.code head (side :: image) s) (why : Reason) :
    let t := rejectImage head.tag sd why (taken head s)
    t.context sd = { s.context sd with loadsRefused := satInc (s.context sd).loadsRefused }
      ∧ Answered true true Kind.ctxLoad.code head 7 [why.code] s t
      ∧ t.faults.accrued = FaultSet.insert s.faults.accrued (.contextRejected sd)
      ∧ t.faults.current = s.faults.current
      ∧ t.queue = queueAfter s s.timebase
          (if s.faults.unmasked (.contextRejected sd) then [.faultRaised (.contextRejected sd) false] else [])
      ∧ AnswerTouches [.context sd, .faultSets, .queue] s t := by
  obtain ⟨u, hu⟩ : ∃ u, u = countRefusedLoad sd (taken head s) := ⟨_, rfl⟩
  obtain ⟨w, hw⟩ : ∃ w, w = raiseEvent (.contextRejected sd) u := ⟨_, rfl⟩
  intro t
  have run : t = refuseWith Kind.ctxLoad.code head.tag .badArgument [why.code] w := by rw [hw, hu]; rfl
  have frameU : Unchanged [.context sd] (taken head s) u := hu ▸ unchanged_setContext _ sd _
  have frameW : Unchanged [.faultSets, .queue] u w := hw ▸ unchanged_raiseEvent u _
  have faultsW : w.faults = { s.faults with accrued := FaultSet.insert s.faults.accrued (.contextRejected sd) } := by
    rw [hw, raiseEvent_faults, hu]; rfl
  have currentW : w.faults.current = s.faults.current := by rw [faultsW]
  have linkW : w.link = (taken head s).link := (link_of_unchanged frameW).trans (link_of_unchanged frameU)
  rw [run]
  refine ⟨?_, answered_refuseWith h .badArgument linkW, congrArg Faults.accrued faultsW, currentW, ?_, ?_⟩
  · show w.context sd = _
    rw [show w.context sd = u.context sd from frameW (.context sd) (by simp), hu]
    exact State.setContext_context ..
  · show w.queue = _
    rw [hw, raiseEvent_queue, hu]
    rfl
  · have refused := unchanged_refuseWith w Kind.ctxLoad.code head.tag .badArgument [why.code]
    exact ((((unchanged_taken head s).mono (by simp)).trans (frameU.mono (by simp))).trans (frameW.mono (by simp))).trans
      (refused.mono (by simp))

theorem acceptImage_accepts (h : Reaches Kind.ctxLoad.code head (side :: image) s) (i : Image) :
    let t := acceptImage head.tag sd i (taken head s)
    t.context sd = { s.context sd with pendingRestore := some i, loadsAccepted := satInc (s.context sd).loadsAccepted }
      ∧ Replied .ctxLoad head 0 [1] s t
      ∧ AnswerTouches [.context sd] s t :=
  ⟨State.setContext_context .., replied_of h .ok rfl, answerTouches_of (unchanged_setContext _ sd _)⟩

end

/-- Settles O56: the checks in their order, and the image of accepted bytes. -/
theorem contextLoadsAreJudgedInOrder : Obligations.ContextLoadsAreJudgedInOrder := by
  intro head side image s hlen h
  have run : exec (.ctxLoad head side image) s = .next (carryOut .ctxLoad head.tag (side :: image) (taken head s)) :=
    exec_of_suited (k := .ctxLoad) (exec_request rfl (by simp [Instr.wellFormed, payloadFits, hlen]) s) h
      (by simp [unsuited, lengthResult, hlen])
  refine ⟨_, run, fun hside => ?_, fun sd hside => ?_⟩
  · rw [carryOut_ctxLoad_beyond _ _ hside]
    exact refused_refuseWith (k := .ctxLoad) h .badArgument
  · intro refused number crcBad formatBad rejected
    have rejects (why : Reason) (hnot : s.power.state ≠ .running) (herror : parseImage sd image = .error why) : rejected why.code := by
      simp only [rejected, refused]
      rw [carryOut_ctxLoad_error head.tag (taken head s) hside hnot herror]
      exact rejectImage_rejects h why
    refine ⟨fun hrunning => ?_, fun hnot hcrc => ?_, fun hnot hcrc hversion => ?_, fun hnot hcrc hversion hother => ?_,
      fun hnot hcrc hversion hsame hbad => ?_, fun hnot hcrc hversion hsame hgood => ?_⟩
    · rw [carryOut_ctxLoad_running head.tag (taken head s) hside hrunning]
      have frame : Unchanged [.context sd] (taken head s) (countRefusedLoad sd (taken head s)) := unchanged_setContext _ sd _
      have answered := unchanged_refuseWith (countRefusedLoad sd (taken head s)) Kind.ctxLoad.code head.tag .refusedState []
      exact ⟨State.setContext_context .., answered_refuseWith (k := .ctxLoad) h .refusedState rfl,
        (((unchanged_taken head s).mono (by simp)).trans (frame.mono (by simp))).trans (answered.mono (by simp))⟩
    · exact rejects .crc hnot (parseImage_crc hcrc)
    · exact rejects .version hnot (parseImage_version (not_not.mp hcrc) hversion)
    · exact rejects .side hnot (parseImage_side (not_not.mp hcrc) hversion (hside ▸ hother))
    · exact rejects .format hnot (parseImage_format (not_not.mp hcrc) hversion (hside ▸ hsame) hbad)
    · obtain ⟨hnight, hgrid⟩ := not_or.mp hgood
      obtain ⟨ns, hns, hcode⟩ := nightOf_some (Nat.not_lt.mp hnight)
      have parsed := parseImage_accepted (sd := sd) (not_not.mp hcrc) hversion (hside ▸ hsame) hns hgrid
      rw [carryOut_ctxLoad_ok head.tag (taken head s) hside hnot parsed]
      obtain ⟨context, replied, frame⟩ := acceptImage_accepts (sd := sd) h (imageOf image ns)
      refine ⟨⟨imageOf image ns, by rw [context], ?_, rfl, rfl, rfl, rfl, rfl, rfl, hcode, rfl, rfl, ?_, fun n hn => ?_⟩,
        by rw [context], replied, frame⟩
      · exact Nat.mod_eq_of_lt (imageNat_lt image 5 8)
      · simp [imageOf, tagsOf, zones_length]
      · exact imageOf_tag ns hn

/-! ### A saved image read back (R143, R148) -/

/-- Past a piece. -/
theorem imageNat_skip {a l : List Byte} {n : Nat} (h : a.length = n) (o k : Nat) : imageNat (a ++ l) (n + o) k = imageNat l o k := by
  rw [imageNat, ← List.drop_drop, List.drop_left' h, imageNat]

/-- A piece at the front. -/
theorem imageNat_front {a l : List Byte} {k : Nat} (h : a.length = k) : imageNat (a ++ l) 0 k = beNat a := by
  rw [imageNat, List.drop_zero, List.take_left' h]

theorem tagBytes_bit (tags : ZoneMap Bool) {i j : Nat} (hi : i < 16) (hj : j < 8) :
    ((tagBytes tags).getD i 0).getLsbD (7 - j) = tags.getD (8 * i + j) false := by
  have bits : ∀ a b c d e f g h : Bool,
      let byte : Byte := BitVec.ofNat 8 ((if a then 128 else 0) + ((if b then 64 else 0) + ((if c then 32 else 0) + ((if d then 16 else 0)
        + ((if e then 8 else 0) + ((if f then 4 else 0) + ((if g then 2 else 0) + ((if h then 1 else 0) + 0))))))))
      byte.getLsbD 7 = a ∧ byte.getLsbD 6 = b ∧ byte.getLsbD 5 = c ∧ byte.getLsbD 4 = d ∧ byte.getLsbD 3 = e ∧ byte.getLsbD 2 = f
        ∧ byte.getLsbD 1 = g ∧ byte.getLsbD 0 = h := by decide
  have byte : (tagBytes tags).getD i 0 =
      BitVec.ofNat 8 (((List.range 8).map fun j => if tags.getD (8 * i + j) false then 2 ^ (7 - j) else 0).sum) := by
    simp [tagBytes, List.getD_eq_getElem?_getD, hi]
  obtain ⟨h₀, h₁, h₂, h₃, h₄, h₅, h₆, h₇⟩ := bits (tags.getD (8 * i + 0) false) (tags.getD (8 * i + 1) false)
    (tags.getD (8 * i + 2) false) (tags.getD (8 * i + 3) false) (tags.getD (8 * i + 4) false) (tags.getD (8 * i + 5) false)
    (tags.getD (8 * i + 6) false) (tags.getD (8 * i + 7) false)
  rw [byte]
  interval_cases j <;> assumption

theorem tagsOf_tagBytes {tags : ZoneMap Bool} (h : tags.length = 128) : tagsOf (tagBytes tags) = tags := by
  refine List.ext_getElem (by simp [tagsOf, zones_length, h]) fun n hn hn' => ?_
  have hlt : n < 128 := by omega
  have bit := tagBytes_bit tags (i := n / 8) (j := n % 8) (by omega) (by omega)
  rw [Nat.div_add_mod, List.getD_eq_getElem _ _ hn'] at bit
  rw [← bit, ← List.getD_eq_getElem _ false hn]
  exact CommitSteps.zones_map_getD (fun n => ((tagBytes tags).getD (n / 8) 0).getLsbD (7 - n % 8)) false hlt

theorem grid_bytes {grid : ZoneMap Nat} (h : grid.length = 128) (hle : ∀ g ∈ grid, g ≤ 96) :
    (zones.map fun n => BitVec.ofNat 8 (grid.getD n 0)).map BitVec.toNat = grid := by
  refine List.ext_getElem (by simp [zones_length, h]) fun n hn hn' => ?_
  have small : grid[n] ≤ 96 := hle _ (List.getElem_mem hn')
  have read := CommitSteps.zones_map_getD (fun n => BitVec.ofNat 8 (grid.getD n 0)) 0 (n := n) (by omega)
  rw [List.getElem_map, ← List.getD_eq_getElem _ 0 (by simpa using hn), read, List.getD_eq_getElem _ _ hn']
  simp
  omega

section
variable (i : Image) (sd : Side)

/-- The four bytes before the fields. -/
def imageHead : List Byte :=
  [1, BitVec.ofNat 8 (sideCode sd), BitVec.ofNat 8 ((if i.settled then 1 else 0) + (if i.resetAfter then 2 else 0)), i.night.code]

/-- The grid's bytes. -/
def gridBytes : List Byte := zones.map fun n => BitVec.ofNat 8 (i.grid.getD n 0)

/-- The bytes of an image, piece after piece. -/
theorem Image.bytes_eq : i.bytes sd = imageHead i sd ++ (beBytes 1 i.e ++ (be64 i.identity ++ (beBytes 2 i.gainR ++ (beBytes 2 i.gainB
    ++ (beBytes 2 i.backlight ++ (beBytes 4 i.framesAdapted ++ (gridBytes i ++ (tagBytes i.tags ++ be32 (crc32 (i.body sd)))))))))) := by
  simp only [Image.bytes, Image.body, imageHead, gridBytes, List.append_assoc]

theorem gridBytes_length : (gridBytes i).length = 128 := by simp [gridBytes, zones_length]

theorem tagBytes_length (tags : ZoneMap Bool) : (tagBytes tags).length = 16 := by simp [tagBytes]

/-- The numbers of an image read back (R148). -/
theorem imageNat_bytes :
    imageNat (i.bytes sd) 4 1 = beNat (beBytes 1 i.e) ∧ imageNat (i.bytes sd) 5 8 = beNat (be64 i.identity)
      ∧ imageNat (i.bytes sd) 13 2 = beNat (beBytes 2 i.gainR) ∧ imageNat (i.bytes sd) 15 2 = beNat (beBytes 2 i.gainB)
      ∧ imageNat (i.bytes sd) 17 2 = beNat (beBytes 2 i.backlight) ∧ imageNat (i.bytes sd) 19 4 = beNat (beBytes 4 i.framesAdapted) := by
  rw [Image.bytes_eq]
  have pastHead (l : List Byte) (o k : Nat) : imageNat (imageHead i sd ++ (beBytes 1 i.e ++ l)) (5 + o) k = imageNat l o k := by
    rw [show 5 + o = 4 + (1 + o) by omega, imageNat_skip (n := 4) rfl, imageNat_skip (beBytes_length ..)]
  have pastIdentity (l : List Byte) (o k : Nat) :
      imageNat (imageHead i sd ++ (beBytes 1 i.e ++ (be64 i.identity ++ l))) (13 + o) k = imageNat l o k := by
    rw [show 13 + o = 5 + (8 + o) by omega, pastHead, be64, imageNat_skip (n := 8) (beBytes_length ..)]
  refine ⟨?_, ?_, ?_, ?_, ?_, ?_⟩
  · exact (imageNat_skip (n := 4) rfl 0 1).trans (imageNat_front (beBytes_length ..))
  · exact (pastHead _ 0 8).trans (imageNat_front (beBytes_length ..))
  · exact (pastIdentity _ 0 2).trans (imageNat_front (beBytes_length ..))
  · exact (pastIdentity _ 2 2).trans ((imageNat_skip (n := 2) (beBytes_length ..) 0 2).trans (imageNat_front (beBytes_length ..)))
  · exact (pastIdentity _ 4 2).trans ((imageNat_skip (n := 2) (beBytes_length ..) 2 2).trans
      ((imageNat_skip (n := 2) (beBytes_length ..) 0 2).trans (imageNat_front (beBytes_length ..))))
  · exact (pastIdentity _ 6 4).trans ((imageNat_skip (n := 2) (beBytes_length ..) 4 4).trans
      ((imageNat_skip (n := 2) (beBytes_length ..) 2 4).trans ((imageNat_skip (n := 2) (beBytes_length ..) 0 4).trans
        (imageNat_front (beBytes_length ..)))))

theorem drop_grid : ((i.bytes sd).drop 23).take 128 = gridBytes i := by
  have whole : i.bytes sd = (imageHead i sd ++ beBytes 1 i.e ++ be64 i.identity ++ beBytes 2 i.gainR ++ beBytes 2 i.gainB
      ++ beBytes 2 i.backlight ++ beBytes 4 i.framesAdapted) ++ (gridBytes i ++ (tagBytes i.tags ++ be32 (crc32 (i.body sd)))) := by
    rw [Image.bytes_eq]; simp only [List.append_assoc]
  rw [whole, List.drop_left' (by simp [imageHead, be64, beBytes_length]), List.take_left' (gridBytes_length i)]

theorem drop_tags : ((i.bytes sd).drop 151).take 16 = tagBytes i.tags := by
  have whole : i.bytes sd = (imageHead i sd ++ beBytes 1 i.e ++ be64 i.identity ++ beBytes 2 i.gainR ++ beBytes 2 i.gainB
      ++ beBytes 2 i.backlight ++ beBytes 4 i.framesAdapted ++ gridBytes i) ++ (tagBytes i.tags ++ be32 (crc32 (i.body sd))) := by
    rw [Image.bytes_eq]; simp only [List.append_assoc]
  rw [whole, List.drop_left' (by simp [imageHead, be64, beBytes_length, gridBytes_length]), List.take_left' (tagBytes_length _)]

theorem head_bytes :
    imageNat (i.bytes sd) 0 1 = 1 ∧ imageNat (i.bytes sd) 1 1 = sideCode sd ∧ imageNat (i.bytes sd) 3 1 = i.night.code.toNat
      ∧ ((i.bytes sd).getD 2 0).getLsbD 0 = i.settled ∧ ((i.bytes sd).getD 2 0).getLsbD 1 = i.resetAfter := by
  rw [Image.bytes_eq]
  refine ⟨rfl, ?_, ?_, ?_, ?_⟩
  · cases sd <;> rfl
  · show beNat [i.night.code] = _
    simp [beNat]
  · show (BitVec.ofNat 8 ((if i.settled then 1 else 0) + (if i.resetAfter then 2 else 0))).getLsbD 0 = i.settled
    cases i.settled <;> cases i.resetAfter <;> rfl
  · show (BitVec.ofNat 8 ((if i.settled then 1 else 0) + (if i.resetAfter then 2 else 0))).getLsbD 1 = i.resetAfter
    cases i.settled <;> cases i.resetAfter <;> rfl

end

/-- An image whose fields are within their ranges is read as it was taken. -/
theorem parseImage_bytes {i : Image} (sd : Side) (he : i.e < 256) (hgr : i.gainR < 65536) (hgb : i.gainB < 65536) (hb : i.backlight < 65536)
    (hf : i.framesAdapted < 4294967296) (hgrid : i.grid.length = 128) (hle : ∀ g ∈ i.grid, g ≤ 96) (htags : i.tags.length = 128) :
    parseImage sd (i.bytes sd) = .ok i := by
  obtain ⟨version, side, night, settled, reset⟩ := head_bytes i sd
  obtain ⟨e, identity, gainR, gainB, backlight, frames⟩ := imageNat_bytes i sd
  have grid : (gridBytes i).map BitVec.toNat = i.grid := grid_bytes hgrid hle
  have inRange : ¬∃ b ∈ ((i.bytes sd).drop 23).take 128, 96 < b.toNat := by
    rw [drop_grid]
    rintro ⟨b, hmem, hbig⟩
    have member : b.toNat ∈ i.grid := by rw [← grid]; exact List.mem_map_of_mem hmem
    exact absurd (hle _ member) (by omega)
  rw [parseImage_accepted (Image.bytes_crc i sd).symm version side (by rw [night]; exact nightOf_code i.night) inRange]
  have read : imageOf (i.bytes sd) i.night = i := by
    simp only [imageOf, settled, reset, e, identity, gainR, gainB, backlight, frames, drop_grid, drop_tags, grid, tagsOf_tagBytes htags,
      ImageDevelopment.beNat_beBytes (k := 1) he, ImageDevelopment.beNat_beBytes (k := 2) hgr, ImageDevelopment.beNat_beBytes (k := 2) hgb,
      ImageDevelopment.beNat_beBytes (k := 2) hb, ImageDevelopment.beNat_beBytes (k := 4) hf, be64,
      ImageDevelopment.beNat_beBytes (k := 8) i.identity.isLt]
    simp
  rw [read]

theorem Image.bytes_length (i : Image) (sd : Side) : (i.bytes sd).length = 171 := by
  rw [Image.bytes, List.length_append, Image.body_length]
  simp [be32, beBytes_length]

/-- Settles O57: the round trip through the accepted case of CTX_LOAD. -/
theorem savedImageLoadsBack : Obligations.SavedImageLoadsBack := by
  intro head sd i s he hgr hgb hb hf hgrid hle htags hnot h
  have hlen := Image.bytes_length i sd
  have run : exec (.ctxLoad head (BitVec.ofNat 8 (sideCode sd)) (i.bytes sd)) s
      = .next (carryOut .ctxLoad head.tag (BitVec.ofNat 8 (sideCode sd) :: i.bytes sd) (taken head s)) :=
    exec_of_suited (k := .ctxLoad) (exec_request rfl (by simp [Instr.wellFormed, payloadFits, hlen]) s) h
      (by simp [unsuited, lengthResult, hlen])
  refine ⟨_, run, hlen, ?_⟩
  rw [carryOut_ctxLoad_ok head.tag (taken head s) (sd := sd) (by cases sd <;> rfl) hnot
    (parseImage_bytes sd he hgr hgb hb hf hgrid hle htags)]
  exact acceptImage_accepts h i

end Sys2Proof.Proofs.ContextRequests
end

section
set_option Elab.async false
/-! What a SET leaves of each field, by the field's kind (R167; O50). -/

namespace Sys2Proof.Proofs.SetFields

open Sys2Proof Sys2Proof.Machine

/-! ### Masks -/

theorem maskOf_cons (b : Bool) (l : List Bool) : maskOf (b :: l) = (maskOf l <<< 1) ||| (if b then 1#32 else 0#32) := by
  simp [maskOf, List.foldl_append]

/-- Field i of a mask is its bit i. -/
theorem maskOf_bit (l : List Bool) {i : Nat} (h : i < 32) : (maskOf l).getLsbD i = l.getD i false := by
  induction l generalizing i with
  | nil => simp [maskOf]
  | cons b l ih =>
    rw [maskOf_cons]
    cases i with
    | zero => cases b <;> simp
    | succ i =>
      have tail := ih (i := i) (by omega)
      cases b <;> simp_all

/-! ### The kinds of field -/

section
variable {lo hi : Nat}

theorem clampField_numeric (v old : Option Nat) : NumericField lo hi v old (clampField lo hi v old) (outOf lo hi v) := by
  refine ⟨?_, ?_⟩
  · rintro rfl
    exact ⟨rfl, rfl⟩
  · rintro x rfl
    exact ⟨rfl, by simp [outOf]⟩

/-- A numeric field of an active copy. -/
theorem clampField_active (v : Option Nat) (x : Nat) :
    NumericField lo hi v (some x) (some ((clampField lo hi v none).getD x)) (outOf lo hi v) := by
  have same : some ((clampField lo hi v none).getD x) = clampField lo hi v (some x) := by cases v <;> rfl
  rw [same]
  exact clampField_numeric v (some x)

theorem clampSigned_signed {lo hi : Int} (v old : Option Int) : SignedField lo hi v old (clampSigned lo hi v old) (outOfSigned lo hi v) := by
  refine ⟨?_, ?_⟩
  · rintro rfl
    exact ⟨rfl, rfl⟩
  · rintro x rfl
    exact ⟨rfl, by simp [outOfSigned]⟩

theorem choiceField_choice (v : Option Nat) (old : Option Bool) : ChoiceField v old (choiceField v old) (choiceIgnored v) := by
  refine ⟨?_, ?_, ?_, ?_⟩
  · rintro rfl; exact ⟨rfl, rfl⟩
  · rintro rfl; exact ⟨rfl, rfl⟩
  · rintro rfl; exact ⟨rfl, rfl⟩
  · rintro x rfl hx
    obtain ⟨y, rfl⟩ : ∃ y, x = y + 2 := ⟨x - 2, by omega⟩
    exact ⟨rfl, by simp [choiceIgnored, outOf]⟩

/-- A structural field, by its check. -/
theorem structField_none {α : Type} (ok : α → Bool) (old : Option α) :
    structField ok none old = old ∧ structIgnored ok none = false := ⟨rfl, rfl⟩

theorem structField_ok {α : Type} {ok : α → Bool} {x : α} (h : ok x = true) (old : Option α) :
    structField ok (some x) old = some x ∧ structIgnored ok (some x) = false := by
  simp [structField, structIgnored, h]

theorem structField_bad {α : Type} {ok : α → Bool} {x : α} (h : ok x = false) (old : Option α) :
    structField ok (some x) old = old ∧ structIgnored ok (some x) = true := by
  simp [structField, structIgnored, h]

/-- What the next application would give a field of a pair. -/
theorem orElse_getD (v old : Option Nat) (x : Nat) : (v <|> old).getD x = v.getD (old.getD x) := by cases v <;> rfl

theorem pairField_ok (v old : Option Nat) (x : Nat) : (pairField true v old).getD x = v.getD (old.getD x) := orElse_getD v old x

theorem pairField_bad (v old : Option Nat) : pairField false v old = old := rfl

end

/-! ### Windows and the palette (R78) -/

theorem windowOk_iff {th th' : Nat} (h : th = 2 * th') (w : Window) :
    windowOk th w = true ↔ w.x + w.w ≤ 1920 ∧ w.y + w.h ≤ 1080 ∧ 400 ≤ w.w ∧ th' ≤ w.h := by
  simp only [windowOk, Bool.and_eq_true, decide_eq_true_eq]
  omega

theorem palette_clamped_iff (b : List Byte) :
    ((paletteOf b).map clampColour ≠ paletteOf b) ↔ ∃ x ∈ words16 12 b, 1023 < x := by
  rw [← not_iff_not]
  simp [paletteOf, colourOf, words16, clampColour, List.range_succ]

/-! ### The groups -/

section
variable {l : List Bool} {i : Nat}

/-- A numeric field with its bit in the clamped mask. -/
theorem numeric_at {lo hi : Nat} {v : Option Nat} (old : Option Nat) (hi' : i < 32) (hl : l.getD i false = outOf lo hi v) :
    NumericField lo hi v old (clampField lo hi v old) ((maskOf l).getLsbD i) := by
  rw [maskOf_bit l hi', hl]
  exact clampField_numeric v old

theorem active_at {lo hi : Nat} {v : Option Nat} (x : Nat) (hi' : i < 32) (hl : l.getD i false = outOf lo hi v) :
    NumericField lo hi v (some x) (some ((clampField lo hi v none).getD x)) ((maskOf l).getLsbD i) := by
  rw [maskOf_bit l hi', hl]
  exact clampField_active v x

theorem signed_at {lo hi : Int} {v : Option Int} (old : Option Int) (hi' : i < 32) (hl : l.getD i false = outOfSigned lo hi v) :
    SignedField lo hi v old (clampSigned lo hi v old) ((maskOf l).getLsbD i) := by
  rw [maskOf_bit l hi', hl]
  exact clampSigned_signed v old

theorem choice_at {v : Option Nat} (old : Option Bool) (hi' : i < 32) (hl : l.getD i false = choiceIgnored v) :
    ChoiceField v old (choiceField v old) ((maskOf l).getLsbD i) := by
  rw [maskOf_bit l hi', hl]
  exact choiceField_choice v old

end

section
variable (f : Fields)

theorem writeExposure_kinds (act : ExposureGroup) (p : ExposurePending) :
    let w := writeExposure f act p
    let lo := (f.num 2).getD (p.eMin.getD act.eMin)
    let hi := (f.num 3).getD (p.eMax.getD act.eMax)
    (lo ≤ hi → w.value.eMin.getD act.eMin = lo ∧ w.value.eMax.getD act.eMax = hi ∧ w.ignored = 0)
      ∧ (hi < lo → w.value.eMin = p.eMin ∧ w.value.eMax = p.eMax
          ∧ w.ignored.getLsbD 2 = (f.num 2).isSome ∧ w.ignored.getLsbD 3 = (f.num 3).isSome) := by
  intro w lo hi
  have judged : ((f.num 2 <|> p.eMin)).getD act.eMin = lo ∧ ((f.num 3 <|> p.eMax)).getD act.eMax = hi :=
    ⟨orElse_getD .., orElse_getD ..⟩
  refine ⟨fun h => ?_, fun h => ?_⟩
  · have ok : decide (((f.num 2 <|> p.eMin)).getD act.eMin ≤ ((f.num 3 <|> p.eMax)).getD act.eMax) = true := by
      rw [judged.1, judged.2]; exact decide_eq_true h
    simp only [w, writeExposure, ok]
    refine ⟨pairField_ok .., pairField_ok .., ?_⟩
    simp
    rfl
  · have bad : decide (((f.num 2 <|> p.eMin)).getD act.eMin ≤ ((f.num 3 <|> p.eMax)).getD act.eMax) = false := by
      rw [judged.1, judged.2]; exact decide_eq_false (Nat.not_le.mpr h)
    simp only [w, writeExposure, bad]
    refine ⟨pairField_bad .., pairField_bad .., ?_, ?_⟩
    · rw [maskOf_bit _ (by decide)]; simp
    · rw [maskOf_bit _ (by decide)]; simp

theorem writeView_window {th th' : Nat} (h : th = 2 * th') (i : Nat) (old : Option Window) :
    let new := structField (windowOk th) ((f.raw i).map windowOf) old
    let ignored := structIgnored (windowOk th) ((f.raw i).map windowOf)
    (f.raw i = none → new = old ∧ ignored = false)
      ∧ ∀ b, f.raw i = some b →
        let v := windowOf b
        (v.x + v.w ≤ 1920 → v.y + v.h ≤ 1080 → 400 ≤ v.w → th' ≤ v.h → new = some v ∧ ignored = false)
          ∧ (1920 < v.x + v.w ∨ 1080 < v.y + v.h ∨ v.w < 400 ∨ v.h < th' → new = old ∧ ignored = true) := by
  intro new ignored
  refine ⟨fun hnone => ?_, fun b hsome => ⟨fun h₁ h₂ h₃ h₄ => ?_, fun hbad => ?_⟩⟩
  · simp only [new, ignored, hnone]
    exact structField_none ..
  · simp only [new, ignored, hsome]
    exact structField_ok ((windowOk_iff h _).mpr ⟨h₁, h₂, h₃, h₄⟩) old
  · simp only [new, ignored, hsome]
    refine structField_bad (Bool.eq_false_iff.mpr fun hok => ?_) old
    have := (windowOk_iff h _).mp hok
    omega

theorem writeTone_curve (i : Nat) (old : Option Curve) :
    let new := structField curveOk ((f.raw i).map (words16 21)) old
    let ignored := structIgnored curveOk ((f.raw i).map (words16 21))
    (f.raw i = none → new = old ∧ ignored = false)
      ∧ ∀ b, f.raw i = some b →
        (curveOk (words16 21 b) = true → new = some (words16 21 b) ∧ ignored = false)
          ∧ (curveOk (words16 21 b) = false → new = old ∧ ignored = true) := by
  intro new ignored
  refine ⟨fun hnone => ?_, fun b hsome => ⟨fun hok => ?_, fun hbad => ?_⟩⟩
  · simp only [new, ignored, hnone]; exact structField_none ..
  · simp only [new, ignored, hsome]; exact structField_ok hok old
  · simp only [new, ignored, hsome]; exact structField_bad hbad old

end

/-- A pair that a SET judges together: taken where the judgement `ok` accepts it, kept and ignored where it does not. -/
theorem pair_kinds {ok : Bool} {v v' old old' : Option Nat} {x x' : Nat} {l : List Bool} {i j : Nat} (hi : i < 32) (hj : j < 32)
    (li : l.getD i false = (v.isSome && !ok)) (lj : l.getD j false = (v'.isSome && !ok)) :
    (ok = true → (pairField ok v old).getD x = v.getD (old.getD x) ∧ (pairField ok v' old').getD x' = v'.getD (old'.getD x')
        ∧ (maskOf l).getLsbD i = false ∧ (maskOf l).getLsbD j = false)
      ∧ (ok = false → pairField ok v old = old ∧ pairField ok v' old' = old'
        ∧ (maskOf l).getLsbD i = v.isSome ∧ (maskOf l).getLsbD j = v'.isSome) := by
  rw [maskOf_bit l hi, maskOf_bit l hj, li, lj]
  refine ⟨?_, ?_⟩
  · rintro rfl
    exact ⟨pairField_ok .., pairField_ok .., Bool.and_false _, Bool.and_false _⟩
  · rintro rfl
    exact ⟨pairField_bad .., pairField_bad .., Bool.and_true _, Bool.and_true _⟩

/-- R51: the pairs of NIGHT are judged by the values they would have together. -/
theorem nightPair_ok {v v' old old' : Option Nat} {x x' : Nat} :
    decide ((v <|> old).getD x < (v' <|> old').getD x') = decide (v.getD (old.getD x) < v'.getD (old'.getD x')) := by
  rw [orElse_getD, orElse_getD]

/-- Settles O50: each field of each group by the kind it has. -/
theorem setFieldsFollowTheirKind : Obligations.SetFieldsFollowTheirKind := by
  intro f
  refine ⟨fun act p => ?_, fun p => ?_, fun p => ?_, fun p => ?_, fun act p => ?_, fun p => ?_, fun g => ?_⟩
  · obtain ⟨accepted, kept⟩ := writeExposure_kinds f act p
    refine ⟨numeric_at _ (by decide) rfl, numeric_at _ (by decide) rfl, accepted, kept, numeric_at _ (by decide) rfl,
      numeric_at _ (by decide) rfl, numeric_at _ (by decide) rfl, fun hnone => ?_, fun b hsome => ?_⟩
    · simp [writeExposure, hnone]
    · refine ⟨meteringOf b, by simp [writeExposure, hsome], by simp [meteringOf, zones_length], fun n hn => ?_⟩
      exact CommitSteps.zones_map_getD _ 0 hn
  · exact ⟨choice_at _ (by decide) rfl, numeric_at _ (by decide) rfl, numeric_at _ (by decide) rfl, numeric_at _ (by decide) rfl,
      numeric_at _ (by decide) rfl, numeric_at _ (by decide) rfl, numeric_at _ (by decide) rfl, numeric_at _ (by decide) rfl,
      numeric_at _ (by decide) rfl⟩
  · obtain ⟨dayNone, daySome⟩ := writeTone_curve f 0 p.day
    obtain ⟨nightNone, nightSome⟩ := writeTone_curve f 1 p.night
    intro w
    have dayBit : w.ignored.getLsbD 0 = structIgnored curveOk ((f.raw 0).map (words16 21)) := maskOf_bit _ (by decide)
    have nightBit : w.ignored.getLsbD 1 = structIgnored curveOk ((f.raw 1).map (words16 21)) := maskOf_bit _ (by decide)
    rw [dayBit, nightBit]
    exact ⟨dayNone, nightNone, daySome, nightSome⟩
  · obtain ⟨mainNone, mainSome⟩ := writeView_window f (th := 960) (th' := 480) rfl 0 p.mainWindow
    obtain ⟨wideNone, wideSome⟩ := writeView_window f (th := 320) (th' := 160) rfl 1 p.wideWindow
    intro w
    have mainBit : w.ignored.getLsbD 0 = structIgnored (windowOk 960) ((f.raw 0).map windowOf) := maskOf_bit _ (by decide)
    have wideBit : w.ignored.getLsbD 1 = structIgnored (windowOk 320) ((f.raw 1).map windowOf) := maskOf_bit _ (by decide)
    rw [mainBit, wideBit]
    refine ⟨mainNone, mainSome, wideNone, wideSome, choice_at _ (by decide) rfl, choice_at _ (by decide) rfl, numeric_at _ (by decide) rfl,
      numeric_at _ (by decide) rfl, numeric_at _ (by decide) rfl, fun hnone => ⟨?_, ?_⟩, fun b hsome => ⟨?_, ?_⟩⟩
    · simp [w, writeView, hnone]
    · simp only [w, writeView, hnone, Option.map_none]
      rw [maskOf_bit _ (by decide)]
      rfl
    · simp only [w, writeView, hsome, Option.map_some]
      rfl
    · simp only [w, writeView, hsome, Option.map_some]
      rw [maskOf_bit _ (by decide)]
      exact decide_eq_decide.mpr (palette_clamped_iff b)
  · intro w dusk night luxDusk luxNight
    let okE := decide (((f.num 0 <|> p.eDusk)).getD act.eDusk < ((f.num 1 <|> p.eNight)).getD act.eNight)
    let okLux := decide (((f.num 4 <|> p.luxNight)).getD act.luxNight < ((f.num 3 <|> p.luxDusk)).getD act.luxDusk)
    let out : List Bool := [(f.num 0).isSome && !okE, (f.num 1).isSome && !okE, false, (f.num 3).isSome && !okLux,
      (f.num 4).isSome && !okLux]
    obtain ⟨edgeOk, edgeBad⟩ := pair_kinds (ok := okE) (v := f.num 0) (v' := f.num 1) (old := p.eDusk) (old' := p.eNight)
      (x := act.eDusk) (x' := act.eNight) (l := out) (i := 0) (j := 1) (by decide) (by decide) rfl rfl
    obtain ⟨luxOk, luxBad⟩ := pair_kinds (ok := okLux) (v := f.num 3) (v' := f.num 4) (old := p.luxDusk) (old' := p.luxNight)
      (x := act.luxDusk) (x' := act.luxNight) (l := out) (i := 3) (j := 4) (by decide) (by decide) rfl rfl
    exact ⟨fun h => edgeOk (nightPair_ok.trans (decide_eq_true h)),
      fun h => edgeBad (nightPair_ok.trans (decide_eq_false (Nat.not_lt.mpr h))), numeric_at _ (by decide) rfl,
      fun h => luxOk (nightPair_ok.trans (decide_eq_true h)),
      fun h => luxBad (nightPair_ok.trans (decide_eq_false (Nat.not_lt.mpr h))), numeric_at _ (by decide) rfl⟩
  · exact ⟨numeric_at _ (by decide) rfl, numeric_at _ (by decide) rfl, numeric_at _ (by decide) rfl, signed_at _ (by decide) rfl,
      signed_at _ (by decide) rfl⟩
  · exact ⟨active_at _ (by decide) rfl, active_at _ (by decide) rfl, active_at _ (by decide) rfl, active_at _ (by decide) rfl,
      active_at _ (by decide) rfl⟩

end Sys2Proof.Proofs.SetFields
end

section
set_option Elab.async false
/-! SET: what is refused, where each group's write goes, and the effects of a FAULT write (R167, R170, R122; O49). -/

namespace Sys2Proof.Proofs.SetRequests

open Sys2Proof Sys2Proof.Machine Sys2Proof.Proofs.Blocks Sys2Proof.Proofs.SharedEffects Sys2Proof.Proofs.Judgements
  Sys2Proof.Proofs.SavesEnd Sys2Proof.Proofs.PathFailure Sys2Proof.Proofs.Answers Sys2Proof.Proofs.WholeRequests
  Sys2Proof.Proofs.PlainRequests

/-! ### hold_limit judged at both displays (R104, R122) -/

/-- A write of hold_limit ends the hold of a side. -/
def holdEnds (written : Bool) (sd : Side) (s : State) : Bool :=
  written && decide ((s.display sd).state = .hold) && s.faults.viewLoss sd && decide (s.faults.group.holdLimit ≤ (s.display sd).holdCount)

/-- The report of a hold that ends. -/
def holdReport (written : Bool) (sd : Side) (s : State) : List Report :=
  if holdEnds written sd s then [.displayChanged sd .hold .blanked] else []

/-- The judgement of both holds, LEFT before RIGHT. -/
def judgeHolds (written : Bool) (s : State) : State := if written then expireHold .right (expireHold .left s) else s

theorem holdEnds_iff {sd : Side} {s : State} : holdEnds true sd s = true ↔
    (s.display sd).state = .hold ∧ s.faults.viewLoss sd = true ∧ s.faults.group.holdLimit ≤ (s.display sd).holdCount := by
  simp [holdEnds, and_assoc]

theorem expireHold_stands {sd : Side} {s : State} (h : holdEnds true sd s = false) : expireHold sd s = s := by
  have no : ¬((s.display sd).state = .hold ∧ s.faults.viewLoss sd = true ∧ s.faults.group.holdLimit ≤ (s.display sd).holdCount) :=
    fun hyes => by simp [holdEnds_iff.mpr hyes] at h
  unfold expireHold
  split
  · next hhold => exact if_neg fun hrest => no ⟨hhold, hrest⟩
  · rfl

/-- What the judgement of one hold does. -/
theorem expireHold_spec (sd : Side) (s : State) :
    let t := expireHold sd s
    t.display sd = (if holdEnds true sd s then { s.display sd with state := .blanked } else s.display sd)
      ∧ t.queue = queueAfter s s.timebase (holdReport true sd s)
      ∧ (if holdEnds true sd s then BlankStarts sd true s t else ViewStands sd s t) := by
  intro t
  unfold holdReport
  by_cases h : holdEnds true sd s
  · obtain ⟨hhold, hloss, hlimit⟩ := holdEnds_iff.mp h
    have moved : t = changeDisplay sd .blanked s := expireHold_expires hhold hloss hlimit
    simp only [if_pos h, moved]
    refine ⟨changeDisplay_display sd .blanked s, ?_, changeDisplay_blanked_starts sd s⟩
    rw [changeDisplay_queue, hhold]
  · have stays : t = s := expireHold_stands (by simpa using h)
    rw [if_neg h, if_neg h, if_neg h, stays]
    exact ⟨rfl, rfl, rfl, rfl, rfl⟩

/-- The pieces of one side that the judgement of its hold can touch, and the queue. -/
abbrev holdParts (sd : Side) : List Part := [.queue, .display sd, .comp sd, .pipe sd, .store sd]

theorem freshAngle_of_unchanged {l : List Part} {s t : State} (h : Unchanged l s t)
    (hl : .vehicle ∉ l ∧ .expiries ∉ l := by simp) : t.freshAngle = s.freshAngle := by
  unfold State.freshAngle
  rw [(h .vehicle hl.1).1, (h .expiries hl.2).1]

/-- What the judgement of both holds does. -/
theorem judgeHolds_spec (written : Bool) (s : State) :
    let t := judgeHolds written s
    (∀ sd, t.display sd = if holdEnds written sd s then { s.display sd with state := .blanked } else s.display sd)
      ∧ (∀ sd, if holdEnds written sd s then BlankStarts sd true s t else ViewStands sd s t)
      ∧ t.queue = queueAfter s s.timebase (holdReport written .left s ++ holdReport written .right s)
      ∧ Unchanged (holdParts .left ++ holdParts .right) s t := by
  intro t
  cases written with
  | false => exact ⟨fun _ => rfl, fun _ => ⟨rfl, rfl, rfl⟩, rfl, .refl⟩
  | true =>
    obtain ⟨u, hu⟩ : ∃ u, u = expireHold .left s := ⟨_, rfl⟩
    have ht : t = expireHold .right u := by rw [hu]; rfl
    obtain ⟨leftDisplay, leftQueue, leftView⟩ := expireHold_spec .left s
    obtain ⟨rightDisplay, rightQueue, rightView⟩ := expireHold_spec .right u
    have leftFrame : Unchanged (holdParts .left) s u := hu ▸ unchanged_expireHold s .left
    have rightFrame : Unchanged (holdParts .right) u t := ht ▸ unchanged_expireHold u .right
    rw [← hu] at leftDisplay leftQueue leftView
    rw [← ht] at rightDisplay rightQueue rightView
    have displayU : u.display .right = s.display .right := leftFrame (.display .right) (by simp)
    have current : u.faults.current = s.faults.current := (leftFrame .faultSets (by simp)).1
    have group : u.faults.group = s.faults.group := leftFrame .faultGroup (by simp)
    have angle : u.freshAngle = s.freshAngle := freshAngle_of_unchanged leftFrame
    have compU : u.comp .right = s.comp .right := leftFrame (.comp .right) (by simp)
    have pipeU : u.pipe .right = s.pipe .right := leftFrame (.pipe .right) (by simp)
    have storeU : u.store .right = s.store .right := leftFrame (.store .right) (by simp)
    have ends : holdEnds true .right u = holdEnds true .right s := by
      simp only [holdEnds, displayU, group, Faults.viewLoss, current]
    have comp : t.comp .left = u.comp .left := rightFrame (.comp .left) (by simp)
    have pipe : t.pipe .left = u.pipe .left := rightFrame (.pipe .left) (by simp)
    have store : t.store .left = u.store .left := rightFrame (.store .left) (by simp)
    have report : holdReport true .right u = holdReport true .right s := by rw [holdReport, holdReport, ends]
    refine ⟨fun sd => ?_, fun sd => ?_, ?_, (leftFrame.mono (by simp)).trans (rightFrame.mono (by simp))⟩
    · cases sd with
      | left => exact (rightFrame (.display .left) (by simp)).trans leftDisplay
      | right => rw [rightDisplay, ends, displayU]
    · cases sd with
      | left =>
        by_cases h : holdEnds true .left s
        · rw [if_pos h] at leftView ⊢
          exact ScanStart.blankStarts_later leftView comp pipe store
        · rw [if_neg h] at leftView ⊢
          obtain ⟨hc, hp, hx⟩ := leftView
          exact ⟨comp.trans hc, pipe.trans hp, store.trans hx⟩
      | right =>
        rw [ends] at rightView
        by_cases h : holdEnds true .right s
        · rw [if_pos h] at rightView ⊢
          exact blankStarts_congr rightView compU.symm pipeU.symm storeU.symm angle.symm
        · rw [if_neg h] at rightView ⊢
          obtain ⟨hc, hp, hx⟩ := rightView
          exact ⟨hc.trans compU, hp.trans pipeU, hx.trans storeU⟩
    · rw [rightQueue, queueAfter_append, report, leftFrame .timebase (by simp)]
      exact queueAfter_congr _ _ leftQueue group

/-! ### vehicle_input_timeout applied (R121, R122) -/

/-- The effects of a write of vehicle_input_timeout. -/
def judgeTimeout (written : Bool) (s : State) : State := if written then applyTimeout s else s

theorem judgeTimeout_spec (written : Bool) (s : State) :
    let t := judgeTimeout written s
    let judged : Bool := written && s.awake
    let ms := s.faults.group.vehicleTimeout
    t.faults.expiryAngle =
        (if written then momentUnder ms s.timebase (s.link.angle.map Prod.snd) s.faults.expiryAngle else s.faults.expiryAngle)
      ∧ t.faults.expiryLux =
        (if written then momentUnder ms s.timebase (s.link.lux.map Prod.snd) s.faults.expiryLux else s.faults.expiryLux)
      ∧ FaultSet.has t.faults.current .vehicleInputStale =
        (if judged then (s.link.angle.isSome && t.faults.expiryAngle.isNone) || (s.link.lux.isSome && t.faults.expiryLux.isNone)
          else FaultSet.has s.faults.current .vehicleInputStale)
      ∧ FaultsMove [.vehicleInputStale] s t
      ∧ t.queue = queueAfter s s.timebase (if judged then movedReport .vehicleInputStale s t else [])
      ∧ Unchanged [.expiries, .faultSets, .queue] s t := by
  intro t judged ms
  cases written with
  | false => exact ⟨rfl, rfl, rfl, (judged_same _ s).moves, rfl, .refl⟩
  | true =>
    obtain ⟨u, hu⟩ : ∃ u, u = s.setFaults
      { s.faults with
        expiryAngle := momentUnder ms s.timebase (s.link.angle.map Prod.snd) s.faults.expiryAngle
        expiryLux := momentUnder ms s.timebase (s.link.lux.map Prod.snd) s.faults.expiryLux } := ⟨_, rfl⟩
    have ht : t = judgeVehicle u := by rw [hu]; rfl
    have frameU : Unchanged [.expiries] s u := by
      rw [hu]; intro p hp; cases p <;> first | rfl | simp_all [Part.same]
    have frameT : Unchanged [.faultSets, .queue] u t := ht ▸ unchanged_judgeVehicle u
    obtain ⟨expiryA, expiryL⟩ := frameT .expiries (by simp)
    have expiryAU : u.faults.expiryAngle = momentUnder ms s.timebase (s.link.angle.map Prod.snd) s.faults.expiryAngle := by rw [hu]; rfl
    have expiryLU : u.faults.expiryLux = momentUnder ms s.timebase (s.link.lux.map Prod.snd) s.faults.expiryLux := by rw [hu]; rfl
    have powerU : u.awake = s.awake := by rw [hu]; rfl
    have timeU : u.timebase = s.timebase := frameU .timebase (by simp)
    have frame : Unchanged [.expiries, .faultSets, .queue] s t := (frameU.mono (by simp)).trans (frameT.mono (by simp))
    have staleU : u.vehicleStale
        = ((s.link.angle.isSome && t.faults.expiryAngle.isNone) || (s.link.lux.isSome && t.faults.expiryLux.isNone)) := by
      obtain ⟨hangle, hlux⟩ : u.link.angle = s.link.angle ∧ u.link.lux = s.link.lux := frameU .vehicle (by simp)
      rw [expiryA, expiryL, ← hangle, ← hlux]
      rfl
    refine ⟨expiryA.trans expiryAU, expiryL.trans expiryLU, ?_⟩
    by_cases hawake : s.awake
    · have on : judged = true := by simp [judged, hawake]
      obtain ⟨sets, queue⟩ := judgeVehicle_awake frameU (powerU.trans hawake)
      rw [← ht, timeU] at queue
      rw [← ht] at sets
      rw [if_pos on, if_pos on, ← staleU]
      by_cases hstale : u.vehicleStale
      · rw [if_pos hstale] at sets queue
        have there : FaultSet.has t.faults.current .vehicleInputStale = true := by simp [(has_of_raised sets).1]
        refine ⟨there.trans hstale.symm, faultsMove_of_raised sets, ?_, frame⟩
        rw [queue, movedReport, if_pos there]
      · rw [if_neg hstale] at sets queue
        have gone : FaultSet.has t.faults.current .vehicleInputStale = false := by simp [(has_of_cleared sets).1]
        refine ⟨gone.trans (by simpa using hstale), faultsMove_of_cleared sets, ?_, frame⟩
        rw [queue, movedReport, if_neg (by simp [gone])]
    · have off : ¬judged = true := by simp [judged, hawake]
      have same : t = u := ht.trans (judgeVehicle_asleep (powerU.trans (by simpa using hawake)))
      obtain ⟨current, accrued⟩ := frameU .faultSets (by simp)
      rw [if_neg off, if_neg off, same]
      exact ⟨by rw [current], ⟨fun g _ => by rw [current], fun g => by rw [current, accrued]; simp⟩, frameU .queue (by simp),
        frameU.mono (by simp)⟩

/-! ### The FAULT group written (R122) -/

/-- The effects of a FAULT write, ATTN judged last. -/
theorem applyFaultFields_judges (f : Fields) (s : State) : applyFaultFields f s =
    if (f.raw 4).isSome then (judgeTimeout (f.raw 3).isSome (judgeHolds (f.raw 1).isSome s)).judgeAttn
    else judgeTimeout (f.raw 3).isSome (judgeHolds (f.raw 1).isSome s) := rfl

/-- What a write of the FAULT group leaves. -/
def writtenFaults (f : Fields) (s : State) : State :=
  applyFaultFields f (s.setFaults { s.faults with group := (writeFault f s.faults.group).value })

theorem writtenFaults_applied (f : Fields) (s : State) :
    let t := writtenFaults f s
    t.faults.group = (writeFault f s.faults.group).value ∧ FaultFieldsApplied f s t
      ∧ Unchanged (.faultGroup :: .expiries :: bothFaultParts) s t := by
  intro t
  obtain ⟨u, hu⟩ : ∃ u, u = s.setFaults { s.faults with group := (writeFault f s.faults.group).value } := ⟨_, rfl⟩
  obtain ⟨v, hv⟩ : ∃ v, v = judgeHolds (f.raw 1).isSome u := ⟨_, rfl⟩
  obtain ⟨w, hw⟩ : ∃ w, w = judgeTimeout (f.raw 3).isSome v := ⟨_, rfl⟩
  have ht : t = if (f.raw 4).isSome then w.judgeAttn else w := by
    rw [hw, hv, hu]
    exact applyFaultFields_judges f _
  have frameU : Unchanged [.faultGroup] s u := by
    rw [hu]; intro p hp; cases p <;> first | rfl | simp_all [Part.same]
  have groupU : u.faults.group = (writeFault f s.faults.group).value := by rw [hu]; rfl
  obtain ⟨displayV, viewV, queueV, frameV⟩ := judgeHolds_spec (f.raw 1).isSome u
  rw [← hv] at displayV viewV queueV frameV
  obtain ⟨angleW, luxW, staleW, movesW, queueW, frameW⟩ := judgeTimeout_spec (f.raw 3).isSome v
  rw [← hw] at angleW luxW staleW movesW queueW frameW
  have frameT : Unchanged [.queue] w t := by
    rw [ht]; split
    · exact unchanged_judgeAttn w
    · exact .refl
  have groupW : w.faults.group = u.faults.group := (frameW .faultGroup (by simp)).trans (frameV .faultGroup (by simp))
  have groupT : t.faults.group = u.faults.group := (frameT .faultGroup (by simp)).trans groupW
  obtain ⟨currentT, accruedT⟩ := frameT .faultSets (by simp)
  obtain ⟨expiryAT, expiryLT⟩ := frameT .expiries (by simp)
  have frameSV : Unchanged (.faultGroup :: (holdParts .left ++ holdParts .right)) s v :=
    (frameU.mono (by simp)).trans (frameV.mono (by simp))
  have frameVT : Unchanged [.expiries, .faultSets, .queue] v t := (frameW.mono (by simp)).trans (frameT.mono (by simp))
  obtain ⟨currentV, accruedV⟩ := frameSV .faultSets (by simp)
  obtain ⟨angleV, luxV⟩ := frameSV .vehicle (by simp)
  obtain ⟨expiryAV, expiryLV⟩ := frameSV .expiries (by simp)
  have timeV : v.timebase = s.timebase := frameSV .timebase (by simp)
  have awakeV : v.awake = s.awake := by unfold State.awake; rw [frameSV .power (by simp)]
  have groupV : v.faults.group = t.faults.group := (frameVT .faultGroup (by simp)).symm
  have frame : Unchanged (.faultGroup :: .expiries :: bothFaultParts) s t :=
    (frameSV.mono (by simp [bothFaultParts, faultParts])).trans (frameVT.mono (by simp [bothFaultParts, faultParts]))
  have moved : movedReport .vehicleInputStale v w = movedReport .vehicleInputStale s t :=
    movedReport_congr (frameSV .masks (by simp)) (by rw [currentV]) (by rw [currentT])
  have u_eq : u = { s with faults := { s.faults with group := t.faults.group } } := by rw [groupT, hu]; rfl
  rw [groupV, timeV, angleV, expiryAV] at angleW
  rw [groupV, timeV, luxV, expiryLV] at luxW
  rw [awakeV, angleV, luxV, ← expiryAT, ← expiryLT, ← currentT, currentV] at staleW
  rw [awakeV, timeV, moved] at queueW
  rw [u_eq] at displayV viewV queueV
  refine ⟨groupT.trans groupU, ⟨fun sd => ?_, fun sd => ?_, expiryAT.trans angleW, expiryLT.trans luxW, staleW, ?_, ?_⟩, frame⟩
  · exact (frameVT (.display sd) (by simp)).trans (displayV sd)
  · have view := viewV sd
    have comp : t.comp sd = v.comp sd := frameVT (.comp sd) (by simp)
    have pipe : t.pipe sd = v.pipe sd := frameVT (.pipe sd) (by simp)
    have store : t.store sd = v.store sd := frameVT (.store sd) (by simp)
    split at view
    · next h =>
      refine Eq.mpr (if_pos h) ?_
      exact ScanStart.blankStarts_later (blankStarts_congr view rfl rfl rfl rfl) comp pipe store
    · next h =>
      refine Eq.mpr (if_neg h) ?_
      obtain ⟨hc, hp, hx⟩ := view
      exact ⟨comp.trans hc, pipe.trans hp, store.trans hx⟩
  · obtain ⟨kept, entered⟩ := movesW
    refine ⟨fun g hg => ?_, fun g => ?_⟩
    · rw [currentT, kept g hg, currentV]
    · rw [accruedT, currentT, entered g, accruedV, currentV]
  · have reports : w.queue = queueAfter { s with faults := { s.faults with group := t.faults.group } } s.timebase
        (holdReport (f.raw 1).isSome .left { s with faults := { s.faults with group := t.faults.group } }
          ++ holdReport (f.raw 1).isSome .right { s with faults := { s.faults with group := t.faults.group } }
          ++ if (f.raw 3).isSome && s.awake then movedReport .vehicleInputStale s t else []) := by
      rw [queueW, queueAfter_append]
      exact queueAfter_congr _ _ queueV groupV
    have judged : t.queue = if (f.raw 4).isSome
        then { w.queue with attn := attnLevel t.faults.group.attentionThreshold w.queue.entries } else w.queue := by
      rw [groupT, ← groupW, ht]
      split <;> rfl
    rw [judged, reports]
    rfl

end Sys2Proof.Proofs.SetRequests
end

section
set_option Elab.async false
/-! SET from its payload to its reply (R166, R167, R170; O49). -/

namespace Sys2Proof.Proofs.SetReplies

open Sys2Proof Sys2Proof.Machine Sys2Proof.Proofs.SetRequests Sys2Proof.Proofs.Answers Sys2Proof.Proofs.WholeRequests
  Sys2Proof.Proofs.PlainRequests Sys2Proof.Proofs.SavesEnd

/-! ### The payload of a SET -/

section
variable (group scope : Byte) (mask : BitVec 32) (values : List Byte)

theorem setPayload_length : (setPayload group scope mask values).length = 6 + values.length := by
  simp [setPayload, be32, beBytes_length]
  omega

theorem setMask_setPayload : setMask (setPayload group scope mask values) = mask := by
  have word : ((setPayload group scope mask values).drop 2).take 4 = be32 mask :=
    List.take_left' (by simp [be32, beBytes_length])
  rw [setMask, word, beNat_be32]
  simp

theorem setFields_setPayload (g : Group) :
    setFields g (setPayload group scope mask values) = ⟨splitFields g.widths 0 mask values⟩ := by
  have rest : (setPayload group scope mask values).drop 6 = values :=
    show (be32 mask ++ values).drop 4 = values from List.drop_left' (by simp [be32, beBytes_length])
  rw [setFields, setMask_setPayload, rest]

theorem groupOf_beyond (h : 6 < group.toNat) : groupOf group = none := by
  have apart (a : Byte) (ha : a.toNat ≤ 6) : group ≠ a := fun he => by rw [he] at h; omega
  simp [groupOf, apart]

/-- Step 4 for a SET of no group (R170). -/
theorem unsuited_of_noGroup (h : groupOf group = none) : unsuited .set (setPayload group scope mask values) = some .badArgument := by
  show setUnsuited (setPayload group scope mask values) = _
  rw [setUnsuited, if_neg (by rw [setPayload_length]; omega), show (setPayload group scope mask values).getD 0 0 = group from rfl, h]

/-- Step 4 for a SET of a group: the mask, then the length. -/
theorem unsuited_of_group {g : Group} (h : groupOf group = some g) : unsuited .set (setPayload group scope mask values) =
    if maskFits g mask then lengthResult (decide (values.length = presentWidth g.widths 0 mask)) else some .badArgument := by
  show setUnsuited (setPayload group scope mask values) = _
  rw [setUnsuited, if_neg (by rw [setPayload_length]; omega), show (setPayload group scope mask values).getD 0 0 = group from rfl, h,
    setMask_setPayload, setPayload_length]
  simp only [Nat.add_left_cancel_iff]

end

/-! ### The scope -/

theorem scopeSides_side {g : Group} {scope : Byte} {sd : Side} (hg : g.isSideGroup = true) (h : scope.toNat = sideCode sd) :
    scopeSides g scope = some [sd] := by
  have three : scope ≠ 3 := fun he => by rw [he] at h; cases sd <;> exact absurd h (by decide)
  rw [scopeSides, if_pos hg, if_neg three, sideOf_code h]
  rfl

theorem scopeSides_both {g : Group} (hg : g.isSideGroup = true) : scopeSides g 3 = some [.left, .right] := by
  rw [scopeSides, if_pos hg, if_pos rfl]

theorem scopeSides_beyond {g : Group} {scope : Byte} (hg : g.isSideGroup = true) (h : scope = 2 ∨ 3 < scope.toNat) :
    scopeSides g scope = none := by
  have three : scope ≠ 3 := by
    rintro rfl
    rcases h with h | h
    · exact absurd h (by decide)
    · exact absurd h (by decide)
  have beyond : 1 < scope.toNat := by
    rcases h with rfl | h
    · decide
    · omega
  rw [scopeSides, if_pos hg, if_neg three, sideOf_beyond beyond]
  rfl

theorem scopeSides_common {g : Group} (hg : g.isSideGroup = false) (scope : Byte) :
    scopeSides g scope = if scope = 2 then some [] else none := by
  rw [scopeSides, if_neg (by simp [hg])]

/-! ### The writes -/

/-- Where a side group's settings stand. -/
def groupPart : Group → Side → Part
  | .exposure, sd => .pipe sd
  | .tone, sd => .pipe sd
  | .glare, sd => .glare sd
  | _, sd => .comp sd

section
variable (f : Fields) (u : State)

theorem unchanged_writeSide (g : Group) (sd : Side) : Unchanged [groupPart g sd] u (writeSide g f sd u).value := by
  cases g with
  | exposure | tone => exact unchanged_setPipe u sd _
  | glare => exact unchanged_setGlare u sd _
  | view => exact unchanged_setComp u sd _
  | _ => exact .refl

/-- The sides that a scope names, of which sd is one. -/
def Names (sd : Side) (sides : List Side) : Prop := sides = [sd] ∨ sides = [.left, .right]

theorem unchanged_writeScope {sd : Side} {sides : List Side} (h : Names sd sides) (g : Group) :
    Unchanged [groupPart g .left, groupPart g .right] u (writeScope g f sides u).value := by
  rcases h with rfl | rfl
  · exact (unchanged_writeSide f u g sd).mono (by cases sd <;> simp)
  · exact ((unchanged_writeSide f u g .left).mono (by simp)).trans ((unchanged_writeSide f _ g .right).mono (by simp))

section
variable {sd : Side} {sides : List Side} (h : Names sd sides)
include h

theorem writeScope_exposure : (writeScope .exposure f sides u).value.pipe sd =
    { u.pipe sd with expPend := (writeExposure f (u.pipe sd).expAct (u.pipe sd).expPend).value } := by
  rcases h with rfl | rfl
  · exact State.setPipe_pipe ..
  · cases sd <;> rfl

theorem writeScope_glare : (writeScope .glare f sides u).value.glare sd =
    { u.glare sd with pend := (writeGlare f (u.glare sd).pend).value } := by
  rcases h with rfl | rfl
  · exact State.setGlare_glare ..
  · cases sd <;> rfl

theorem writeScope_tone : (writeScope .tone f sides u).value.pipe sd =
    { u.pipe sd with tonePend := (writeTone f (u.pipe sd).tonePend).value } := by
  rcases h with rfl | rfl
  · exact State.setPipe_pipe ..
  · cases sd <;> rfl

theorem writeScope_view : (writeScope .view f sides u).value.comp sd =
    { u.comp sd with pend := (writeView f (u.comp sd).pend).value } := by
  rcases h with rfl | rfl
  · exact State.setComp_comp ..
  · cases sd <;> rfl

end

end

/-- A scope that names a side of a side group. -/
theorem scopeSides_names {g : Group} {scope : Byte} {sd : Side} (hg : g.isSideGroup = true) (h : scope.toNat = sideCode sd ∨ scope = 3) :
    ∃ sides, scopeSides g scope = some sides ∧ Names sd sides ∧ (scope ≠ 3 → sides = [sd]) := by
  rcases h with h | rfl
  · exact ⟨_, scopeSides_side hg h, .inl rfl, fun _ => rfl⟩
  · exact ⟨_, scopeSides_both hg, .inr rfl, fun hne => absurd rfl hne⟩

/-- A side group's settings stand in the blocks of its side. -/
theorem other_side_untouched (g : Group) (sd : Side) {p : Part} (hp : p ∈ sideParts (Side.other sd)) :
    p ∉ answerParts ++ [groupPart g sd] := by
  revert p
  cases g <;> cases sd <;> decide

/-! ### The reply -/

section
variable {head : ReqHead} {group scope : Byte} {mask : BitVec 32} {values : List Byte} {s : State}

/-- A SET of a group whose scope is unsuited. -/
theorem carryOut_set_refused {g : Group} (hg : groupOf group = some g) (hs : scopeSides g scope = none) (tag : Byte) (u : State) :
    carryOut .set tag (setPayload group scope mask values) u = refuse Kind.set.code tag .badArgument u := by
  show takeSet tag (setPayload group scope mask values) u = _
  simp only [takeSet, show (setPayload group scope mask values).getD 0 0 = group from rfl,
    show (setPayload group scope mask values).getD 1 0 = scope from rfl, hg, hs]

/-- A SET of a group at a scope that suits it. -/
theorem carryOut_set {g : Group} {sides : List Side} (hg : groupOf group = some g) (hs : scopeSides g scope = some sides) (tag : Byte)
    (u : State) : carryOut .set tag (setPayload group scope mask values) u =
      if g = .fault ∧ u.faults.locked then refuse Kind.set.code tag .refusedLocked u
      else carrySet tag g sides ⟨splitFields g.widths 0 mask values⟩ u := by
  show takeSet tag (setPayload group scope mask values) u = _
  simp only [takeSet, show (setPayload group scope mask values).getD 0 0 = group from rfl,
    show (setPayload group scope mask values).getD 1 0 = scope from rfl, hg, hs, setFields_setPayload]

theorem adjusted_code_masks (c i : BitVec 32) : (adjusted (c ≠ 0 || i ≠ 0)).code = if c = 0 ∧ i = 0 then 0 else 1 := by
  rw [adjusted_code]
  by_cases hc : c = 0#32 <;> by_cases hi : i = 0#32 <;> simp [hc, hi]

/-- The reply of a SET carries the masks of its writes. -/
theorem carrySet_replied {payload : List Byte} (h : Reaches Kind.set.code head payload s) (g : Group) (sides : List Side) (f : Fields)
    {touched : List Part} (frame : Unchanged touched (taken head s) (writeScope g f sides (taken head s)).value)
    (hl : .receiver ∉ touched ∧ .holder ∉ touched ∧ .vehicle ∉ touched ∧ .linkCounters ∉ touched := by simp) :
    let w := writeScope g f sides (taken head s)
    Replied .set head (if w.clamped = 0 ∧ w.ignored = 0 then 0 else 1) (be32 w.clamped ++ be32 w.ignored) s
        (carrySet head.tag g sides f (taken head s))
      ∧ AnswerTouches touched s (carrySet head.tag g sides f (taken head s)) := by
  intro w
  rw [← adjusted_code_masks]
  exact ⟨replied_of (k := .set) h _ (link_of_unchanged frame hl), answerTouches_of frame⟩

end

/-- Settles O49: what is refused, in the order in which a SET is judged, and the write of each group. -/
theorem setIsJudgedThenWritten : Obligations.SetIsJudgedThenWritten := by
  intro head group scope mask values s hfits h
  have run : exec (.set head group scope mask values) s
      = .next (completeRequest Kind.set.code head (setPayload group scope mask values) s) :=
    exec_request rfl (by simpa [Instr.wellFormed, payloadFits] using hfits) s
  refine ⟨_, run, fun hgroup => ?_, fun g hg => ?_⟩
  · rw [completeRequest_of_unsuited (k := .set) h (unsuited_of_noGroup group scope mask values (groupOf_beyond group hgroup))]
    exact answered_refuse_untaken h .badArgument
  intro f
  refine ⟨fun hmask => ?_, fun hmask hlen => ?_, fun hmask hlen => ?_⟩
  · have bad : unsuited .set (setPayload group scope mask values) = some .badArgument := by
      rw [unsuited_of_group group scope mask values hg, if_neg (by simpa [maskFits] using hmask)]
    rw [completeRequest_of_unsuited (k := .set) h bad]
    exact answered_refuse_untaken h .badArgument
  · have bad : unsuited .set (setPayload group scope mask values) = some .badLength := by
      rw [unsuited_of_group group scope mask values hg, if_pos (by simpa [maskFits] using hmask), lengthResult, if_neg (by simpa using hlen)]
    rw [completeRequest_of_unsuited (k := .set) h bad]
    exact answered_refuse_untaken h .badLength
  · have suits : unsuited .set (setPayload group scope mask values) = none := by
      rw [unsuited_of_group group scope mask values hg, if_pos (by simpa [maskFits] using hmask), lengthResult, if_pos (by simpa using hlen)]
    rw [completeRequest_of_suited (k := .set) h suits]
    have refused (hs : scopeSides g scope = none) :
        Refused .set head 7 [] s (carryOut .set head.tag (setPayload group scope mask values) (taken head s)) := by
      rw [carryOut_set_refused hg hs]
      exact refused_refuse (k := .set) h .badArgument
    have carried {sides : List Side} (hs : scopeSides g scope = some sides) (hfree : g = .fault → s.faults.locked = false) :
        carryOut .set head.tag (setPayload group scope mask values) (taken head s) = carrySet head.tag g sides f (taken head s) := by
      rw [carryOut_set hg hs, if_neg]
      rintro ⟨hf, hlocked⟩
      exact absurd (hfree hf) (by simpa using (show s.faults.locked = true from hlocked))
    refine ⟨fun hside hscope => ?_, fun hcommon hscope => ?_, fun hf hscope hlocked => ?_, fun hf hscope hfree => ?_,
      fun hnight hscope => ?_, fun hback hscope => ?_, fun sd hnamed => ?_, fun hboth hside => ?_, fun sd hside hscope => ?_⟩
    · exact refused (scopeSides_beyond (by rcases hside with rfl | rfl | rfl | rfl <;> rfl) hscope)
    · exact refused ((scopeSides_common (by rcases hcommon with rfl | rfl | rfl <;> rfl) scope).trans (if_neg hscope))
    · have locked : carryOut .set head.tag (setPayload group scope mask values) (taken head s)
          = refuse Kind.set.code head.tag .refusedLocked (taken head s) := by
        rw [carryOut_set hg ((scopeSides_common (by rw [hf]; rfl) scope).trans (if_pos hscope))]
        exact if_pos ⟨hf, hlocked⟩
      rw [locked]
      exact refused_refuse (k := .set) h .refusedLocked
    · subst hf
      obtain ⟨group, applied, frame⟩ := writtenFaults_applied f (taken head s)
      obtain ⟨replied, touched⟩ := carrySet_replied h .fault [] f frame (by simp [bothFaultParts, faultParts])
      have ignored : (writeScope .fault f [] (taken head s)).ignored = 0 := rfl
      simp only [ignored, and_true] at replied
      rw [carried ((scopeSides_common rfl scope).trans (if_pos hscope)) fun _ => hfree]
      exact ⟨group, applied, replied, touched⟩
    · subst hnight
      obtain ⟨replied, touched⟩ := carrySet_replied h .night [] f (touched := [.night]) (unchanged_setNight _ _)
      rw [carried ((scopeSides_common rfl scope).trans (if_pos hscope)) nofun]
      exact ⟨rfl, replied, touched⟩
    · subst hback
      obtain ⟨replied, touched⟩ := carrySet_replied h .backlight [] f (touched := [.night]) (unchanged_setNight _ _)
      rw [carried ((scopeSides_common rfl scope).trans (if_pos hscope)) nofun]
      exact ⟨rfl, replied, touched⟩
    · have wrote (hside : g.isSideGroup = true) : ∃ sides, Names sd sides
          ∧ carryOut .set head.tag (setPayload group scope mask values) (taken head s) = carrySet head.tag g sides f (taken head s)
          ∧ (scope ≠ 3 →
              let w := writeSide g f sd (taken head s)
              Replied .set head (if w.clamped = 0 ∧ w.ignored = 0 then 0 else 1) (be32 w.clamped ++ be32 w.ignored) s
                (carrySet head.tag g sides f (taken head s)))
          ∧ AnswerTouches [groupPart g .left, groupPart g .right] s (carrySet head.tag g sides f (taken head s)) := by
        obtain ⟨sides, hs, names, alone⟩ := scopeSides_names hside hnamed
        obtain ⟨replied, touched⟩ := carrySet_replied h g sides f (unchanged_writeScope f _ names g) (by cases g <;> simp [groupPart])
        refine ⟨sides, names, carried hs (by rintro rfl; cases hside), fun hne => ?_, touched⟩
        obtain rfl := alone hne
        exact replied
      refine ⟨fun hg => ?_, fun hg => ?_, fun hg => ?_, fun hg => ?_⟩
      · obtain ⟨sides, names, written, replied, touched⟩ := wrote (by rw [hg]; rfl)
        subst hg
        rw [written]
        exact ⟨writeScope_exposure f _ names, replied, touched⟩
      · obtain ⟨sides, names, written, replied, touched⟩ := wrote (by rw [hg]; rfl)
        subst hg
        rw [written]
        exact ⟨writeScope_glare f _ names, replied, touched⟩
      · obtain ⟨sides, names, written, replied, touched⟩ := wrote (by rw [hg]; rfl)
        subst hg
        rw [written]
        exact ⟨writeScope_tone f _ names, replied, touched⟩
      · obtain ⟨sides, names, written, replied, touched⟩ := wrote (by rw [hg]; rfl)
        subst hg
        rw [written]
        exact ⟨writeScope_view f _ names, replied, touched⟩
    · subst hboth
      obtain ⟨replied, -⟩ := carrySet_replied h g [.left, .right] f (unchanged_writeScope f _ (sd := .left) (.inr rfl) g)
        (by cases g <;> simp [groupPart])
      rw [carried (scopeSides_both hside) (by rintro rfl; cases hside)]
      cases g with
      | exposure | glare | tone | view => exact replied
      | night | backlight | fault => cases hside
    · obtain ⟨-, touched⟩ := carrySet_replied h g [sd] f (unchanged_writeSide f _ g sd) (by cases g <;> simp [groupPart])
      rw [carried (scopeSides_side hside hscope) (by rintro rfl; cases hside)]
      exact fun p hp => touched p (other_side_untouched g sd hp)

end Sys2Proof.Proofs.SetReplies
end

section
set_option Elab.async false
/-! The two copies share no state: what an event of one side can touch (00, Block overview; O11). -/

namespace Sys2Proof.Proofs.SeparateSides

open Sys2Proof Sys2Proof.Machine Sys2Proof.Proofs.Blocks Sys2Proof.Proofs.TrainingCompletion Sys2Proof.Proofs.StatisticsCommit

/-! ### What one side can touch -/

/-- All the state but the pieces of the other side. -/
abbrev ownParts (sd : Side) : List Part :=
  [.port sd, .pipe sd, .exposure sd, .glare sd, .comp sd, .store sd, .display sd, .runs sd, .flatZones sd, .context sd, .timebase, .power,
    .night, .faultSets, .queue, .receiver, .holder, .linkCounters, .sent]

/-- A change within one side's own pieces and the common ones. -/
abbrev Own (sd : Side) (s t : State) : Prop := Unchanged (ownParts sd) s t

theorem other_side_apart (sd : Side) {p : Part} (hp : p ∈ sideParts (Side.other sd)) : p ∉ ownParts sd := by
  revert p
  cases sd <;> decide

variable {s t u : State} {sd : Side}

/-- An operation whose frame lies within the side's own pieces. -/
theorem own {l : List Part} (h : Unchanged l s t) (hl : l ⊆ ownParts sd := by simp) : Own sd s t := h.mono hl

section
variable (s sd)

theorem own_setPort (v : Port) : Own sd s (s.setPort sd v) := own (unchanged_setPort s sd v)
theorem own_setDisplay (v : Display) : Own sd s (s.setDisplay sd v) := own (unchanged_setDisplay s sd v)
theorem own_setRuns (v : Runs) : Own sd s (s.setRuns sd v) := own (unchanged_setRuns s sd v)
theorem own_setTimebase (v : Time) : Own sd s (s.setTimebase v) := own (unchanged_setTimebase s v)
theorem own_emit (m : Sent) : Own sd s (s.emit m) := own (unchanged_emit s m)
theorem own_clearFault (f : FaultId) : Own sd s (clearFault f s) := own (unchanged_clearFault s f)

/-- A raise of an identity that is no view loss or one of this side. -/
theorem own_raise {f : FaultId} (hf : f.viewLossSide = none ∨ f.viewLossSide = some sd) : Own sd s (raise f s) := by
  rcases hf with hf | hf
  · exact own (unchanged_raise s hf)
  · exact own (unchanged_raise_viewLoss s sd hf) (by simp [faultParts])

theorem own_changeDisplay {new : DisplayState} (h : new ≠ .dark) : Own sd s (changeDisplay sd new s) := own (unchanged_changeDisplay s sd h)

theorem own_judgeRunning : Own sd s (judgeRunning s) := own (unchanged_judgeRunning s)

theorem own_tryFrameStart : Own sd s (tryFrameStart sd s) := own (unchanged_tryFrameStart s sd)

/-! ### The sensor port -/

theorem own_identityRecord (identity : BitVec 64) (revision : Byte) (h : execIdentityRecord sd identity revision s = .next t) :
    Own sd s t := by
  unfold execIdentityRecord at h; split at h <;> cases h
  · exact own (unchanged_storeIdentity revision s) |>.trans (own (unchanged_judgeTraining _ sd identity))
      |>.trans (own (unchanged_startStreaming _)) |>.trans (own_judgeRunning _ sd)
  · exact .refl

theorem own_enterLost : Own sd s (enterLost sd s) :=
  own_setPort s sd _ |>.trans (own_setRuns _ sd _) |>.trans (own_raise _ sd (.inr rfl)) |>.trans (own_judgeRunning _ sd)

theorem own_trainingDeadline (h : execTrainingDeadline sd s = .next t) : Own sd s t := by
  unfold execTrainingDeadline at h; split at h <;> cases h
  · exact .refl
  · exact own_setTimebase s sd _ |>.trans (own_setPort _ sd _) |>.trans (own_enterLost _ sd)

theorem own_retrainTime (h : execRetrainTime sd s = .next t) : Own sd s t := by
  unfold execRetrainTime at h; split at h <;> cases h
  · exact .refl
  · exact own_setTimebase s sd _ |>.trans (own_setPort _ sd _) |>.trans (own (unchanged_startTraining _ sd))

theorem own_lossDeadline (h : execLossDeadline sd s = .next t) : Own sd s t := by
  unfold execLossDeadline at h; split at h <;> cases h
  · exact .refl
  · exact own_setTimebase s sd _ |>.trans (own_setPort _ sd _) |>.trans (own_enterLost _ sd)

theorem own_sensorHeader (counter : BitVec 16) (exposure ratio : Byte) (healthy : Bool)
    (h : execSensorHeader sd counter exposure ratio healthy s = .next t) : Own sd s t := by
  unfold execSensorHeader at h; simp only at h; split at h
  · split at h <;> cases h
    · exact own_setPort s sd _
    · exact (own_setPort s sd _).trans (own_setRuns _ sd _)
  · cases h; exact .refl

theorem own_advanceRecovery : Own sd s (advanceRecovery sd s) := by
  unfold advanceRecovery; simp only; split
  · split
    · exact (own_setRuns s sd _).trans (own_clearFault _ sd _)
    · exact own_setRuns s sd _
  · exact own_setRuns s sd _

theorem own_judgeControl (settled : Bool) (run : Nat) : Own sd s (judgeControl sd settled run s) := by
  unfold judgeControl; split
  · exact own_clearFault s sd _
  · split
    · exact own_raise s sd (.inl rfl)
    · exact .refl

theorem own_completeFrame (f : FrameInProgress) : Own sd s (completeFrame sd f s) := by
  unfold completeFrame; simp only; split
  · exact (own_setPort s sd _).trans (own_setRuns _ sd _)
  · exact own_setPort s sd _
      |>.trans (own (ValidFrame.unchanged_judgeSettled _))
      |>.trans (own (unchanged_handOver _ sd _))
      |>.trans (own_advanceRecovery _ sd)
      |>.trans (own_judgeControl _ sd _ _)

theorem own_sensorLine (samples : Array Sample) (crc : BitVec 16) (h : execSensorLine sd samples crc s = .next t) : Own sd s t := by
  unfold execSensorLine at h; split at h
  · split at h <;> cases h
    · unfold storeLine; simp only; split
      · exact (own_setPort s sd _).trans (own_completeFrame _ sd _)
      · exact own_setPort s sd _
    · exact .refl
  · cases h

/-! ### Development, the adaptation commit and composition -/

theorem own_frozenCount (signature : BitVec 32) : Own sd s (frozenCount sd signature s) := by
  unfold frozenCount; simp only; split
  · split
    · exact (own_setRuns s sd _).trans (own_clearFault _ sd _)
    · exact own_setRuns s sd _
  · split
    · exact (own_setRuns s sd _).trans (own_raise _ sd (.inr rfl))
    · exact own_setRuns s sd _

theorem own_request (p : RunPair) {f : FaultId} (hf : f.viewLossSide = none ∨ f.viewLossSide = some sd) : Own sd s (p.request f s) := by
  unfold RunPair.request; split
  · exact own_raise s sd hf
  · split
    · exact own_clearFault s sd f
    · exact .refl

theorem own_faultCounts (settled : Bool) (signature : BitVec 32) (flat : Nat) : Own sd s (faultCounts sd settled signature flat s) := by
  have obscured (u : State) : Own sd u (obscuredCount sd flat u) := (own_setRuns u sd _).trans (own_request _ sd _ (.inl rfl))
  have limited (u : State) (condition : Bool) : Own sd u (limitCount sd settled condition u) := by
    unfold limitCount; split
    · exact (own_setRuns u sd _).trans (own_request _ sd _ (.inl rfl))
    · exact .refl
  have saturated (u : State) (atMax : Nat) : Own sd u (saturationCount sd atMax u) :=
    (own_setRuns u sd _).trans (own_request _ sd _ (.inl rfl))
  exact own (unchanged_setFlatZones sd flat s) |>.trans (own_frozenCount _ sd signature) |>.trans (obscured _) |>.trans (limited _ _)
    |>.trans (saturated _ _)

theorem own_endSave (settled : Bool) : Own sd s (endSave sd settled s) := own (unchanged_endSave s sd settled) (by simp [answerParts])

theorem own_commit (settled : Bool) (records : List ZoneRecord) (signature : BitVec 32) :
    Own sd s (commit sd settled records signature s) := by
  have glared : Own sd s (commitGlare sd records s) := (own (unchanged_setContext s sd _)).trans (own (unchanged_setGlare _ sd _))
  have exposed (u : State) (tags : ZoneMap Bool) : Own sd u (commitExposure sd settled records tags u) := own (unchanged_setExposure u sd _)
  have counted := glared.trans (exposed _ (s.glare sd).tags)
    |>.trans (own_faultCounts _ sd settled signature (records.countP ZoneRecord.flat))
  refine Unchanged.trans ?_ (own_endSave _ sd true)
  split
  · exact counted
  · exact counted.trans (own (unchanged_deliverE _ sd))

theorem own_statisticsCompletion (h : execStatisticsCompletion sd s = .next t) : Own sd s t := by
  unfold execStatisticsCompletion at h; split at h
  · cases h; exact .refl
  · split at h <;> cases h
    · exact .refl
    · exact (own (unchanged_finishStatistics s sd _ _)).trans (own_commit _ sd _ _ _)

theorem own_developmentCompletion (h : execDevelopmentCompletion sd s = .next t) : Own sd s t := by
  unfold execDevelopmentCompletion at h; split at h
  · cases h; exact .refl
  · split at h <;> cases h
    · exact own (unchanged_finishDevelopment s sd _) |>.trans (own (unchanged_startIntake _ sd)) |>.trans (own_tryFrameStart _ sd)
    · exact .refl

theorem own_compositionCompletion (h : execCompositionCompletion sd s = .next t) : Own sd s t := by
  unfold execCompositionCompletion at h; split at h <;> cases h
  · exact .refl
  · exact (own (unchanged_finishComposition s sd _)).trans (own_tryFrameStart _ sd)

/-! ### The display port -/

theorem own_startWake : Own sd s (startWake sd s) := own (unchanged_startWake s sd)

theorem own_wakeDeadline (h : execWakeDeadline sd s = .next t) : Own sd s t := by
  unfold execWakeDeadline at h; split at h
  · cases h; exact .refl
  · simp only at h
    split at h <;> cases h
    · exact (own_setTimebase s sd _).trans (own (unchanged_sendBurst _ sd _))
    · exact own_setTimebase s sd _ |>.trans (own_setDisplay _ sd _) |>.trans (own_raise _ sd (.inl rfl))

theorem own_wakeRetryTime (h : execWakeRetryTime sd s = .next t) : Own sd s t := by
  unfold execWakeRetryTime at h; split at h <;> cases h
  · exact .refl
  · exact (own_setTimebase s sd _).trans (own_startWake _ sd)

theorem own_ready (identity : BitVec 32) (h : execReady sd identity s = .next t) : Own sd s t := by
  unfold execReady at h; split at h <;> cases h
  · exact own_setDisplay s sd _ |>.trans (own_setRuns _ sd _) |>.trans (own_clearFault _ sd _) |>.trans (own_changeDisplay _ sd (by simp))
  · exact .refl

theorem own_call (h : execCall sd s = .next t) : Own sd s t := by
  unfold execCall at h; simp only at h; split at h
  · split at h <;> cases h
    · exact own_startWake s sd
    · exact own_setDisplay s sd _
  · cases h; exact .refl

theorem own_judgeDisplay : Own sd s (judgeDisplay sd s) := by
  have moved (new : DisplayState) (h : new ≠ .dark := by simp) : Own sd s (changeDisplay sd new s) := own_changeDisplay s sd h
  unfold judgeDisplay; split
  · unfold judgePriming; split
    · exact moved .blanked
    · split
      · exact moved .live
      · exact .refl
  · unfold judgeHold; split
    · split
      · exact moved .blanked
      · exact own_setDisplay s sd _
    · exact moved .live
  · split
    · exact .refl
    · exact moved .live
  · exact .refl

theorem own_sendFrame (handed : Option SlotRecord) : Own sd s (sendFrame sd handed s) := by
  unfold sendFrame; simp only; split
  · exact (own_emit s sd _).trans (own_setDisplay _ sd _)
  · exact (own_emit s sd _).trans (own_setDisplay _ sd _)

theorem own_sendOutbound : Own sd s (sendOutbound sd s) := by
  unfold sendOutbound; split
  · exact .refl
  · exact (own_emit s sd _).trans (own_setDisplay _ sd _)

theorem own_judgeStale (age : Time) : Own sd s (judgeStale sd age s) := by
  unfold judgeStale; simp only
  refine (own_setDisplay s sd { s.display sd with lastAge := some age }).trans ?_
  split
  · split
    · exact own_setRuns _ sd _
    · split
      · exact (own_setRuns _ sd _).trans (own_clearFault _ sd _)
      · exact own_setRuns _ sd _
  · split
    · exact own_raise _ sd (.inr rfl)
    · exact .refl

theorem own_evaluateStale (handed : Option SlotRecord) : Own sd s (evaluateStale sd handed s) := by
  unfold evaluateStale; split
  · exact own_judgeStale s sd _
  · exact .refl

theorem own_pathFailed {k : State → State} (hk : Unchanged [.display sd, .sent, .queue, .comp sd, .runs sd, .faultSets] s (k s)) :
    Own sd s (pathFailed sd k s) := own (unchanged_pathFailed s sd k hk)

theorem own_silenceReached : Own sd s (silenceReached sd s) :=
  (own_setDisplay s sd _).trans (own_pathFailed _ sd ((unchanged_setRuns _ sd _).mono (by simp)))

theorem own_judgeSilence : Own sd s (judgeSilence sd s) := by
  unfold judgeSilence; simp only
  refine (own_setDisplay s sd { s.display sd with silence := (s.display sd).silence + 1 }).trans ?_
  split
  · exact own_silenceReached _ sd
  · exact .refl

/-- The seven steps of a scan start (R105). -/
theorem own_scan : Own sd s (scan sd s) :=
  own_judgeDisplay s sd |>.trans (own (unchanged_setStore _ sd _)) |>.trans (own_sendFrame _ sd _) |>.trans (own_sendOutbound _ sd)
    |>.trans (own_evaluateStale _ sd _) |>.trans (own_judgeSilence _ sd)

theorem own_scanStart (h : execScanStart sd s = .next t) : Own sd s t := by
  unfold execScanStart at h; split at h <;> cases h
  · exact .refl
  · exact own_setTimebase s sd _ |>.trans (own_setDisplay _ sd _) |>.trans (own_scan _ sd)

theorem own_holdExpiry (h : execHoldExpiry sd s = .next t) : Own sd s t := by
  unfold execHoldExpiry at h; simp only at h; split at h
  · split at h <;> cases h
    · exact (own_setTimebase s sd _).trans (own (unchanged_expireHold _ sd))
    · exact .refl
  · cases h; exact .refl

theorem own_echoSilence (h : execEchoSilence sd s = .next t) : Own sd s t := by
  unfold execEchoSilence at h; split at h
  · split at h <;> cases h
    · exact own_silenceReached s sd
    · exact .refl
  · cases h; exact .refl

theorem own_advanceMatch : Own sd s (advanceMatch sd s) := by
  unfold advanceMatch; simp only; split
  · split
    · exact (own_setRuns s sd _).trans (own_clearFault _ sd _)
    · exact own_setRuns s sd _
  · exact .refl

theorem own_judgeEcho (x : BitVec 32) : Own sd s (judgeEcho sd x s) := by
  unfold judgeEcho; simp only; split
  · exact (own_setDisplay s sd _).trans (own_advanceMatch _ sd)
  · exact own_setDisplay s sd _ |>.trans (own_setRuns _ sd _) |>.trans (own_pathFailed _ sd .refl)

theorem own_echo (signature : BitVec 32) (h : execEcho sd signature s = .next t) : Own sd s t := by
  unfold execEcho at h; split at h <;> cases h
  · exact own_judgeEcho s sd signature
  · exact .refl

theorem own_monitorStatus (fault : Bool) (temperature : Byte) (h : execMonitorStatus sd fault temperature s = .next t) : Own sd s t := by
  unfold execMonitorStatus at h; split at h
  · simp only at h
    cases fault <;> cases h
    · exact (own_setDisplay s sd _).trans (own_clearFault _ sd _)
    · exact (own_setDisplay s sd _).trans (own_raise _ sd (.inl rfl))
  · cases h; exact .refl

theorem own_monitorReply (bytes : List Byte) (h : execMonitorReply sd bytes s = .next t) : Own sd s t := by
  unfold execMonitorReply at h; split at h
  · split at h <;> cases h
    · exact (own (unchanged_report s _)).trans (own_setDisplay _ sd _)
    · exact .refl
  · cases h

theorem own_saveDeadline (h : execSaveDeadline sd s = .next t) : Own sd s t := by
  unfold execSaveDeadline at h; split at h <;> cases h
  · exact .refl
  · exact (own_setTimebase s sd _).trans (own_endSave _ sd false)

end

/-- An event of a side touches nothing of the other. -/
theorem own_exec {c : Instr} (hc : eventSide c = some sd) (h : exec c s = .next t) : Own sd s t := by
  cases c with
  | identityRecord sd' i r => cases hc; exact own_identityRecord s sd i r h
  | trainingDeadline sd' => cases hc; exact own_trainingDeadline s sd h
  | retrainTime sd' => cases hc; exact own_retrainTime s sd h
  | lossDeadline sd' => cases hc; exact own_lossDeadline s sd h
  | sensorHeader sd' n e r ok => cases hc; exact own_sensorHeader s sd n e r ok h
  | sensorLine sd' samples crc => cases hc; exact own_sensorLine s sd samples crc h
  | statisticsCompletion sd' => cases hc; exact own_statisticsCompletion s sd h
  | developmentCompletion sd' => cases hc; exact own_developmentCompletion s sd h
  | compositionCompletion sd' => cases hc; exact own_compositionCompletion s sd h
  | wakeDeadline sd' => cases hc; exact own_wakeDeadline s sd h
  | wakeRetryTime sd' => cases hc; exact own_wakeRetryTime s sd h
  | ready sd' i => cases hc; exact own_ready s sd i h
  | call sd' => cases hc; exact own_call s sd h
  | scanStart sd' => cases hc; exact own_scanStart s sd h
  | holdExpiry sd' => cases hc; exact own_holdExpiry s sd h
  | echoSilence sd' => cases hc; exact own_echoSilence s sd h
  | echo sd' x => cases hc; exact own_echo s sd x h
  | monitorStatus sd' fault temperature => cases hc; exact own_monitorStatus s sd fault temperature h
  | monitorReply sd' bytes => cases hc; exact own_monitorReply s sd bytes h
  | saveDeadline sd' => cases hc; exact own_saveDeadline s sd h
  | _ => cases hc

/-- Settles O11: the frame of every event of a side. -/
theorem sidesShareNoState : Obligations.SidesShareNoState := by
  intro c sd s t hc h p hp
  exact own_exec hc h p (other_side_apart sd hp)

end Sys2Proof.Proofs.SeparateSides
end

section
set_option Elab.async false
/-! The sections of STATUS and the groups of GET: the bytes that Layout lays out are those that the replies carry (R166, 12.3, 12.5). -/

namespace Sys2Proof.Proofs.ReadPayloads

open Sys2Proof Sys2Proof.Machine Sys2Proof.Proofs.SavesEnd

/-! ### Values -/

theorem u1_byte1 : Layout.u1 = byte1 := funext Layout.u1_eq
theorem u2_word2 : Layout.u2 = word2 := funext Layout.u2_eq
theorem u4_long4 : Layout.u4 = long4 := funext Layout.u4_eq
theorem s2_i16Bytes : Layout.s2 = i16Bytes := rfl
theorem flag_boolByte : Layout.flag = boolByte := rfl
theorem named_namedByte : Layout.named = namedByte := rfl
theorem part_statusPart : Layout.part = statusPart := by
  funext number contents
  rw [Layout.part, u1_byte1, u2_word2, statusPart]

theorem nightState_code : Layout.nightState = fun n => [NightState.code n] := by funext n; cases n <;> rfl

theorem optBytes_map {α β : Type} (width : Nat) (enc : β → List Byte) (g : α → β) (v : Option α) :
    optBytes width enc (v.map g) = optBytes width (fun x => enc (g x)) v := by cases v <;> rfl

theorem second_isSome {α : Type} (v : Option α) [Decidable (v = none)] : second v.isSome = if v = none then 0 else 1 := by
  cases v <;> simp [second]

/-- The values of one width that a rule lists together, one after another. -/
theorem append_flatMap_cons {α : Type} (x : List Byte) (enc : α → List Byte) (a : α) (l : List α) :
    x ++ (a :: l).flatMap enc = x ++ enc a ++ l.flatMap enc := by
  rw [List.flatMap_cons, List.append_assoc]

theorem monitorStatus_bytes :
    MonitorStatus.bytes = fun m => boolByte m.fault ++ (i16Bytes m.temperature.toInt ++ be32 m.arrival) :=
  funext fun _ => List.append_assoc ..

theorem colour_bytes : Colour.bytes = fun c => beBytes 2 c.r ++ (beBytes 2 c.g ++ beBytes 2 c.b) :=
  funext fun _ => List.append_assoc ..

section
variable (s : State) (sd : Side)

theorem power_section : Layout.power s = powerSection s := by
  simp only [Layout.power, powerSection, u1_byte1, named_namedByte, flag_boolByte, Layout.opt_eq]
  congr 4
  · cases s.power.state <;> rfl

theorem port_section : Layout.port s sd = portSection s sd := by
  simp only [Layout.port, portSection, u1_byte1, u2_word2, u4_long4, named_namedByte, flag_boolByte, Layout.opt_eq, optTime, optNumber,
    optBytes_map]
  rfl

theorem pipe_section : Layout.pipe s sd = pipeSection s sd := by
  simp only [Layout.pipe, pipeSection, u2_word2, u4_long4, named_namedByte, Layout.opt_eq, optTime, optNumber,
    Developed.numberBytes, optBytes_map, List.flatMap_cons, List.flatMap_nil, List.append_assoc, List.append_nil]
  rw [second_isSome]
  rfl

theorem exposure_section : Layout.exposure s sd = exposureSection s sd := by
  simp only [Layout.exposure, exposureSection, u1_byte1, u2_word2, u4_long4, s2_i16Bytes, Layout.opt_eq, optLong, optWord,
    List.flatMap_cons, List.flatMap_nil, List.append_assoc, List.append_nil]

theorem night_section : Layout.night s = nightSection s := by
  simp only [Layout.night, nightSection, u2_word2, named_namedByte, flag_boolByte, Layout.opt_eq, nightState_code, List.append_assoc]
  rfl

theorem glare_section : Layout.glare s sd = glareSection s sd := by
  simp only [Layout.glare, glareSection, u2_word2, List.flatMap_cons, List.flatMap_nil, List.append_assoc, List.append_nil]
  rw [List.countP_eq_length_filter]
  simp only [Bool.decide_eq_true]
  rfl

theorem compositor_section : Layout.compositor s sd = compositorSection s sd := by
  simp only [Layout.compositor, compositorSection, u1_byte1, u2_word2, u4_long4, named_namedByte, flag_boolByte, Layout.opt_eq,
    append_flatMap_cons, List.flatMap_nil, List.append_nil]
  rw [second_isSome]
  rfl

theorem display_section : Layout.display s sd = displaySection s sd := by
  simp only [Layout.display, displaySection, u1_byte1, u2_word2, u4_long4, named_namedByte, flag_boolByte, s2_i16Bytes, Layout.opt_eq,
    optTime, optBytes_map, List.append_assoc]
  rw [monitorStatus_bytes]
  cases (s.display sd).state <;> rfl

theorem fault_section : Layout.faults s = faultSection s := by
  simp only [Layout.faults, faultSection, u2_word2, flag_boolByte, Layout.opt_eq, vehicleBytes, optBytes_map, List.flatMap_cons,
    List.flatMap_nil, List.append_assoc, List.append_nil]
  rfl

theorem queue_section : Layout.queue s = queueSection s := by
  simp only [Layout.queue, queueSection, u2_word2, u4_long4, flag_boolByte]
  rfl

theorem context_section : Layout.context s = contextSection s := by
  simp only [Layout.context, contextSection, contextBytes, u1_byte1, u4_long4, named_namedByte, nightState_code, Layout.opt_eq,
    List.flatMap_cons, List.flatMap_nil, List.append_assoc, List.append_nil]
  cases s.restartCause <;> rfl

theorem link_section : Layout.link s.link = linkSection s := by
  simp only [Layout.link, linkSection, u2_word2, u4_long4, flag_boolByte]
  rfl

theorem status_payload : Layout.status s = statusPayload s := by
  simp only [Layout.status, statusPayload, part_statusPart, power_section, port_section, pipe_section, exposure_section, night_section,
    glare_section, compositor_section, display_section, fault_section, queue_section, context_section, link_section]

end

/-! ### The groups (12.3) -/

theorem exposure_group (g : ExposureGroup) : Layout.exposureGroup g = g.bytes := by
  simp only [Layout.exposureGroup, ExposureGroup.bytes, Layout.u1_eq, Layout.u2_eq, Layout.u4_eq, meteringBytes]
  rw [List.map_eq_flatMap]
  simp only [beBytes_one]

theorem glare_group (g : GlareGroup) : Layout.glareGroup g = g.bytes := by
  simp only [Layout.glareGroup, GlareGroup.bytes, Layout.u1_eq, Layout.u2_eq, Layout.u4_eq, flag_boolByte]

theorem tone_group (g : ToneGroup) : Layout.toneGroup g = g.bytes := by
  rw [Layout.toneGroup, u2_word2]
  rfl

theorem view_group (g : ViewGroup) : Layout.viewGroup g = g.bytes := by
  simp only [Layout.viewGroup, ViewGroup.bytes, windowBytes, Layout.u1_eq, Layout.u2_eq, flag_boolByte, List.append_assoc]
  rw [colour_bytes]

theorem night_group (g : NightGroup) : Layout.nightGroup g = g.bytes := by
  simp only [Layout.nightGroup, NightGroup.bytes, Layout.u1_eq, Layout.u2_eq]

theorem backlight_group (g : BacklightGroup) : Layout.backlightGroup g = g.bytes := by
  simp only [Layout.backlightGroup, BacklightGroup.bytes, Layout.u2_eq, s2_i16Bytes]

theorem fault_group (g : FaultGroup) : Layout.faultGroup g = g.bytes := by
  simp only [Layout.faultGroup, FaultGroup.bytes, Layout.u1_eq, Layout.u2_eq, Layout.u4_eq]

end Sys2Proof.Proofs.ReadPayloads
end

section
set_option Elab.async false
/-! IDENT, STATUS and GET (R166; O48). -/

namespace Sys2Proof.Proofs.ReadRequests

open Sys2Proof Sys2Proof.Machine Sys2Proof.Proofs.SavesEnd Sys2Proof.Proofs.Answers Sys2Proof.Proofs.PlainRequests
  Sys2Proof.Proofs.ReadPayloads

section
variable {head : ReqHead} {s : State}

/-- A request that reads replies from the state as it stands once it is taken. -/
theorem reads {k : Kind} {payload : List Byte} (h : Reaches k.code head payload s) (out : List Byte) :
    Replied k head 0 out s (formReply k.code head.tag .ok out (taken head s))
      ∧ Unchanged answerParts s (formReply k.code head.tag .ok out (taken head s)) :=
  ⟨replied_of h .ok rfl, (unchanged_taken head s).trans (unchanged_formReply _ _ _ _ _)⟩

/-- The state that STATUS shows has the reply holder and the vehicle input as they stood. -/
theorem unchanged_taken_receiver : Unchanged [.receiver, .linkCounters] s (taken head s) := by
  have frame := unchanged_taken head s
  exact MonitorLink.Unchanged.erase (p := .holder) (frame.mono (by simp [answerParts])) ⟨rfl, rfl, rfl⟩

/-! ### IDENT -/

/-- One side of the payload by what is present. -/
theorem identSide_eq (s : State) (sd : Side) : identSide s sd =
    BitVec.ofNat 8 ((if (s.port sd).trained = none then 0 else 1) + (if (s.display sd).identity = none then 0 else 2))
      :: ((((s.port sd).trained.map SensorId.bytes).getD (List.replicate 9 0))
        ++ ((s.display sd).identity.map be32).getD (List.replicate 4 0)) := by
  simp only [identSide, byte1, beBytes_one]
  cases (s.port sd).trained <;> cases (s.display sd).identity <;> rfl

theorem identSide_length (s : State) (sd : Side) : (identSide s sd).length = 14 := by
  rw [identSide_eq]
  cases (s.port sd).trained <;> cases (s.display sd).identity <;> simp [SensorId.bytes, be64, be32, beBytes_length]

/-! ### GET -/

/-- What a GET reads at a scope that suits its group. -/
theorem carryOut_get {group scope : Byte} {g : Group} {bytes : List Byte} (hg : groupOf group = some g)
    (hb : groupBytes (taken head s) g scope = some bytes) :
    carryOut .get head.tag [group, scope] (taken head s)
      = formReply Kind.get.code head.tag .ok (group :: scope :: bytes) (taken head s) := by
  show takeGet head.tag [group, scope] (taken head s) = _
  have read : (groupOf ([group, scope].getD 0 0)).bind (fun k => groupBytes (taken head s) k ([group, scope].getD 1 0)) = some bytes := by
    show (groupOf group).bind _ = _
    rw [hg]
    exact hb
  simp only [takeGet, read]
  rfl

/-- A GET of no group, or at a scope that does not suit its group. -/
theorem carryOut_get_refused {group scope : Byte}
    (h : (groupOf group).bind (fun k => groupBytes (taken head s) k scope) = none) :
    carryOut .get head.tag [group, scope] (taken head s) = refuse Kind.get.code head.tag .badArgument (taken head s) := by
  show takeGet head.tag [group, scope] (taken head s) = _
  have read : (groupOf ([group, scope].getD 0 0)).bind (fun k => groupBytes (taken head s) k ([group, scope].getD 1 0)) = none := h
  simp only [takeGet, read]

/-- The groups that exist once per side stand before the common ones. -/
theorem groupBytes_side {u : State} {group scope : Byte} (h : group.toNat ≤ 3) (hs : 1 < scope.toNat) :
    (groupOf group).bind (fun k => groupBytes u k scope) = none := by
  have beyond := sideOf_beyond hs
  have cases : ∀ b : Byte, b.toNat ≤ 3 →
      groupOf b = some .exposure ∨ groupOf b = some .glare ∨ groupOf b = some .tone ∨ groupOf b = some .view := by decide
  rcases cases group h with hg | hg | hg | hg <;> rw [hg] <;> exact congrArg (Option.map _) beyond

theorem groupBytes_common {u : State} {group scope : Byte} (h : 4 ≤ group.toNat) (h' : group.toNat ≤ 6) (hs : scope ≠ 2) :
    (groupOf group).bind (fun k => groupBytes u k scope) = none := by
  have cases : ∀ b : Byte, 4 ≤ b.toNat → b.toNat ≤ 6 →
      groupOf b = some .night ∨ groupOf b = some .backlight ∨ groupOf b = some .fault := by decide
  rcases cases group h h' with hg | hg | hg <;> rw [hg] <;> exact if_neg hs

end

/-- Settles O48: each reply is formed of the state as it stands once the request is taken, and of nothing else. -/
theorem readingRequestsChangeNothing : Obligations.ReadingRequestsChangeNothing := by
  intro head s
  refine ⟨fun h => ?_, fun h => ?_, fun group scope h => ?_⟩
  · intro side payload
    have sides (sd : Side) : side sd = identSide (taken head s) sd := by
      rw [identSide_eq]
      show _ = BitVec.ofNat 8 ((if (s.port sd).trained = none then 0 else 1) + (if (s.display sd).identity = none then 0 else 2))
        :: ((((s.port sd).trained.map SensorId.bytes).getD (List.replicate 9 0))
          ++ ((s.display sd).identity.map be32).getD (List.replicate 4 0))
      simp only [side, List.cons_append]
      cases (s.port sd).trained <;> cases (s.display sd).identity <;> rfl
    have formed : payload = identPayload (taken head s) := by
      simp only [payload, sides]
      rfl
    obtain ⟨replied, frame⟩ := reads (k := .ident) h payload
    refine ⟨_, exec_of_suited (k := .ident) rfl h rfl, ?_, ?_, ?_⟩
    · simp only [payload, sides, List.length_append, identSide_length]
      rfl
    · rw [formed] at replied ⊢
      exact replied
    · rw [formed] at frame
      exact frame
  · obtain ⟨replied, frame⟩ := reads (k := .status) h (statusPayload (taken head s))
    refine ⟨_, taken head s, exec_of_suited (k := .status) rfl h rfl, rfl, unchanged_taken_receiver, ?_, frame⟩
    rw [status_payload]
    exact replied
  · have read {g : Group} {bytes : List Byte} (hg : groupOf group = some g) (hb : groupBytes (taken head s) g scope = some bytes) :
        Replied .get head 0 (group :: scope :: bytes) s (carryOut .get head.tag [group, scope] (taken head s)) := by
      rw [carryOut_get hg hb]
      exact (reads (k := .get) h _).1
    have refused (hb : (groupOf group).bind (fun k => groupBytes (taken head s) k scope) = none) :
        Refused .get head 7 [] s (carryOut .get head.tag [group, scope] (taken head s)) := by
      rw [carryOut_get_refused hb]
      exact refused_refuse (k := .get) h .badArgument
    refine ⟨_, exec_of_suited (k := .get) rfl h rfl, ?_, fun hg hs => refused (groupBytes_side hg hs),
      fun hg hg' hs => refused (groupBytes_common hg hg' hs), fun hg => refused ?_, fun sd hs => ⟨?_, ?_, ?_, ?_⟩,
      fun hs => ⟨?_, ?_, ?_⟩⟩
    · cases hb : (groupOf group).bind (fun k => groupBytes (taken head s) k scope) with
      | none => exact (refused hb).2
      | some bytes =>
        obtain ⟨g, hg, hbytes⟩ := Option.bind_eq_some_iff.mp hb
        rw [carryOut_get hg hbytes]
        exact (reads (k := .get) h _).2
    · rw [SetReplies.groupOf_beyond group hg]
      rfl
    · rintro rfl
      rw [exposure_group]
      exact read (g := .exposure) rfl (congrArg (Option.map _) (sideOf_code hs))
    · rintro rfl
      rw [glare_group]
      exact read (g := .glare) rfl (congrArg (Option.map _) (sideOf_code hs))
    · rintro rfl
      rw [tone_group]
      exact read (g := .tone) rfl (congrArg (Option.map _) (sideOf_code hs))
    · rintro rfl
      rw [view_group]
      exact read (g := .view) rfl (congrArg (Option.map _) (sideOf_code hs))
    · rintro rfl
      rw [night_group]
      exact read (g := .night) rfl (if_pos hs)
    · rintro rfl
      rw [backlight_group]
      exact read (g := .backlight) rfl (if_pos hs)
    · rintro rfl
      rw [fault_group]
      exact read (g := .fault) rfl (if_pos hs)

end Sys2Proof.Proofs.ReadRequests
end
